-- ==== Sys2Proof/Word.lean ====
section
/-! DEFINITION. Word types, byte strings and the sorted tables every unit of the NV8 model keeps.
Bit vectors stand for what the manual reads or writes as bits; counts, sizes and indexes are `Nat`. -/

namespace Sys2Proof

/-- One byte of a frame, a packet or a register word. -/
abbrev Byte := BitVec 8

/-- A register word (00 R5). -/
abbrev Word := BitVec 32

/-- A byte string, first byte first (00 R5: fields in frames are most significant byte first). -/
abbrev Bytes := List Byte

/-- Sparse data by key: entries with strictly rising keys. What an unlisted key reads as is said
where a table is read. -/
abbrev Tbl (α : Type) := List (Nat × α)

/-- The entry of a table at a key, if one is listed. -/
def lookup? {α : Type} : Tbl α → Nat → Option α
  | [], _ => none
  | (k, v) :: rest, n => if n = k then some v else lookup? rest n

/-- The entry of a table at a key, or `d` where none is listed. -/
def lookupD {α : Type} (t : Tbl α) (n : Nat) (d : α) : α := (lookup? t n).getD d

/-- Insert or replace the entry at a key, keeping the keys rising. -/
def insertAt {α : Type} : Tbl α → Nat → α → Tbl α
  | [], n, v => [(n, v)]
  | (k, w) :: rest, n, v =>
    if n < k then (n, v) :: (k, w) :: rest
    else if n = k then (n, v) :: rest
    else (k, w) :: insertAt rest n v

/-- Remove the entry at a key. -/
def removeAt {α : Type} : Tbl α → Nat → Tbl α
  | [], _ => []
  | (k, w) :: rest, n => if n = k then rest else (k, w) :: removeAt rest n

/-- The keys of a table rise strictly: its canonical form. -/
def keysRise {α : Type} : Tbl α → Bool
  | [] => true
  | [_] => true
  | (k, _) :: (l, w) :: rest => decide (k < l) && keysRise ((l, w) :: rest)

/-- The value of up to `n` bytes from offset `off`, most significant byte first; bytes past the end
count as zero. -/
def beAt (b : Bytes) (off : Nat) : Nat → Nat
  | 0 => 0
  | n + 1 => beAt b off n * 256 + (b.getD (off + n) 0).toNat

/-- `n` bytes of a number, most significant byte first. -/
def toBe : Nat → Nat → Bytes
  | 0, _ => []
  | n + 1, v => toBe n (v / 256) ++ [BitVec.ofNat 8 v]

/-- Numbers in rising order. -/
def sortNat (l : List Nat) : List Nat :=
  l.foldr (fun x acc => acc.takeWhile (fun y => decide (y < x)) ++ x :: acc.dropWhile (fun y => decide (y < x))) []

/-- Rounded-up division. -/
def ceilDiv (a b : Nat) : Nat := (a + b - 1) / b

end Sys2Proof
end

