-- ==== Sys2Proof/Config.lean ====
section
/-! DEFINITION. What a part is built with and what the manual leaves free: opaque constants without a
body, so that no proof can rest on a value of them. -/

namespace Sys2Proof.Config

/-- Fresh values the manual leaves open, numbered by the counter the state keeps (03 R86: U of the early-drop
test; 16 R467: the device nonce; 19 R530: a new root secret). FREE VALUE, notes/assumptions/3. -/
opaque freeValue : Nat → Nat

/-- 64-bit unique device identifier from OTP (18 Table REG-4). -/
opaque uid : BitVec 64

/-- STEPPING and boot ROM version (18 Table REG-4). -/
opaque stepping : BitVec 8
/-- Subsystem IDs of the endpoint from OTP (17 R486). -/
opaque subsystem : BitVec 32
opaque romVersion : BitVec 8

/-- GiB of LPDDR5X on the board: 4, 8 or 16 (01 R23). -/
inductive DramSize where
  | g4 | g8 | g16
  deriving DecidableEq, Repr, Inhabited

opaque dramSize : DramSize

/-- HMAC-SHA-256, SHA-256 and signatures are functions the manual takes from other
standards; only that they are functions of their inputs is used. -/
opaque sha256 : Bytes → BitVec 256
opaque hmacSha256 : Nat → Bytes → BitVec 256
/-- The signature r ‖ s on P-384 (`true`) or P-256, of a private key and a message. -/
opaque ecdsaSign : Bool → Nat → Bytes → Nat
/-- AES-256 in Galois/Counter Mode: the cipher text as a number, and the 16-byte ICV, of a key, a 96-bit IV, data that is only authenticated, and
data that is encrypted (08 Table MSC-1). -/
opaque gcmText : Nat → Nat → Bytes → Bytes → Nat
opaque gcmIcv : Nat → Nat → Bytes → Bytes → Nat
/-- The device unique secret in OTP (19 R527, R528). -/
opaque uds : Nat
/-- The topology counter IEC 61375-2-5 computes from a node list (09 R292). -/
opaque topoCounter : Bytes → Word

/-- What counter 14 of a queue reads while its average A is undefined (03 R85). FREE VALUE. -/
opaque avgUndefined : Nat → BitVec 64
/-- What NEXT of a tail descriptor holds (03 Table BUF-2 leaves it undefined), by the descriptor's index. FREE VALUE. -/
opaque tailNext : Nat → BitVec 17
/-- Bytes of a control message on a Wyusin channel, by the channel and the message's first number (14 R418 gives only the most). FREE VALUE. -/
opaque wyBytes : Nat → Nat → Nat
/-- The DRAM channel, modulo 2, of reply slot 0 (16 R480 gives the store no address). FREE VALUE. -/
opaque replyChannel : Nat
/-- External reads in flight while lookups wait (07 R232 bounds them by 1,024): timing the model does not follow. FREE VALUE. -/
opaque readsInFlight : Nat → Nat

/-- Whether bank b (0 to 11) of the flow cache holds a way of set s: the layout of the sets over the banks (21 Table FLT-1). FREE VALUE. -/
opaque cacheBank : Nat → Nat → Bool

/-- Size of the flash in MiB (20 R553), and the digest of the boot ROM (19 R543). -/
opaque flashMiB : Nat
opaque romDigest : BitVec 256

end Sys2Proof.Config
end

