-- ==== Sys2Proof/Machine/Crc.lean ====
section
/-! DEFINITION. The check sums the manual computes: CRC-32C (02 R51), CRC-16/CCITT-FALSE (13, 14 R415, 19 R532), the CRC-64
of 14 R428, and the Internet check sum update of 02 R48 and 07 R238. -/

namespace Sys2Proof.Machine

/-- One bit of a reflected CRC. -/
def crcBit {w : Nat} (poly c : BitVec w) : BitVec w :=
  if c.getLsbD 0 then (c >>> (1 : Nat)) ^^^ poly else c >>> (1 : Nat)

/-- One byte of a reflected CRC. -/
def crcByte {w : Nat} (poly c : BitVec w) (b : Byte) : BitVec w :=
  (List.range 8).foldl (fun c _ => crcBit poly c) (c ^^^ b.setWidth w)

/-- CRC-32C (02 R51): polynomial 0x1EDC6F41 reflected, initial value and final XOR all ones. -/
def crc32c (bs : Bytes) : Word := ~~~(bs.foldl (crcByte (0x82F63B78 : Word)) 0xFFFFFFFF)

/-- CRC-32 of IEEE 802.3, which TRDP takes for its header FCS (12 Table GWY-6). -/
def crc32 (bs : Bytes) : Word := ~~~(bs.foldl (crcByte (0xEDB88320 : Word)) 0xFFFFFFFF)

/-- CRC-16/CCITT-FALSE: polynomial 0x1021, initial value 0xFFFF, not reflected. -/
def crc16 (bs : Bytes) : BitVec 16 :=
  bs.foldl (fun c b => (List.range 8).foldl (fun c _ =>
    if c.getLsbD 15 then (c <<< (1 : Nat)) ^^^ 0x1021 else c <<< (1 : Nat))
    (c ^^^ BitVec.ofNat 16 (b.toNat * 256))) (0xFFFF : BitVec 16)

/-- CRC-64 of 14 R428: polynomial 0x42F0E1EBA9EA3693, initial value and final XOR all ones, not reflected. -/
def crc64 (bs : Bytes) : BitVec 64 :=
  ~~~(bs.foldl (fun (c : BitVec 64) (b : Byte) => (List.range 8).foldl (fun (c : BitVec 64) _ =>
    if c.getLsbD 63 then (c <<< (1 : Nat)) ^^^ 0x42F0E1EBA9EA3693 else c <<< (1 : Nat))
    (c ^^^ ((b.setWidth 64) <<< (56 : Nat)))) (0xFFFFFFFFFFFFFFFF : BitVec 64))

/-- One's complement addition of 16-bit words. -/
def ocAdd (a b : Nat) : Nat := let t := a + b; t % 65536 + t / 65536

/-- One's complement sum of the 16-bit words of an even number of bytes. -/
def ocSum : Bytes → Nat
  | [] => 0
  | [a] => a.toNat * 256
  | a :: b :: rest => ocAdd (a.toNat * 256 + b.toNat) (ocSum rest)

/-- RFC 1624: the check sum `hc` after words summing to `m` were replaced by words summing to `m'`. -/
def csumUpdate (hc m m' : Nat) : Nat :=
  65535 - ocAdd (ocAdd (65535 - hc) (65535 - m % 65536)) m' % 65536

end Sys2Proof.Machine
end

