-- ==== Sys2Proof/ParamsUnits.lean ====
section
/-! DEFINITION. Frames and configuration of the units beside the frame path: CAN (10), MVB (11), the gateway (12), the seasons (13). -/

namespace Sys2Proof

/-! ### CAN (10) -/

inductive CanFmt where
  | cc | fd | xl
  deriving DecidableEq, Repr

/-- A CAN frame as the message RAM holds it (10 Table CXL-4). `ident` is right aligned: 11 bits, or 29 with `ide`. -/
structure CanFrame where
  fmt : CanFmt := .cc
  ide : Bool := false
  ident : Nat := 0
  brs : Bool := false
  esi : Bool := false
  rtr : Bool := false
  sec : Bool := false
  sdt : BitVec 8 := 0
  vcid : BitVec 8 := 0
  af : Word := 0
  data : Bytes := []
  deriving DecidableEq, Repr

inductive CanMode where
  | normal | restricted | monitoring
  deriving DecidableEq, Repr

inductive WakeSrc where
  | off | pattern | level
  deriving DecidableEq, Repr

/-- Segments of a phase in tq (10 Table CXL-2). -/
structure CanPhase where
  seg1 : Nat
  seg2 : Nat
  sjw : Nat
  deriving DecidableEq, Repr

/-- The configuration of a channel (10 Table CXL-2, R307, R319, R321, R330). -/
structure CanCfg where
  enabled : Bool := false
  brp : Nat := 1
  nom : CanPhase := { seg1 := 255, seg2 := 64, sjw := 64 }
  fd : CanPhase := { seg1 := 31, seg2 := 8, sjw := 8 }
  xl : CanPhase := { seg1 := 11, seg2 := 4, sjw := 4 }
  tdc : Bool := false
  tdco : Nat := 0
  tms : Bool := false
  pwms : Nat := 1
  pwml : Nat := 1
  pwmo : Nat := 0
  xlEsig : Bool := false
  fmtCc : Bool := true
  fmtFd : Bool := false
  fmtXl : Bool := false
  mode : CanMode := .normal
  /-- TX_ORDER: FIFO, else PRIORITY -/
  fifo : Bool := false
  /-- BUSOFF_MODE: MANUAL, else AUTO -/
  manual : Bool := false
  wakeSrc : WakeSrc := .off
  wakeN : Nat := 4
  wupWindowMs : Nat := 5
  stbPol : Bool := true
  deriving DecidableEq, Repr

/-! ### MVB (11) -/

/-- A port of the traffic store (11 Table MVB-4). -/
structure MvbPort where
  source : Bool
  route : Bool := false
  /-- F_code 0 to 4: 2 to 32 bytes -/
  size : Nat
  limit : Nat := 0
  init : Bytes := []
  deriving DecidableEq, Repr

/-- A poll of the periodic list: every `every` basic periods, first in period `first` (11 R340, R346). -/
structure MvbPoll where
  addr : Nat
  every : Nat
  first : Nat := 0
  size : Nat
  deriving DecidableEq, Repr

/-- Parameters and lists of a channel (11 Table MVB-2, Table MVB-3). -/
structure MvbCfg where
  enabled : Bool := false
  devAddr : Nat := 1
  baCapable : Bool := false
  baRank : Nat := 0
  /-- BASIC_PERIOD 2 ms, else 1 ms -/
  basic2 : Bool := false
  macroCycle : Nat := 256
  turn : Nat := 0
  silenceMs : Nat := 4
  replyClocks : Nat := 1024
  lineFail : Nat := 16
  devLoss : Nat := 3
  ports : Tbl MvbPort := []
  periodic : List MvbPoll := []
  admins : List Nat := []
  known : List Nat := []
  deriving DecidableEq, Repr

/-! ### Gateway (12) -/

/-- Source or destination kinds (12 Table GWY-3), in its order. -/
inductive GwKind where
  | canBase | canExt | canXl | mvb | trdp | acf
  deriving DecidableEq, Repr

/-- A routing entry (12 Table GWY-2). `src = none` is ANY; `sigCount = 0` is MODE FRAME. -/
structure GwRoute where
  src : Option Nat
  kind : GwKind
  sub : Nat
  ident : Nat
  output : Nat
  sigFirst : Nat := 0
  sigCount : Nat := 0
  deadlineMs : Nat := 0
  deriving DecidableEq, Repr

/-- A signal descriptor (12 Table GWY-5); `loss` 0 hold, 1 zeros, 2 ones. -/
structure GwSignal where
  srcBe : Bool := false
  srcBit : Nat
  width : Nat
  loss : Nat := 0
  dstBe : Bool := false
  dstBit : Nat
  deriving DecidableEq, Repr

/-- An output descriptor (12 Table GWY-4); its SEQ and IMAGE are state. -/
structure GwOutput where
  eth : Bool
  kind : GwKind
  dstPort : Nat := 0
  sub : Nat := 0
  ident : Nat := 0
  len : Nat
  onUpdate : Bool := false
  onChange : Bool := false
  cyclic : Bool := false
  retry : Nat := 0
  periodMs : Nat := 0
  timeoutMs : Nat := 0
  dstIp : BitVec 32 := 0
  dstMac : BitVec 48 := 0
  pcp : Nat := 0
  vid : Nat := 0
  streamId : BitVec 64 := 0
  srcIp : BitVec 32 := 0
  dscp : Nat := 0
  deriving DecidableEq, Repr

structure GwyCfg where
  /-- a blob has configured the gateway (12 R360) -/
  loaded : Bool := false
  /-- device MAC address, SA of every gateway message (12 Table GWY-1) -/
  mac : BitVec 48 := 0
  routes : List GwRoute := []
  outputs : Tbl GwOutput := []
  signals : Tbl GwSignal := []
  /-- GW_TC per source virtual port (12 R359) -/
  tc : Tbl Nat := []
  /-- STATUS_COMID per source virtual port: ComId, destination and source IPv4 address (12 R372) -/
  status : Tbl (Word × BitVec 32 × BitVec 32) := []
  /-- the 1722 stream table: STREAM_ID by index (12 Table GWY-6) -/
  streams : Tbl (BitVec 64) := []
  deriving DecidableEq, Repr

/-! ### What bus frames and telegrams carry into the gateway -/

/-- A TRDP process data telegram as received (12 Table GWY-6). -/
structure Telegram where
  srcIp : BitVec 32
  comId : Word
  counter : Word
  topo : Word := 0
  /-- header FCS, version, msgType and dataset length pass (12 R369) -/
  formOk : Bool := true
  payload : Bytes
  deriving DecidableEq, Repr

/-- An ACF CAN message of a 1722 frame (12 Table GWY-6). -/
structure AcfMsg where
  busId : Nat
  fd : Bool := false
  ide : Bool := false
  ident : Nat
  payload : Bytes
  deriving DecidableEq, Repr

/-! ### MVB line results (11 R350) -/

inductive LineRes where
  | ok | crc | code | missing
  deriving DecidableEq, Repr

/-- A frame as the two lines deliver it; `firstB`: line B delivered the first good frame. -/
structure MvbLines where
  a : LineRes := .ok
  b : LineRes := .ok
  firstB : Bool := false
  collision : Bool := false
  deriving DecidableEq, Repr

/-- How a CAN attempt ends (10 R318, R320). `last`: the LEC value 1 to 6; `exempt`: ISO 11898-1 leaves TEC as it is. -/
inductive CanEnd where
  | sent | arbLost
  | error (last : Nat) (exempt : Bool)
  deriving DecidableEq, Repr

/-! ### Seasons (13 Table SSN-5) and boot (20 R572, R570) -/

inductive WakeOutMode where
  | never | notWakeIn | always
  deriving DecidableEq, Repr

structure SsnCfg where
  /-- SLEEP_MODE: KEEPALIVE, else EQUINOX -/
  keepalive : Bool := false
  tokenMs : Nat := 100
  hopMs : Nat := 2
  commitDelayMs : Nat := 500
  roundRetryMs : Nat := 1000
  wakeHoldS : Nat := 10
  kaPeriodMs : Nat := 250
  kaSilenceMs : Nat := 2000
  idleReturn : Bool := false
  idleS : Nat := 5
  /-- READY_SIGNAL: output index and bit -/
  readySignal : Option (Nat × Nat) := none
  wakeFilterUs : Nat := 1000
  wakePulseMs : Nat := 50
  wakeOut : WakeOutMode := .notWakeIn
  alarm : Option Nat := none
  pwrStepUs : Nat := 500
  /-- EQX_SLOT: the SEC slot of the Equinox MAC (13 R388, 19 R548) -/
  eqxSlot : Option Nat := none
  deriving DecidableEq, Repr

/-- An Equinox frame (13 Table SSN-3); its TYPE is the command's. `target = none` is ALL. -/
structure EqxFrame where
  round : BitVec 16 := 0
  topo : Word := 0
  origin : BitVec 12
  sender : BitVec 12
  target : Option (BitVec 12) := none
  hops : Nat := 0
  skipped : Nat := 0
  commitSec : Nat := 0
  commitNs : Nat := 0
  reason : BitVec 16 := 0
  fallback : Bool := false
  again : Bool := false
  version : BitVec 8 := 1
  /-- bytes 32 to 47: the truncated HMAC-SHA-256 -/
  mac : Bytes := []
  deriving DecidableEq, Repr

inductive EqxType where
  | consent | commit | ack | refuse | abort | veto | keepalive
  deriving DecidableEq, Repr

/-! ### Control complex (15 R452, R456; 16 Table NCP-2) -/

structure CcrCfg where
  /-- UNCOMP_ACTION: HALT, else FLAGGED -/
  uncompHalt : Bool := false
  splitTcs : List Nat := []
  /-- SPLIT_NCP_GROUPS; `none`: the reads of groups 0x0B and 0x0C -/
  splitGroups : Option (List Nat) := none
  deriving DecidableEq, Repr

structure BootCfg where
  confirmS : Nat := 60
  pairWaitMs : Nat := 2000
  deriving DecidableEq, Repr

end Sys2Proof
end

