-- ==== Sys2Proof/Params.lean ====
section
/-! DEFINITION. The configuration of the NV8 as data: what NCP, the configuration blob and the Spring
image set (00 "Everything that NCP configures is documented as NCP parameters"), one structure per unit.
The operands of the configuration commands and the state's current epoch both use these types. -/

namespace Sys2Proof

/-! ### Frame path and ports (02, 03 R77 to R82, 04 R109, 05 R150 to R154, 05 R170) -/

/-- Delivery classes (00 Table SCP-2), numbered as DCLASS of Table BUF-2. -/
inductive DClass where
  | scheduled | assured | reserved | standard | bulk
  deriving DecidableEq, Repr

/-- Acceptable frame types of a port (02 R44). -/
inductive Accept where
  | all | taggedOnly | untaggedOnly
  deriving DecidableEq, Repr

/-- Roles of a PTP port in a domain (04 Table TIM-4, IEEE 802.1AS-2020 clause 14.8). -/
inductive PtpRole where
  | disabled | master | passive | slave
  deriving DecidableEq, Repr

/-- gPTP parameters of a port in one domain (04 Table TIM-2, scope "domain, port"). Intervals are base-2 logarithms of seconds.
`ext`: the role that external port configuration gives the port (Table TIM-4); `none`: the BMCA gives it. -/
structure PtpDom where
  logSync : Int := -3
  syncReceiptTimeout : Nat := 3
  logAnnounce : Int := 0
  announceReceiptTimeout : Nat := 3
  ext : Option PtpRole := none
  deriving DecidableEq, Repr

/-- gPTP parameters of a port (04 Table TIM-2): its parameters in domains A and B, and its own. -/
structure PtpPort where
  a : PtpDom := {}
  b : PtpDom := {}
  logPdelay : Int := 0
  allowedLost : Nat := 9
  propThreshPs : Nat := 800000
  delayAsymPs : Int := 0
  deriving DecidableEq, Repr

/-- MAC merge settings of a port (05 R150). -/
structure Preempt where
  enabled : Bool := false
  verifyOff : Bool := false
  verifyTimeMs : Nat := 10
  addFragSize : Nat := 0
  /-- bit n set: traffic class n is preemptable on the port -/
  preemptable : BitVec 8 := 0
  deriving DecidableEq, Repr

/-- The configuration of one port (02 R44, R49, R64; 03 R78, R79; 04 R109; 05 R150, R153, R170). -/
structure PortCfg where
  /-- a Spring image or blob has configured the port (02 R65) -/
  configured : Bool := false
  enabled : Bool := false
  /-- the port's MAC address -/
  mac : BitVec 48 := 0
  /-- classification meter of frames entering here (02 R50) -/
  meter : Option Nat := none
  /-- rate in Mb/s -/
  rate : Nat := 1000
  /-- BP_MODE: PFC, else PAUSE -/
  pfc : Bool := false
  pvid : BitVec 12 := 1
  accept : Accept := .all
  ingressFilter : Bool := false
  /-- the port is an S-VLAN component: tags added on it are S-tags (02 R44) -/
  svlan : Bool := false
  /-- VIDs the port is a member of -/
  vids : List Nat := [1]
  /-- VIDs sent untagged on the port -/
  untag : List Nat := [1]
  /-- VIDs blocking on the port -/
  blocked : List Nat := []
  /-- the PCP-to-traffic-class table, entry for PCP 0 first -/
  pcpTc : List Nat := [0, 1, 2, 3, 4, 5, 6, 7]
  defPrio : BitVec 3 := 0
  mtu : Nat := 9198
  rxLatPs : Int := 0
  txLatPs : Int := 0
  /-- LINK_BOUND in ns -/
  linkBoundNs : Nat := 1000
  preempt : Preempt := {}
  holdAdvanceNs : Nat := 0
  /-- IDLE_SLOPE in kb/s per traffic class, 0 for none -/
  idleSlope : List Nat := [0, 0, 0, 0, 0, 0, 0, 0]
  ptp : PtpPort := {}
  /-- SPRING_CLEAR (08 R276) -/
  springClear : Bool := false
  deriving DecidableEq, Repr

/-- One route (02 R48): IPv4 and IPv6 prefixes are numbers of `bits` leading bits. -/
structure Route where
  inst : BitVec 4
  v6 : Bool
  pfx : Nat
  bits : Nat
  /-- an ECMP link group, else a next-hop index -/
  ecmp : Bool
  target : Nat
  deriving DecidableEq, Repr

structure NextHop where
  port : Nat
  mac : BitVec 48
  vid : BitVec 12
  /-- the host queue of a next hop on port HI (17 R490) -/
  hostQ : Option Nat := none
  deriving DecidableEq, Repr

/-- A static forwarding entry (02 R47): `hostQ` is the host queue an entry for port HI names (17 R490). -/
structure FdbStatic where
  fid : BitVec 12
  mac : BitVec 48
  port : Nat
  hostQ : Option Nat := none
  deriving DecidableEq, Repr

/-- A link group (02 R51, R52). `table` lists the configured indirection entries by index; an entry
not listed has V = 0. -/
structure LinkGroup where
  ecmp : Bool := false
  members : List Nat := []
  table : Tbl Nat := []
  deriving DecidableEq, Repr

/-- A two-rate three-colour meter (02 R50, RFC 2698): rates in kb/s, bursts in bytes. -/
structure MeterCfg where
  cir : Nat
  cbs : Nat
  pir : Nat
  pbs : Nat
  colourAware : Bool
  dropRed : Bool
  deriving DecidableEq, Repr

/-- A user EtherType of the parse graph (02 R40): a fixed header length and up to four 16-bit fields. -/
structure UserType where
  etherType : BitVec 16
  length : Nat
  fieldOffsets : List Nat
  deriving DecidableEq, Repr

structure FwdCfg where
  hashSeed : Word := 0
  flowletUs : Nat := 256
  ageingS : Nat := 300
  routes : List Route := []
  nextHops : Tbl NextHop := []
  groups : Tbl LinkGroup := []
  meters : Tbl MeterCfg := []
  userTypes : List UserType := []
  staticFdb : List FdbStatic := []
  deriving DecidableEq, Repr

/-! ### Buffers (03) -/

/-- An early-drop profile (03 R86). -/
structure RedProfile where
  minTh : Nat := 4096
  maxTh : Nat := 8192
  maxP : BitVec 8 := 0
  deriving DecidableEq, Repr

/-- The configuration of a queue (03 R72, R84 to R86, R90, R91). -/
structure QueueCfg where
  cls : DClass := .standard
  qlimit : Nat := 16384
  weight : Nat := 9
  /-- green, yellow and red profiles; `none`: no profile set, never dropped early -/
  profiles : Option (RedProfile × RedProfile × RedProfile) := none
  /-- residence limit in µs; `none`: the limit of the class (00 Table SCP-2) -/
  limitUs : Option Nat := none
  spillOn : Nat := 512
  deriving DecidableEq, Repr

/-- MIN and MAX of an allotment (03 R82). -/
structure AllotCfg where
  min : Nat := 16
  max : Nat := 1024
  deriving DecidableEq, Repr

structure BufCfg where
  queues : Tbl QueueCfg := []
  allots : Tbl AllotCfg := []
  deriving DecidableEq, Repr

/-! ### Time (04 Table TIM-2) -/

/-- The profile a domain engine runs (04 Table TIM-4): gPTP, or a default profile of IEEE 1588-2019 with delay request-response or
peer-to-peer delay, as a boundary or an ordinary clock. -/
inductive PtpProfile where
  | gptp
  | ieee1588 (delayReq boundary : Bool)
  deriving DecidableEq, Repr

/-- The transport of PTP messages (04 Table TIM-4). -/
inductive PtpTransport where
  | ethernet | udp4 | udp6
  deriving DecidableEq, Repr

structure DomainCfg where
  number : BitVec 7
  gmHoldMs : Nat := 2000
  classMax : Nat := 248
  gmCapable : Bool := false
  gmPriority1 : Nat := 246
  gmPriority2 : Nat := 248
  profile : PtpProfile := .gptp
  transport : PtpTransport := .ethernet
  deriving DecidableEq, Repr

structure TimCfg where
  slewWindowNs : Nat := 10000
  slewMaxPpm : Nat := 50
  /-- PREFERRED: false A, true B -/
  preferredB : Bool := false
  revert : Bool := false
  revertHoldS : Nat := 10
  domA : DomainCfg := { number := 0 }
  domB : DomainCfg := { number := 1 }
  deriving DecidableEq, Repr

/-- What a Sync carries: its origin time in ns and its correction in 2^-16 ns (04 R120, R125). -/
structure SyncMsg where
  origin : Nat := 0
  corr : Int := 0
  deriving DecidableEq, Repr

/-! ### Scheduled traffic (05) -/

/-- A gate control list entry (05 Table SCH-2): the byte OP, 0x00 SetGateStates, 0x01 Set-And-Hold-MAC, 0x02 Set-And-Release-MAC; GATES;
the reserved bytes 2 and 3; INTERVAL. -/
structure GclEntry where
  op : BitVec 8
  gates : BitVec 8
  reserved : BitVec 16 := 0
  intervalNs : Nat
  deriving DecidableEq, Repr

/-- Set-And-Hold-MAC and Set-And-Release-MAC (05 Table SCH-2, R152). -/
def GclEntry.isHold (e : GclEntry) : Bool := decide (e.op = 1)
def GclEntry.isRelease (e : GclEntry) : Bool := decide (e.op = 2)

/-- A gate control list (05 Table SCH-1). -/
structure Gcl where
  baseSec : Nat
  baseNs : Nat
  cycleNs : Nat
  entries : List GclEntry
  deriving DecidableEq, Repr

/-- A stream gate of PSFP (05 Table SCH-4): entries of (open, IPV, interval in ns), which repeat from its base time (802.1Qci). -/
structure StreamGate where
  baseSec : Nat := 0
  baseNs : Nat := 0
  cycleNs : Nat := 1000
  entries : List (Bool × Option (BitVec 3) × Nat) := []
  closeInvalidRx : Bool := false
  closeOctets : Bool := false
  /-- octets that may pass in one open interval when `closeOctets` is set -/
  maxOctets : Nat := 0
  deriving DecidableEq, Repr

/-- The per-stream filter of a handle (05 R155, R156). -/
structure StreamFilter where
  maxSdu : Nat := 9216
  prio : Option (BitVec 3) := none
  gate : Option Nat := none
  meter : Option Nat := none
  blockOversize : Bool := false
  deriving DecidableEq, Repr

/-- What IP Stream identification compares (02 R46, IEEE 802.1CB clause 6.7); `none` is the standard's "do not care". -/
structure IpMatch where
  da : Option (BitVec 48) := none
  vid : Option (BitVec 12) := none
  v6 : Bool := false
  src : Option Nat := none
  dst : Nat
  dscp : Option Nat := none
  proto : Option Nat := none
  sport : Option Nat := none
  dport : Option Nat := none
  deriving DecidableEq, Repr

/-- How frames are matched to a stream (02 R46, IEEE 802.1CB clause 6). A VID of `none` is the standard's "all": any VLAN. -/
inductive StreamMatch where
  | null (da : BitVec 48) (vid : Option (BitVec 12))
  | source (sa : BitVec 48) (vid : Option (BitVec 12))
  | activeDest (da : BitVec 48) (vid : Option (BitVec 12)) (newDa : BitVec 48) (newVid : BitVec 12)
  | ip (m : IpMatch)
  deriving DecidableEq, Repr

/-- The static firewall verdict of a stream (02 R46, 07 R208). -/
inductive StaticVerdict where
  | permit | deny | flow
  deriving DecidableEq, Repr

/-- Assured parameters of a stream (06 Table ASD-1). -/
structure AsdCfg where
  /-- SEQ_SRC: DEVICE, else TALKER -/
  device : Bool := true
  rateMbps : Nat := 1
  burstKiB : Nat := 64
  holdUs : Nat := 1000
  resetMs : Nat := 1000
  latentMs : Nat := 2000
  deriving DecidableEq, Repr

/-- A stream entry (02 R46, 05 Table SCH-5, 06 Table ASD-1). -/
structure StreamCfg where
  ident : StreamMatch
  cls : DClass
  ingress : Nat
  egress : List Nat
  tc : Nat
  /-- the host queue of the stream's copies to port HI (17 R490) -/
  hostQ : Option Nat := none
  verdict : StaticVerdict := .permit
  filter : StreamFilter := {}
  /-- MAX_SDU of Table SCH-5 -/
  maxSdu : Nat := 9216
  frames : Nat := 1
  intervalNs : Nat := 125000
  departLo : Nat := 0
  departHi : Nat := 0
  budgetPs : Nat := 2000000000
  asd : AsdCfg := {}
  deriving DecidableEq, Repr

structure SchCfg where
  lists : Tbl Gcl := []
  streams : Tbl StreamCfg := []
  gates : Tbl StreamGate := []
  deriving DecidableEq, Repr

/-! ### Firewall (07) -/

/-- IP version or layer 2 of a rule or key (07 Table FWL-2). -/
inductive Family where
  | v4 | v6 | l2
  deriving DecidableEq, Repr

/-- Zone attributes (07 Table FWL-1); rates in units of 100 per second. -/
structure ZoneCfg where
  intraPolicy : Bool := false
  naptInside : Bool := false
  pool : List (BitVec 32) := []
  fragDeny : Bool := false
  missRate : Nat := 160000
  setupRate : Nat := 5120
  deriving DecidableEq, Repr

inductive RuleAction where
  | permit | permitNapt | deny | reject
  deriving DecidableEq, Repr

/-- A rule (07 R212); `none` stands for "any". Prefixes are (value, leading bits). -/
structure Rule where
  priority : Nat
  ruleId : Nat
  srcZone : Option Nat := none
  dstZone : Option Nat := none
  family : Family
  src : Option (Nat × Nat) := none
  dst : Option (Nat × Nat) := none
  proto : Option Nat := none
  srcPort : Option (Nat × Nat) := none
  dstPort : Option (Nat × Nat) := none
  icmpType : Option Nat := none
  icmpCode : Option Nat := none
  vid : Option (Nat × Nat) := none
  /-- bit n: DSCP n matches -/
  dscp : Option (BitVec 64) := none
  action : RuleAction
  toProf : BitVec 3 := 0
  log : Bool := false
  deriving DecidableEq, Repr

/-- A Spring rule (07 R240), in index order. -/
structure SpringRule where
  srcZone : Option Nat := none
  dstZone : Option Nat := none
  family : Family
  proto : Option Nat := none
  src : Option (Nat × Nat) := none
  dst : Option (Nat × Nat) := none
  dstPort : Option (Nat × Nat) := none
  permit : Bool
  deriving DecidableEq, Repr

/-- A timeout profile in seconds (07 Table FWL-7). -/
structure Profile where
  tcpSyn : Nat := 30
  tcpEst : Nat := 3600
  tcpClose : Nat := 60
  udpOne : Nat := 30
  udpBoth : Nat := 180
  icmp : Nat := 10
  other : Nat := 60
  pickup : Bool := false
  deriving DecidableEq, Repr

/-- A compiled rule structure (07 R214): the rules it stands for, its size in bytes and the external
reads of its longest walk, as Tabsel's compiler gives them. -/
structure RuleBank where
  rules : List Rule := []
  sizeBytes : Nat := 0
  maxReads : Nat := 0
  deriving DecidableEq, Repr

structure FwlCfg where
  /-- zone of port * 4096 + VID; a pair not listed is in zone 15 (07 R208) -/
  zoneMap : Tbl Nat := []
  /-- the single zone of ports HI and CP (07 R207) -/
  zoneHi : Nat := 15
  zoneCp : Nat := 15
  zones : Tbl ZoneCfg := []
  profiles : Tbl Profile := []
  bank : RuleBank := {}
  springRules : List SpringRule := []
  fwSeed : Word := 0
  deriving DecidableEq, Repr

/-! ### MACsec (08 Table MSC-2) -/

inductive Conf where
  | offset0 | offset30 | offset50 | integrity
  deriving DecidableEq, Repr

inductive Validate where
  | strict | check | disabled
  deriving DecidableEq, Repr

/-- A secure entity; SecY n is the transmit SC n (08 R250). `vids = none` is ALL. -/
structure SecyCfg where
  port : Nat
  vids : Option (List Nat) := none
  /-- `none`: the port's MAC address, then its number + 1 -/
  sci : Option (BitVec 64) := none
  xpn : Bool := true
  conf : Conf := .offset0
  includeSci : Bool := true
  validate : Validate := .strict
  replayWindow : Nat := 0
  /-- `none`: the default of the cipher -/
  softLimit : Option Nat := none
  hardLimit : Option Nat := none
  autoSwitch : Bool := true
  deriving DecidableEq, Repr

/-- SOFT_LIMIT and HARD_LIMIT with their defaults (08 Table MSC-2). -/
def SecyCfg.soft (s : SecyCfg) : Nat := s.softLimit.getD (if s.xpn then 4611686018427387904 else 3221225472)
def SecyCfg.hard (s : SecyCfg) : Nat := s.hardLimit.getD (if s.xpn then 18446744073709551615 else 4294967295)

/-- A receive SC (08 R254). -/
structure RxScCfg where
  secy : Nat
  sci : BitVec 64
  defaultRx : Bool := false
  deriving DecidableEq, Repr

/-- The uncontrolled-port EtherTypes of a port (08 UNCTRL). -/
structure Unctrl where
  gptp : Bool := true
  lldp : Bool := false
  deriving DecidableEq, Repr

structure MscCfg where
  secys : Tbl SecyCfg := []
  rxScs : Tbl RxScCfg := []
  unctrl : Tbl Unctrl := []
  deriving DecidableEq, Repr

/-! ### Fault ledger (21 R583, R584, R591), per kind of Table FLT-1 in its order -/

structure LedgerCfg where
  retryMax : Nat := 3
  limit : Nat := 16
  windowMs : Nat := 1000
  strict : Bool := false
  deriving DecidableEq, Repr

/-! ### Topology (09 Table TOP-3, R292, R296) -/

structure TopCfg where
  /-- the Spring image or the blob has configured TOP -/
  configured : Bool := false
  helloMs : Nat := 100
  helloFastMs : Nat := 15
  helloLoss : Nat := 3
  topoMs : Nat := 100
  stableMs : Nat := 300
  settleMs : Nat := 20
  wdMs : Nat := 300
  /-- AUTUMN_BYPASS: HOLD, else RELEASE -/
  autumnHold : Bool := true
  expectCount : Option Word := none
  /-- the car's position within its consist, and the identity of this train's ETB -/
  car : Nat := 1
  etbId : Nat := 0
  deriving DecidableEq, Repr

/-! ### Pair (14 Table PAIR-8) -/

structure PairCfg where
  paired : Bool := false
  position : Bool := false
  compare : List Nat := []
  digestLagUs : Nat := 200
  mismatchLimit : Nat := 3
  /-- FAIL_ACTION: PORTS_OFF, else FLAGGED -/
  portsOff : Bool := true
  creditWin : Nat := 256
  commitWaitMs : Nat := 50
  deriving DecidableEq, Repr

/-! ### The configuration of one epoch (01 R10) -/

structure Cfg where
  fwd : FwdCfg := {}
  ports : Tbl PortCfg := []
  buf : BufCfg := {}
  tim : TimCfg := {}
  sch : SchCfg := {}
  fwl : FwlCfg := {}
  msc : MscCfg := {}
  flt : Tbl LedgerCfg := []
  pair : PairCfg := {}
  top : TopCfg := {}
  can : Tbl CanCfg := []
  mvb : Tbl MvbCfg := []
  gw : GwyCfg := {}
  ssn : SsnCfg := {}
  boot : BootCfg := {}
  ccr : CcrCfg := {}
  deriving DecidableEq, Repr

end Sys2Proof
end

