-- ==== Sys2Proof/Machine/StateFrame.lean ====
section
/-! DEFINITION. State of the data hierarchy as plain data: frames, queues and buffers (02, 03), the local
clock and the domains (04), gates and admission (05), Assured delivery (06), the firewall (07) and
MACsec (08). Every structure's default is its value after a cold reset. -/

namespace Sys2Proof.Machine

/-- A status register of type SQ (00 Table SCP-4, 18 R519): the sequence number and the SQ bits. -/
structure Sq where
  seq : BitVec 8 := 0
  bits : BitVec 24 := 0
  deriving DecidableEq, Repr

/-- A full-resolution timestamp (04 R107) with its TS32 (R112), state flags and STEP_COUNT at capture. -/
structure Stamp where
  sec : BitVec 48 := 0
  ns : BitVec 30 := 0
  frac : BitVec 16 := 0
  ts32 : Word := 0
  freeRun : Bool := false
  holdover : Bool := false
  step : BitVec 8 := 0
  deriving DecidableEq, Repr

/-- Colour of a frame (03 Table BUF-2). -/
inductive Colour where
  | green | yellow | red
  deriving DecidableEq, Repr

/-- What a frame's cells are charged to (03 R75). -/
inductive Charge where
  | allot (i : Nat)
  | stream (h : Nat)
  | express     -- pre-classified as Scheduled (02 R38); its stream is not yet known
  deriving DecidableEq, Repr

/-- Where a frame is on its way through stages 1 to 3. -/
inductive Phase where
  | arriving     -- header not yet in the pipeline
  | inPipe       -- header in stages P1 to P8
  | missQ        -- waiting in the firewall miss queue
  | metering     -- waiting at step 11 for its end, since a meter takes its length
  | decided      -- decision made; copies may exist
  | dropped      -- discarded; bytes still arriving are ignored
  deriving DecidableEq, Repr

/-- The ingress MACsec side of a frame (08 R254 to R261). -/
inductive MacIn where
  | clear                                           -- no SecTAG, or a port without SecYs
  | uncontrolled
  | pending (sc : Nat) (an : BitVec 2) (pn : Nat)   -- verdict not yet reached
  | good (sc : Nat)
  | passed (sc : Nat)                               -- delivered although its ICV failed (08 R260)
  deriving DecidableEq, Repr

/-- The SecTAG of a received frame, which ingress MACsec strips before the header window (02 R35, 08 R254): octet TCI and AN, short length, PN,
and the SCI where the tag carries one. -/
structure SecTag where
  tci : BitVec 8
  sl : BitVec 8 := 0
  pn : BitVec 32
  sci : BitVec 64 := 0
  deriving DecidableEq, Repr

/-- What encryption took for a copy when it started (08 R265): SecY, PN, AN, and the SA's SAK, SSCI and salt. -/
structure TxSec where
  n : Nat
  pn : Nat
  an : BitVec 2
  key : Nat := 0
  ssci : Word := 0
  salt : Nat := 0
  deriving DecidableEq, Repr

/-- An effect held back until a good ICV verdict (08 R261). -/
inductive Deferred where
  | learn (fid : Nat) (mac : Nat) (port : Nat)
  | track
  deriving DecidableEq, Repr

/-- What an egress copy does with the outer VLAN tag (02 R44). -/
inductive TagEdit where
  | keep
  | strip
  /-- add a tag: an S-tag on an S-VLAN component, else a C-tag -/
  | push (s : Bool) (pcp : Nat) (dei : Bool) (vid : Nat)
  | setVid (vid : Nat)
  deriving DecidableEq, Repr

/-- The egress edit instructions of a copy (03 R68): addresses, tag, R-tag, TTL, address translation. -/
structure Edit where
  da : Option Nat := none
  sa : Option Nat := none
  tag : TagEdit := .keep
  rtag : Option Nat := none
  decTtl : Bool := false
  /-- rewrite source (true) or destination, address, port or identifier (07 R238) -/
  nat : Option (Bool × Nat × Option Nat) := none
  /-- an inbound ICMP error: the embedded source goes back to this address and port -/
  natInner : Option (Nat × Option Nat) := none
  deriving DecidableEq, Repr

/-- What steps 1 to 9 of Table FWD-6 decided, kept while the frame waits for its firewall verdict (07 R232):
the egress copies as (port, VID, edit), and the colour and priority so far. -/
structure Decision where
  zin : Nat := 15
  vid : Nat := 0
  /-- the priority that selects the queue, which a stream gate may have given, and that of the ingress (02 R44, 05 R155) -/
  prio : Nat := 0
  inPrio : Nat := 0
  /-- the host queue that the entry for port HI names (17 R490) -/
  hostQ : Option Nat := none
  colour : Colour := .green
  copies : List (Nat × Nat × Edit) := []
  routed : Bool := false
  /-- copies that go to all ports of the VLAN or to a group address -/
  multi : Bool := false
  /-- ECMP group to select from at step 12 -/
  ecmp : Option Nat := none
  /-- the flow meter of its stream has taken the frame -/
  metered : Bool := false
  deriving DecidableEq, Repr

/-- A frame in the shared buffer (03 R68 to R71). `bytes` are the bytes from DA up to the last byte before
the FCS as stored; the stored length B is four more. `chain` lists the frame's cells in the order of their 17-bit links, the first being
HEAD_CELL: it holds the frame header (the edit instructions that each copy carries, the timestamp `stamp.ts32`, the copy count `refs`) and
224 bytes, each later one 256. -/
structure Frame where
  port : Nat
  bytes : Bytes := []
  ended : Bool := false
  /-- it was ended before its last byte: what still arrives of it is ignored -/
  tail : Bool := false
  express : Bool := true
  ageStamp : Word := 0
  stamp : Stamp := {}
  chain : List Nat := []
  /-- how many of the cells are charged to headroom (03 R78) -/
  hr : Nat := 0
  charge : Charge := .allot 0
  itc : Nat := 0
  /-- ingress was off when the first byte arrived (02 R64: it stops and begins at frame boundaries) -/
  shut : Bool := false
  phase : Phase := .arriving
  /-- the configuration current when the header entered stage 2 (01 R11): epoch number -/
  epoch : Word := 0
  tag : Option SecTag := none
  mac : MacIn := .clear
  authFail : Bool := false
  deferred : List Deferred := []
  /-- copies of the frame anywhere, and copies whose cells are on chip -/
  refs : Nat := 0
  chip : Nat := 0
  /-- queues that hold a copy of it while its bytes still arrive -/
  late : List Nat := []
  /-- requested timestamp ID (04 R129) -/
  txId : Option (BitVec 16) := none
  /-- traffic class of a frame's transmit descriptor, for a frame from HI (17 R491) -/
  hostTc : Option Nat := none
  stream : Option Nat := none
  dec : Option Decision := none
  /-- bad FCS, code error or ICV found after a copy had left (02 R58) -/
  stomp : Bool := false
  deriving DecidableEq, Repr

/-- Cells a frame holds. -/
def Frame.cells (f : Frame) : Nat := f.chain.length

/-- A queued copy (03 Table BUF-2) with its egress edit instructions. `desc` is the index of the descriptor it holds while it is on chip. -/
structure Copy where
  frame : Nat
  desc : Nat := 0
  edit : Edit := {}
  vid : Nat := 0
  age : Word := 0
  itc : Nat := 0
  colour : Colour := .green
  cls : DClass := .standard
  ct : Bool := false
  stream : Option Nat := none
  /-- Assured slot and sequence number (06 R179) -/
  asd : Option (Nat × Nat) := none
  txId : Option (BitVec 16) := none
  routed : Bool := false
  /-- spilled: the descriptor image of its record in DRAM (03 R92, R93), and the pages the record starts and ends in, counted from
  the queue's entry into spill state -/
  image : Option (BitVec 128) := none
  first : Nat := 0
  page : Nat := 0
  deriving DecidableEq, Repr

/-- The copy stands in spill pages and no longer in cells. -/
def Copy.written (c : Copy) : Bool := c.image.isSome

/-- A spill page in use (03 R93): its index in the spill region and what its 64-byte header holds beside the queue; the next-page index is
that of the page after it. -/
structure SpillPage where
  index : Nat
  seq : Word
  starts : Nat := 0
  deriving DecidableEq, Repr

/-- A queue (03 R72, R85, R91, R93). -/
structure Queue where
  copies : List Copy := []
  spill : List Copy := []
  inSpill : Bool := false
  /-- average depth A with 16 fractional bits; `none` while undefined (03 R85) -/
  avg : Option Nat := none
  /-- bytes written in the spill section's page stream, the page that is read next, and the pages from `rpage` on, oldest first -/
  wpos : Nat := 0
  rnext : Nat := 0
  rpage : Nat := 0
  pages : List SpillPage := []
  deriving DecidableEq, Repr

/-- A tick of the local clock at which a timestamp is captured: the time in 2^-32 ns, the latency in ps that compensates it, the state flags and
STEP_COUNT (04 R107, R109, R112). -/
structure Tick where
  fine : Nat := 0
  latPs : Int := 0
  freeRun : Bool := false
  holdover : Bool := false
  step : BitVec 8 := 0
  deriving DecidableEq, Repr

/-- A copy in transmission on a port. -/
structure TxCur where
  q : Nat
  copy : Copy
  len : Nat
  /-- its transmission began before its last byte had arrived (02 R57) -/
  ct : Bool := false
  /-- when its present mPacket began, and the bytes that earlier mPackets took (05 R150) -/
  began : Nat := 0
  sent : Nat := 0
  /-- the tick of its egress timestamp, at which it began (04 R107, R111) -/
  tick : Tick := {}
  /-- what its encryption took when it started (08 R265) -/
  sec : Option TxSec := none
  /-- the transmission ends with an invalid mCRC and FCS (08 R271, R272) -/
  abort : Bool := false
  deriving DecidableEq, Repr

/-- Cells and exhaustion of an allotment (03 R75, R76). -/
structure Allot where
  used : Nat := 0
  exhausted : Bool := false
  deriving DecidableEq, Repr

/-- Received PFC and PAUSE holds of a port (03 R80): priority to expiry time in ps; PAUSE expiry. -/
structure PfcHold where
  prios : Tbl Nat := []
  pause : Option Nat := none
  deriving DecidableEq, Repr

/-- Live state of a port (18 R525, 02 R64, 05 R151, R152, 04 R126, R133). -/
structure PortState where
  linkUp : Bool := false
  txOn : Bool := false
  ingressOn : Bool := false
  /-- the Spring image or a blob has configured the port since the last reset (02 R65) -/
  ready : Bool := false
  retired : Bool := false
  hold : PfcHold := {}
  cur : Option TxCur := none
  /-- a preempted copy waiting to continue (05 R150) -/
  preempted : Option TxCur := none
  preemptActive : Bool := false
  verifyFail : Bool := false
  /-- preemptable traffic held by the MAC (05 R152) -/
  macHold : Bool := false
  txts : List (Stamp × BitVec 16 × Nat) := []
  txtsLost : Word := 0
  /-- an entry was lost since the queue was last below 64 entries (04 R131) -/
  txtsFull : Bool := false
  /-- the last mean link delay, the count of measurements since link-up, and the largest since then (04 R126, 05 R170) -/
  pdelayPs : Nat := 0
  pdelayCount : Nat := 0
  pdelayMaxPs : Nat := 0
  asCapable : Bool := false
  pdelayLost : Nat := 0
  /-- the port runs without MACsec, since its keys are lost or since a clear data frame came in (08 R276) -/
  clearMode : Bool := false
  clearFrame : Bool := false
  /-- blocking for every VID after a HELLO on a port outside the ETB (09 R288) -/
  loopBlock : Bool := false
  deriving DecidableEq, Repr

/-- The buffer manager (03). Tables are sparse: an unlisted queue is empty, an unlisted allotment unused. -/
structure BufState where
  frames : Tbl Frame := []
  queues : Tbl Queue := []
  allots : Tbl Allot := []
  headroom : Tbl Nat := []
  /-- cells in use per stream (03 R75) -/
  resvCells : Tbl Nat := []
  descLow : Bool := false
  ageClock : Word := 0
  spillReady : Bool := false
  spillFull : Bool := false
  spillCopies : Nat := 0
  spillPages : Nat := 0
  /-- the free lists: cells, descriptors and spill pages given back, last first, and the first index never taken -/
  cellFree : List Nat := []
  cellNext : Nat := 0
  descFree : List Nat := []
  descNext : Nat := 0
  pageFree : List Nat := []
  pageNext : Nat := 0
  /-- sequence number of the next spill page -/
  pageSeq : Word := 0
  /-- cells withdrawn with retired SRAM banks (21 Table FLT-1) -/
  cellsWithdrawn : Nat := 0
  deriving DecidableEq, Repr

/-- A forwarding database entry (02 R47), keyed by FID * 2^48 + MAC. -/
structure FdbEntry where
  port : Nat
  learned : Bool := true
  /-- time in ps when created (lookups are answered 16 clocks later) and last seen -/
  created : Nat := 0
  seen : Nat := 0
  deriving DecidableEq, Repr

/-- A meter's buckets, in bits scaled by 10^9 so that kb/s times ps add exactly. -/
structure MeterState where
  tc : Nat
  tp : Nat
  at_ : Nat
  deriving DecidableEq, Repr

/-- The frame path (02). -/
structure FwdState where
  hashKey : Tbl Word := []
  fdb : Tbl FdbEntry := []
  /-- live indirection entries per group (02 R53: substitutions belong to no epoch) -/
  lg : Tbl (Tbl Nat) := []
  /-- pending moves: group * 256 + entry to (target, time of request) -/
  moves : Tbl (Nat × Nat) := []
  /-- last selection of an indirection entry, by group * 256 + entry -/
  lastSel : Tbl Nat := []
  meters : Tbl MeterState := []
  /-- frames whose header is in stages P1 to P8, oldest first -/
  pipe : List Nat := []
  /-- configurations still needed by frames in the pipeline or miss queue are kept in `State.oldCfgs` -/
  calSlot : Nat := 0
  rr : Nat := 0
  rrExpress : Nat := 0
  /-- frames from the miss queue that wait for a recirculation slot -/
  recirc : List (Nat × Bytes) := []
  /-- ICMP copies sent in the current second (02 R49) and its start -/
  icmpCount : Nat := 0
  icmpSec : Nat := 0
  /-- frames whose header has entered arbitration and is not yet in the pipeline, oldest first (02 R36, R38) -/
  arrivals : List Nat := []
  deriving DecidableEq, Repr

/-! ### Time (04) -/

inductive ClockMode where
  | freeRun | locked | holdover
  deriving DecidableEq, Repr

/-- A Sync that waits to be relayed (04 R125): its ingress timestamp in 2^-16 ns, the STEP_COUNT then (R117), its origin time in ns, its
correction up to here with the delay of the link it came by in 2^-16 ns, and the ports it has left by. -/
structure Relay where
  at_ : Int
  step : BitVec 8
  origin : Nat
  corr : Int
  sent : List Nat := []
  deriving DecidableEq, Repr

/-- A domain engine (04 R120, R121). Times are `Device.now`. -/
structure Domain where
  gm : BitVec 64 := 0
  gmValid : Bool := false
  gmIsSelf : Bool := false
  /-- the priority vector of the grandmaster in the order BMCA compares it: priority1, clockClass, accuracy,
  variance, priority2, identity -/
  vec : List Nat := []
  /-- the last Announce of each port: its vector and when it came -/
  heard : Tbl (List Nat × Nat) := []
  /-- the port the domain is received on -/
  slavePort : Option Nat := none
  lastSync : Option Nat := none
  gmSince : Nat := 0
  lastAnnounce : Option Nat := none
  /-- domain time minus local time in ns, as last measured, and the local time of the measurement in ns -/
  offsetNs : Int := 0
  measuredAt : Option Int := none
  /-- rate ratio of the grandmaster's time against the local clock, minus 1, in units of 2^-41 -/
  rate : Int := 0
  relay : Option Relay := none
  /-- usable without a break since (04 R123) -/
  usableSince : Option Nat := none
  deriving DecidableEq, Repr

/-- The latched snapshot (04 R137). -/
structure Snap where
  sec : BitVec 48 := 0
  ns : BitVec 30 := 0
  frac : Word := 0
  ts32 : Word := 0
  step : BitVec 8 := 0
  deriving DecidableEq, Repr

structure TimState where
  sec : BitVec 48 := 0
  ns : BitVec 30 := 0
  frac : Word := 0
  incr : BitVec 40 := 0x0400000000
  mode : ClockMode := .freeRun
  /-- selected domain: false A, true B -/
  selB : Bool := false
  step : BitVec 8 := 0
  keeperInvalid : Bool := false
  snap : Snap := {}
  domA : Domain := {}
  domB : Domain := {}
  splitD : Word := 0
  /-- what is left of a split that is slewed out at SLEW_MAX, in 2^-32 ns, and what each tick takes of it (04 R122) -/
  slewLeft : Int := 0
  slewStep : Int := 0
  /-- the engines have restarted and no domain has been selected since (04 R118) -/
  unselected : Bool := false
  /-- no domain is usable and DOMAIN_LOST has been raised (04 R124) -/
  lost : Bool := false
  deriving DecidableEq, Repr

/-! ### Scheduled traffic (05) -/

/-- A gate list in operation on a port (05 R142, R176). -/
structure GateState where
  running : Bool := false
  entry : Nat := 0
  gates : BitVec 8 := 0xFF
  cycles : Word := 0
  /-- the cycle of the list at the last entry that took effect -/
  cycleNo : Int := 0
  deriving DecidableEq, Repr

/-- Live state of a stream: per-cycle count, block, the flag of a raised link-delay bound until its re-check, risk mark (05 R156, R158, R171). -/
structure StreamState where
  cycle : Int := 0
  count : Nat := 0
  blocked : Bool := false
  flagged : Bool := false
  atRisk : Bool := false
  deriving DecidableEq, Repr

/-- A stream gate in operation (05 R155): its entry and the cycle of that entry, whether GateClosedDueToInvalidRx or
GateClosedDueToOctetsExceeded has closed it, and the octets that have passed in the entry. -/
structure PsfpGateState where
  entry : Nat := 0
  cycleNo : Int := 0
  closed : Bool := false
  octets : Nat := 0
  deriving DecidableEq, Repr

/-- The reservation of a Scheduled stream (05 R166): cells, and descriptors per egress port. -/
structure Resv where
  cells : Nat := 0
  desc : Tbl Nat := []
  deriving DecidableEq, Repr

structure SchState where
  resv : Tbl Resv := []
  gates : Tbl GateState := []
  streams : Tbl StreamState := []
  psfp : Tbl PsfpGateState := []
  /-- CBS credit per queue, in bits times 10^9, and the time it was last brought forward -/
  credit : Tbl (Int × Nat) := []
  /-- effective link-delay bound last used per ingress port, in ps (05 R170, R171) -/
  effBound : Tbl Nat := []
  /-- a bound has risen since the last re-check (05 R171) -/
  recheck : Bool := false
  deriving DecidableEq, Repr

/-! ### Assured delivery (06) -/

inductive AsdMode where
  | init | run
  deriving DecidableEq, Repr

/-- The recovery state of a slot (06 R193). `win` and `hist` list the numbers whose bit is 1. -/
structure AsdSlot where
  handle : Nat
  mode : AsdMode := .init
  next : Nat := 0
  /-- window: sequence number to (frame, accepted, acceptance time in ps) -/
  win : Tbl (Nat × Bool × Nat) := []
  hist : List Nat := []
  counter : Nat := 0
  /-- M of R182 -/
  mirror : Nat := 0
  stalled : Bool := false
  lastAccept : Nat := 0
  /-- last contribution and last accepted frame per ingress port, and ports reported silent (06 R196) -/
  members : Tbl Nat := []
  accepted : Tbl Nat := []
  silent : List Nat := []
  /-- highest number with every copy ended that a mark has listed (06 R189) -/
  ended : Option Nat := none
  deriving DecidableEq, Repr

/-- Kinds of journal record (06 R188). -/
inductive JKind where
  | frame | mirror | mark
  deriving DecidableEq, Repr

/-- A journal record (06 Table ASD-3) with what the journal needs to replay it. -/
structure JRec where
  no : Nat
  kind : JKind
  slot : Nat
  seq : Nat
  acceptTs : Word := 0
  egress : List Nat := []
  device : Bool := false
  replica : Bool := false
  bytes : Bytes := []
  marks : Tbl Nat := []
  /-- when it was written (06 R187) -/
  wrote : Nat := 0
  epoch : Word := 0
  /-- CRC-32C of Table ASD-3 -/
  crc : Word := 0
  /-- where it begins in the circular journal, in 64-byte units written since the journal began -/
  start : Nat := 0
  ageStamp : Word := 0
  stamp : Stamp := {}
  srcPort : Nat := 0
  itc : Nat := 0
  /-- frame in the buffer whose record this is -/
  frame : Nat := 0
  /-- held by the copy on DRAM channel 0, channel 1; acknowledged by the partner (or not needed) -/
  copy0 : Bool := false
  copy1 : Bool := false
  acked : Bool := false
  complete : Bool := false
  /-- every copy of the record's frame has ended -/
  finished : Bool := false
  deriving DecidableEq, Repr

structure AsdState where
  slots : Tbl AsdSlot := []
  journal : List JRec := []
  /-- the next RECORD_NO, and the head of the journal in 64-byte units -/
  nextNo : Nat := 0
  head : Nat := 0
  /-- admitted frames that wait for their sequence test, oldest first -/
  waiting : List Nat := []
  copiesIn : BitVec 2 := 3
  replicating : Bool := false
  lastAck : Nat := 0
  /-- a warm reset or a takeover asks for the journal to be read (06 R198, R201), and the age clock at WRST_N's fall -/
  replayDue : Bool := false
  fallAge : Word := 0
  deriving DecidableEq, Repr

/-! ### Firewall (07) -/

/-- States of an entry (07 Table FWL-5). -/
inductive CtPhase where
  | synSent | synRecv | established | fin1 | fin2 | timeWait | closed
  | oneWay | bothWays | echoReq | echoReplied
  deriving DecidableEq, Repr

inductive CtKind where
  | tcp | udp | icmp | otherIp | l2
  deriving DecidableEq, Repr

/-- TCP tracking (07 R222, R223). -/
structure Track where
  high1 : Word := 0
  high2 : Word := 0
  right1 : Word := 0
  right2 : Word := 0
  deriving DecidableEq, Repr

/-- A conntrack entry (07 Table FWL-4). -/
structure Ct where
  key : Bytes
  alias_ : Bool := false
  napt : Bool := false
  dir : Bool := false
  picked : Bool := false
  kind : CtKind
  state : CtPhase
  initZone : Nat := 0
  respZone : Nat := 0
  ruleId : Nat := 0
  prof : BitVec 3 := 0
  created : Word := 0
  seen : Word := 0
  next : Option Nat := none
  prev : Option Nat := none
  track : Track := {}
  ws1 : BitVec 4 := 0
  ws2 : BitVec 4 := 0
  /-- TCP_SEEN of Table FWL-4 -/
  seen8 : BitVec 8 := 0
  link : Option Nat := none
  xaddr : Nat := 0
  xport : Nat := 0
  nh : Option (Bool × Nat) := none
  mirrorNo : Word := 0
  deriving DecidableEq, Repr

/-- A flow cache way (07 Table FWL-8). An IPv6 way stands in both slots of its pair. -/
structure Way where
  key : Bytes
  v6 : Bool := false
  pend : Bool := true
  /-- a lookup has filled the way -/
  filled : Bool := false
  seen : Word := 0
  track : Track := {}
  dirtyT : Bool := false
  used : Nat := 0
  deriving DecidableEq, Repr

/-- A fragment entry (07 R228): the verdict and translation of the first fragment. -/
structure Frag where
  key : Bytes
  /-- `none`: pass; else the code the first fragment was discarded under -/
  code : Option Nat := none
  /-- conntrack index -/
  ct : Option Nat := none
  /-- address translation: (source, address) -/
  xlate : Option (Bool × Nat) := none
  nh : Option (Bool × Nat) := none
  last : Nat := 0
  deriving DecidableEq, Repr

/-- Token buckets of a zone in tokens times 10^10: 100/s times ps add exactly; and the time. -/
structure Bucket where
  level : Nat
  at_ : Nat
  deriving DecidableEq, Repr

structure FwlState where
  ct : Tbl Ct := []
  /-- freed slots, last freed first (07 R217) -/
  free : List Nat := []
  cache : Tbl (List (Option Way)) := []
  cacheTick : Nat := 0
  /-- miss queue: frames with their CT key, oldest first -/
  missQ : List (Nat × Bytes) := []
  /-- frames whose lookup is done: pass (and be tracked), or the code they are discarded under (07 R232) -/
  verdicts : Tbl (Option Nat) := []
  missBkt : Tbl Bucket := []
  setupBkt : Tbl Bucket := []
  frags : List Frag := []
  fwSec : Word := 0
  fwSecPs : Nat := 0
  restartSec : Word := 0
  spring : Bool := true
  ctSync : Bool := false
  graceEnd : Option Nat := none
  /-- seed in force (07 R217) and whether conntrack has been initialised -/
  seed : Word := 0
  ctReady : Bool := false
  /-- conntrack is being reloaded from the partner's mirror (01 R24, 07 R243) -/
  reload : Bool := false
  bankLoaded : Bool := false
  revalPos : Option Nat := none
  lastCtFull : Option Nat := none
  lastNapt : Option Nat := none
  lastMissSat : Option Nat := none
  mirrorNo : Word := 0
  /-- mirrored entries that could not be inserted (07 R241) -/
  mirrorFails : Nat := 0
  rejectCount : Nat := 0
  rejectSec : Nat := 0
  logCount : Nat := 0
  logSec : Nat := 0
  deriving DecidableEq, Repr

/-! ### MACsec (08) -/

/-- A transmit SA (08 R264 to R266, R274). -/
structure TxSa where
  an : BitVec 2
  pn : Nat
  key : Nat := 0
  ssci : Word := 0
  salt : Nat := 0
  /-- SEC key slot that is the key's source (08 R268), and whether MKA installed it -/
  src : Nat := 0
  mka : Bool := false
  spring : Bool := false
  ckpt : Nat := 0
  /-- a checkpoint write to the Keeper that runs (08 R274) -/
  ckptPend : Option Nat := none
  softDone : Bool := false
  /-- first or second SA of its SC: its SA number is SC × 2 + pos -/
  pos : Nat := 0
  deriving DecidableEq, Repr

structure RxSa where
  an : BitVec 2
  lowest : Nat
  /-- highest accepted PN, and a checkpoint write that runs (08 R274) -/
  high : Nat := 0
  ckptPend : Option Nat := none
  key : Nat := 0
  ssci : Word := 0
  salt : Nat := 0
  src : Nat := 0
  spring : Bool := false
  pos : Nat := 0
  deriving DecidableEq, Repr

structure TxSc where
  sas : List TxSa := []
  enc : Option (BitVec 2) := none
  stopped : Bool := false
  stalled : Bool := false
  deriving DecidableEq, Repr

structure MscState where
  tx : Tbl TxSc := []
  rx : Tbl (List RxSa) := []
  entropyOk : Bool := false
  drbgDegraded : Bool := false
  /-- start-up tests of the entropy source: completed (passed or failed for good), and failures so far (19 R549) -/
  entropyDone : Bool := false
  entropyTries : Nat := 0
  /-- state of the device DRBG, drawn from the entropy source at each seeding (08 R279, 19 R549) -/
  drbg : Nat := 0
  /-- SAs erased less than 1 ms ago, with the time of the erase (08 R271): (transmit, SC, AN, time) -/
  erasing : List (Bool × Nat × BitVec 2 × Nat) := []
  deriving DecidableEq, Repr

end Sys2Proof.Machine
end

