-- ==== Sys2Proof/Machine/Operands.lean ====
section
/-! DEFINITION. The operand forms of the frame path: the headers of the parse graph (02 Table FWD-3), the
flow key (02 Table FWD-4), the CT key (07 R216), and the edits a frame leaves with. -/

namespace Sys2Proof

/-- The value of `n` bytes from offset `off`, least significant byte first; bytes past the end count as zero (00 R5). -/
def leAt (b : Bytes) (off : Nat) : Nat → Nat
  | 0 => 0
  | n + 1 => (b.getD off 0).toNat + 256 * leAt b (off + 1) n

end Sys2Proof

namespace Sys2Proof.Machine

/-- A word as its four bytes, least significant first. (log entry 37: PRESUMED) -/
def leWord (w : Word) : Bytes := (toBe 4 w.toNat).reverse

/-- A VLAN tag. -/
structure VTag where
  tpid : Nat
  pcp : Nat
  dei : Bool
  vid : Nat
  deriving DecidableEq, Repr

/-- The layer-4 part of a packet. -/
structure L4 where
  sport : Nat := 0
  dport : Nat := 0
  flags : Nat := 0
  tcpSeq : Nat := 0
  tcpAck : Nat := 0
  window : Nat := 0
  dataOff : Nat := 0
  icmpType : Nat := 0
  icmpCode : Nat := 0
  icmpId : Nat := 0
  deriving DecidableEq, Repr

/-- An IP packet's header as the parser extracts it. -/
structure IpHdr where
  v6 : Bool
  off : Nat
  src : Nat
  dst : Nat
  proto : Nat
  dscp : Nat
  ttl : Nat
  totLen : Nat
  df : Bool
  fragOff : Nat
  more : Bool
  ident : Nat
  isFrag : Bool
  l4Off : Nat
  /-- more than two IPv6 extension headers -/
  deep : Bool
  l4 : L4
  deriving DecidableEq, Repr

/-- What the parser finds in the header window. -/
structure Hdr where
  da : Nat
  sa : Nat
  tag1 : Option VTag := none
  tag2 : Option VTag := none
  rtag : Option Nat := none
  rtagOff : Nat := 0
  etherType : Nat
  payOff : Nat
  ip : Option IpHdr := none
  /-- the IP header an ICMP error embeds (07 R224) -/
  inner : Option IpHdr := none
  /-- bytes of the window the parse graph needs (02 R36) -/
  need : Nat
  deriving DecidableEq, Repr

def byteAt (b : Bytes) (i : Nat) : Nat := (b.getD i 0).toNat

/-- IPv6 extension headers: next header, offset, whether a fragment header was met and its fields, and whether
the chain is deeper than two (02 R40, R41). (log entry 16: DEDUCED) -/
def ext6 (b : Bytes) : Nat → Nat → Nat → (Nat × Nat × Option (Nat × Bool × Nat) × Bool)
  | 0, nh, off => (nh, off, none, nh == 0 || nh == 43 || nh == 44 || nh == 60)
  | n + 1, nh, off =>
    if nh = 44 then
      let w := beAt b (off + 2) 2
      let r := ext6 b n (byteAt b off) (off + 8)
      (r.1, r.2.1, some (w / 8, w % 2 == 1, beAt b (off + 4) 4), r.2.2.2)
    else if nh = 0 ∨ nh = 43 ∨ nh = 60 then
      ext6 b n (byteAt b off) (off + 8 + 8 * byteAt b (off + 1))
    else (nh, off, none, false)

/-- Layer 4 at an offset (02 Table FWD-3). -/
def parseL4 (b : Bytes) (proto off : Nat) : L4 :=
  if proto = 6 then
    { sport := beAt b off 2, dport := beAt b (off + 2) 2, tcpSeq := beAt b (off + 4) 4,
      tcpAck := beAt b (off + 8) 4, dataOff := byteAt b (off + 12) / 16 * 4, flags := byteAt b (off + 13),
      window := beAt b (off + 14) 2 }
  else if proto = 17 then { sport := beAt b off 2, dport := beAt b (off + 2) 2 }
  else if proto = 1 ∨ proto = 58 then
    { icmpType := byteAt b off, icmpCode := byteAt b (off + 1), icmpId := beAt b (off + 4) 2 }
  else {}

/-- An IP header at an offset. Every packet with a Fragment header counts as a fragment, an atomic one (offset 0, M = 0) too, so that its key
has ports 0 (02 R43, which leaves it open). (log entry 16: DEDUCED, 70: DESIGN CHOICE) -/
def parseIp (b : Bytes) (v6 : Bool) (off : Nat) : IpHdr :=
  if v6 then
    let r := ext6 b 2 (byteAt b (off + 6)) (off + 40)
    let frag := r.2.2.1
    { v6 := true, off := off, src := beAt b (off + 8) 16, dst := beAt b (off + 24) 16, proto := r.1,
      dscp := (beAt b off 2 / 64) % 64, ttl := byteAt b (off + 7), totLen := 40 + beAt b (off + 4) 2, df := true,
      fragOff := (frag.map Prod.fst).getD 0, more := (frag.map (fun x => x.2.1)).getD false,
      ident := (frag.map (fun x => x.2.2)).getD 0, isFrag := frag.isSome, l4Off := r.2.1, deep := r.2.2.2,
      l4 := parseL4 b r.1 r.2.1 }
  else
    let ihl := byteAt b off % 16 * 4
    let w := beAt b (off + 6) 2
    let proto := byteAt b (off + 9)
    { v6 := false, off := off, src := beAt b (off + 12) 4, dst := beAt b (off + 16) 4, proto := proto,
      dscp := byteAt b (off + 1) / 4, ttl := byteAt b (off + 8), totLen := beAt b (off + 2) 2,
      df := (w / 16384) % 2 == 1, fragOff := w % 8192, more := (w / 8192) % 2 == 1,
      ident := beAt b (off + 4) 2, isFrag := w % 8192 != 0 || (w / 8192) % 2 == 1, l4Off := off + ihl,
      deep := false, l4 := parseL4 b proto (off + ihl) }

/-- Bytes of layer 4 the parse graph reads, from its offset; a SYN is read with its options (07 R223). -/
def l4Need (proto : Nat) (l : L4) : Nat :=
  if proto = 6 then (if l.flags / 2 % 2 = 1 then max 20 l.dataOff else 16)
  else if proto = 17 then 4 else if proto = 1 ∨ proto = 58 then 6 else 0

/-- Bytes of an IP header the parse graph reads before it knows where layer 4 begins. -/
def ipNeed (ip : IpHdr) : Nat := ip.off + (if ip.v6 then 40 else 20)

/-- Whether an ICMP message is an error that embeds a header (02 R41, 07 R224). -/
def isIcmpError (ip : IpHdr) : Bool :=
  if ip.v6 then ip.proto == 58 && decide (1 ≤ ip.l4.icmpType ∧ ip.l4.icmpType ≤ 4)
  else ip.proto == 1 && (ip.l4.icmpType == 3 || ip.l4.icmpType == 11 || ip.l4.icmpType == 12)

/-- VLAN tags: at most two in total (02 Table FWD-3). -/
def parseTags (b : Bytes) : Nat → Nat → List VTag → (List VTag × Nat)
  | 0, off, acc => (acc, off)
  | n + 1, off, acc =>
    let t := beAt b off 2
    if t = 0x8100 ∨ t = 0x88A8 then
      let w := beAt b (off + 2) 2
      parseTags b n (off + 4)
        (acc ++ [{ tpid := t, pcp := w / 8192, dei := (w / 4096) % 2 == 1, vid := w % 4096 }])
    else (acc, off)

/-- The parse graph (02 R40, Table FWD-3) over the first 128 bytes of the window. (log entry 16: DEDUCED) -/
def parse (user : List UserType) (full : Bytes) : Hdr :=
  let b := full.take 128
  let r := parseTags b 2 12 []
  let o := r.2
  let hasR := beAt b o 2 == 0xF1C1
  let e := if hasR then o + 6 else o
  let et := beAt b e 2
  let base : Hdr :=
    { da := beAt b 0 6, sa := beAt b 6 6, tag1 := r.1[0]?, tag2 := r.1[1]?,
      rtag := if hasR then some (beAt b (o + 4) 2) else none, rtagOff := o, etherType := et, payOff := e + 2,
      need := e + 2 }
  if et = 0x0800 ∨ et = 0x86DD then
    let ip := parseIp b (et == 0x86DD) (e + 2)
    let h := { base with ip := some ip, need := max (ipNeed ip) (ip.l4Off + l4Need ip.proto ip.l4) }
    if isIcmpError ip then
      let io := ip.l4Off + 8
      let inner := parseIp b (byteAt b io / 16 == 6) io
      { h with inner := some inner, need := max (ipNeed inner) (inner.l4Off + 8) }
    else h
  else match user.find? (fun u => u.etherType.toNat == et) with
    | some u => { base with need := e + 2 + u.length }
    | none => base

/-- PARSE_DEPTH (02 R41) of a frame that crosses zones. (log entry 16: DEDUCED) -/
def tooDeep (h : Hdr) : Bool :=
  match h.ip with
  | none => false
  | some ip => ip.deep || (decide (119 < ip.l4Off) && !(ip.isFrag && ip.fragOff != 0)) ||
      (match h.inner with
       | some i => i.deep || decide (128 < i.l4Off + 8)
       | none => false)

/-- A bit as a number. -/
def bitN (b : Bool) : Nat := if b then 1 else 0

/-! ### Keys -/

/-- Bytes 36 to 39 of the flow key (02 Table FWD-4, R43). -/
def keyPorts (ip : IpHdr) : Nat × Nat :=
  if ip.isFrag then (0, 0)
  else if ip.proto = 6 ∨ ip.proto = 17 then (ip.l4.sport, ip.l4.dport)
  else if (ip.proto = 1 ∧ !ip.v6) ∨ (ip.proto = 58 ∧ ip.v6) then
    let tc := ip.l4.icmpType * 256 + ip.l4.icmpCode
    let echo := if ip.v6 then ip.l4.icmpType == 128 || ip.l4.icmpType == 129
      else ip.l4.icmpType == 8 || ip.l4.icmpType == 0
    (if echo then ip.l4.icmpId else 0, tc)
  else (0, 0)

/-- The 40-byte flow key (02 R42, Table FWD-4). -/
def flowKey (h : Hdr) (vid : Nat) : Bytes :=
  match h.ip with
  | some ip =>
    let p := keyPorts ip
    [if ip.v6 then 6 else 4, BitVec.ofNat 8 ip.proto] ++ toBe 2 vid ++
      toBe 16 ip.src ++ toBe 16 ip.dst ++ toBe 2 p.1 ++ toBe 2 p.2
  | none => [2, 0] ++ toBe 2 vid ++ toBe 16 h.sa ++ toBe 16 h.da ++ toBe 2 h.etherType ++ toBe 2 0

/-- A header with its packet taken as whole: a first fragment is keyed like an unfragmented frame (07 R228). -/
def wholeHdr (h : Hdr) : Hdr := { h with ip := h.ip.map (fun ip => { ip with isFrag := false }) }

/-- Order of endpoints in a CT key: address, then port, then zone, unsigned (07 R216). -/
def endLe (a1 p1 z1 a2 p2 z2 : Nat) : Bool :=
  decide (a1 < a2) || (decide (a1 = a2) && (decide (p1 < p2) || (decide (p1 = p2) && decide (z1 ≤ z2))))

/-- Parts of a packet the CT key is made of. -/
structure CtTuple where
  ver : Nat
  proto : Nat
  src : Nat
  dst : Nat
  /-- bytes 36–37 and 38–39 -/
  w36 : Nat
  w38 : Nat
  zsrc : Nat
  zdst : Nat
  /-- the two words move with the endpoints (TCP, UDP and other IP) -/
  moves : Bool
  deriving DecidableEq, Repr

/-- The CT key and DIR (07 R216). -/
def ctKeyOf (t : CtTuple) : Bytes × Bool :=
  let p1 := if t.moves then t.w36 else 0
  let p2 := if t.moves then t.w38 else 0
  let keep := endLe t.src p1 t.zsrc t.dst p2 t.zdst
  let hd (z1 z2 : Nat) : Bytes := [BitVec.ofNat 8 t.ver, BitVec.ofNat 8 t.proto, BitVec.ofNat 8 z1, BitVec.ofNat 8 z2]
  if keep then (hd t.zsrc t.zdst ++ toBe 16 t.src ++ toBe 16 t.dst ++ toBe 2 t.w36 ++ toBe 2 t.w38, false)
  else
    let a := if t.moves then t.w38 else t.w36
    let b := if t.moves then t.w36 else t.w38
    (hd t.zdst t.zsrc ++ toBe 16 t.dst ++ toBe 16 t.src ++ toBe 2 a ++ toBe 2 b, true)

/-- Words 36–39 of an IP packet in a CT key: an echo reply takes the request's type (07 R216). -/
def ctWords (ip : IpHdr) : Nat × Nat :=
  let p := keyPorts ip
  let icmp := (ip.proto = 1 ∧ !ip.v6) ∨ (ip.proto = 58 ∧ ip.v6)
  if icmp ∧ !ip.isFrag then
    if !ip.v6 ∧ (ip.l4.icmpType = 8 ∨ ip.l4.icmpType = 0) then (p.1, 0x0800)
    else if ip.v6 ∧ (ip.l4.icmpType = 128 ∨ ip.l4.icmpType = 129) then (p.1, 0x8000)
    else p
  else p

/-- The tuple of a packet between two zones. -/
def tupleOf (h : Hdr) (zsrc zdst : Nat) : CtTuple :=
  match h.ip with
  | some ip =>
    let w := ctWords ip
    { ver := if ip.v6 then 6 else 4, proto := ip.proto, src := ip.src, dst := ip.dst, w36 := w.1, w38 := w.2,
      zsrc := zsrc, zdst := zdst, moves := !(ip.proto == 1 && !ip.v6) && !(ip.proto == 58 && ip.v6) }
  | none =>
    { ver := 2, proto := 0, src := h.sa, dst := h.da, w36 := h.etherType, w38 := 0, zsrc := zsrc, zdst := zdst,
      moves := false }

/-- The tuple the header embedded in an ICMP error reports, with its endpoints reversed (07 R224). -/
def innerTuple (i : IpHdr) (zsrc zdst : Nat) : CtTuple :=
  let w := ctWords i
  { ver := if i.v6 then 6 else 4, proto := i.proto, src := i.src, dst := i.dst, w36 := w.1, w38 := w.2,
    zsrc := zdst, zdst := zsrc, moves := !(i.proto == 1 && !i.v6) && !(i.proto == 58 && i.v6) }

/-! ### Edits -/

/-- Replace bytes at an offset. -/
def patch (b : Bytes) (off : Nat) (v : Bytes) : Bytes := b.take off ++ v ++ b.drop (off + v.length)

/-- A VLAN tag as bytes. -/
def tagBytes (t : VTag) : Bytes :=
  toBe 2 t.tpid ++ toBe 2 (t.pcp * 8192 + (if t.dei then 4096 else 0) + t.vid)

/-- An R-tag (06 R179). -/
def rtagBytes (seq : Nat) : Bytes := toBe 2 0xF1C1 ++ toBe 2 0 ++ toBe 2 seq

/-- TTL or hop limit decremented and the IPv4 header check sum updated (02 R48). -/
def decTtl (b : Bytes) (ip : IpHdr) : Bytes :=
  if ip.v6 then patch b (ip.off + 7) (toBe 1 (ip.ttl - 1))
  else
    let m := ip.ttl * 256 + ip.proto
    let hc := beAt b (ip.off + 10) 2
    patch (patch b (ip.off + 8) (toBe 1 (ip.ttl - 1))) (ip.off + 10) (toBe 2 (csumUpdate hc m (m - 256)))

/-- Rewrite one IPv4 endpoint and its port or ICMP identifier, with both check sums (07 R238). `src` says which
endpoint. `port = none` leaves the port. -/
def rewrite4 (b : Bytes) (ip : IpHdr) (src : Bool) (addr : Nat) (port : Option Nat) : Bytes :=
  let ao := ip.off + (if src then 12 else 16)
  let old := beAt b ao 4
  let m := ocAdd (old / 65536) (old % 65536)
  let m' := ocAdd (addr / 65536) (addr % 65536)
  let b := patch b ao (toBe 4 addr)
  let b := patch b (ip.off + 10) (toBe 2 (csumUpdate (beAt b (ip.off + 10) 2) m m'))
  let first := ip.fragOff == 0
  if !first then b
  else if ip.proto = 6 ∨ ip.proto = 17 then
    let po := ip.l4Off + (if src then 0 else 2)
    let oldP := beAt b po 2
    let newP := port.getD oldP
    let co := ip.l4Off + (if ip.proto = 6 then 16 else 6)
    let hc := beAt b co 2
    let b := patch b po (toBe 2 newP)
    if ip.proto = 17 ∧ hc = 0 then b
    else patch b co (toBe 2 (csumUpdate hc (ocAdd m oldP) (ocAdd m' newP)))
  else if ip.proto = 1 then
    match port with
    | some p =>
      let oldP := beAt b (ip.l4Off + 4) 2
      let hc := beAt b (ip.l4Off + 2) 2
      patch (patch b (ip.l4Off + 4) (toBe 2 p)) (ip.l4Off + 2) (toBe 2 (csumUpdate hc oldP p))
    | none => b
  else b

/-- Translate the source of the header that an ICMP error embeds back, port or identifier with it, and the check sums that lie in the packet
(07 R238). (log entry 90: DESIGN CHOICE) -/
def rewriteInner (b : Bytes) (outer i : IpHdr) (addr : Nat) (port : Option Nat) : Bytes :=
  let stop := outer.off + outer.totLen
  let old := beAt b (i.off + 12) 4
  let b1 := patch b (i.off + 12) (toBe 4 addr)
  let b1 := patch b1 (i.off + 10) (toBe 2 (csumUpdate (beAt b (i.off + 10) 2) (ocAdd (old / 65536) (old % 65536)) (ocAdd (addr / 65536) (addr % 65536))))
  let po := if i.proto = 1 then i.l4Off + 4 else i.l4Off
  let co := if i.proto = 1 then i.l4Off + 2 else i.l4Off + (if i.proto = 6 then 16 else 6)
  let b2 := match port with
    | none => b1
    | some p =>
      let oldP := beAt b1 po 2
      let c := beAt b1 co 2
      let s := if i.proto = 1 then csumUpdate c oldP p
        else csumUpdate c (ocAdd (ocAdd (old / 65536) (old % 65536)) oldP) (ocAdd (ocAdd (addr / 65536) (addr % 65536)) p)
      let b2 := patch b1 po (toBe 2 p)
      if stop < co + 2 ∨ (i.proto = 17 ∧ c = 0) then b2 else patch b2 co (toBe 2 s)
  let region (x : Bytes) : Nat := ocSum ((x.take stop).drop i.off)
  patch b2 (outer.l4Off + 2) (toBe 2 (csumUpdate (beAt b (outer.l4Off + 2) 2) (region b) (region b2)))

/-- The bytes a copy leaves with (03 R68, 02 R44, R48, 06 R179, 07 R238). -/
def applyEdit (user : List UserType) (e : Edit) (b0 : Bytes) : Bytes :=
  let h := parse user b0
  let b := match h.ip with
    | some ip =>
      let b := if e.decTtl then decTtl b0 ip else b0
      let b := match e.nat with
        | some (src, addr, port) => rewrite4 b ip src addr port
        | none => b
      (match h.inner, e.natInner with
       | some i, some (addr, port) => rewriteInner b ip i addr port
       | _, _ => b)
    | none => b0
  let addrs := (match e.da with | some a => toBe 6 a | none => b.take 6) ++
    (match e.sa with | some a => toBe 6 a | none => (b.drop 6).take 6)
  let tags : Bytes × Nat := match e.tag, h.tag1 with
    | .keep, _ => ((b.drop 12).take (h.rtagOff - 12), h.rtagOff)
    | .strip, some _ => ((b.drop 16).take (h.rtagOff - 16), h.rtagOff)
    | .strip, none => ([], h.rtagOff)
    | .push s pcp dei vid, _ =>
      (tagBytes { tpid := if s then 0x88A8 else 0x8100, pcp := pcp, dei := dei, vid := vid } ++ (b.drop 12).take (h.rtagOff - 12), h.rtagOff)
    | .setVid vid, some t => (tagBytes { t with vid := vid } ++ (b.drop 16).take (h.rtagOff - 16), h.rtagOff)
    | .setVid _, none => ([], h.rtagOff)
  match e.rtag with
  | some n => addrs ++ tags.1 ++ rtagBytes n ++ b.drop (if h.rtag.isSome then tags.2 + 6 else tags.2)
  | none => addrs ++ tags.1 ++ b.drop tags.2

end Sys2Proof.Machine
end

