-- ==== Sys2Proof/Machine/StateSys.lean ====
section
/-! DEFINITION. State of the global block, the fault ledger and the late error ring (18, 21), and the outputs
the block gives on its interfaces. -/

namespace Sys2Proof.Machine

/-! ### Global registers (18 Table REG-4) -/

structure GlbState where
  uidValid : Bool := true
  fwVer : Word := 0
  deviceId : Option (BitVec 12) := none
  cfgEpoch : Word := 0
  /-- 0 FULL, 1 DEGRADED, 2 NONE (18 GLB_PROT) -/
  prot : BitVec 2 := 2
  lock : BitVec 4 := 0
  evtLo : BitVec 16 := 0
  evtHi : BitVec 6 := 0
  rstCause : Word := 0
  rstCount : BitVec 16 := 0
  berrAddr : Word := 0
  berrInfo : Word := 0
  berrCount : Word := 0
  scratch : Word := 0
  /-- acceptance stopped before a sleep (01 R34) -/
  stopAccept : Bool := false
  /-- PRT_IRQ per port page (18 Table REG-7) -/
  prtIrq : Tbl (BitVec 2) := []
  deriving DecidableEq, Repr

/-! ### Keeper (19 R527 to R532) -/

/-- The battery-backed Keeper: secrets, counters, checkpoints, the time counter (04 R106, 08 R274). -/
structure KeeperState where
  valid : Bool := false
  /-- the root secret's number among those ever made; `none` while zeroed -/
  root : Option Nat := none
  bootCount : BitVec 48 := 0
  /-- C of transmit and D of receive Spring SAs, by SC * 4 + AN (08 R274) -/
  ckptTx : Tbl Nat := []
  ckptRx : Tbl Nat := []
  tamperRecord : Bytes := []
  timeSec : BitVec 48 := 0
  timeSub : BitVec 15 := 0
  /-- the time counter is valid (04 R106) -/
  timeOk : Bool := false
  deriving DecidableEq, Repr

/-! ### Fault ledger and late error ring (21) -/

inductive LedState where
  | inService | retired | testing
  deriving DecidableEq, Repr

/-- A ledger entry (21 Table FLT-5). -/
structure Ledger where
  state : LedState := .inService
  lastHard : Bool := false
  /-- times in ps of the transients, newest first, no longer than TRANSIENT_LIMIT -/
  times : List Nat := []
  transients : Word := 0
  hard : BitVec 16 := 0
  retirements : BitVec 16 := 0
  lastCode : BitVec 16 := 0
  corrected : BitVec 16 := 0
  /-- a fault was reported while the restore test ran (21 R586) -/
  faulted : Bool := false
  deriving DecidableEq, Repr

/-- A late error record (21 Table FLT-3); `detail` holds bytes 16 to 31. -/
structure LateRec where
  reason : BitVec 16
  /-- 0 none or route, 1 NCP, 2 DMA -/
  origin : BitVec 2 := 0
  who : BitVec 6 := 0
  ref : Word := 0
  ts : Word := 0
  epoch : Word := 0
  detail : Bytes := []
  deriving DecidableEq, Repr

/-- Event notices of an open session (21 R593): the mask, whether ledger codes are included, and the
notices sent in the current second. -/
structure Notify where
  mask : BitVec 22 := 0x004140
  ledger : Bool := true
  sec : Nat := 0
  sent : Nat := 0
  deriving DecidableEq, Repr

structure FltState where
  ledger : Tbl Ledger := []
  late : List LateRec := []
  lateLost : Word := 0
  /-- a loss has been reported since the level was last below 256 (21 R595) -/
  lateOvf : Bool := false
  noteLost : Word := 0
  notify : Tbl Notify := []
  impaired : Bool := false
  /-- restored DRAM channels that receive their journal copy (21 R587) -/
  copying : List Nat := []
  /-- HLTH_N is driven low (21 R591) -/
  hlthLow : Bool := false
  deriving DecidableEq, Repr

end Sys2Proof.Machine
end

