-- ==== Sys2Proof/ParamsNcp.lean ====
section
/-! DEFINITION. The operations of the command protocol and their parameters (16 Table NCP-5), as the TLVs of a packet give
them; the blobs of KEY_INSTALL (19 R546, 08 R269). -/

namespace Sys2Proof

/-- Transports (16 Table NCP-2), numbered as SESS_STATE from 1. -/
inductive Transport where
  | pcie | ethernet | wyusin | split
  deriving DecidableEq, Repr

inductive AuthMode where
  | transport | macsec | hmac
  deriving DecidableEq, Repr

/-- Parameters of SESSION_OPEN and SESSION_ATTACH (16 R467). -/
structure OpenParams where
  auth : AuthMode := .transport
  keySlot : Nat := 0
  secys : List Nat := []
  gapMs : Nat := 100
  nonce : Nat := 0
  /-- NOTIFY; `none`: the default of 21 R593 -/
  notify : Option (BitVec 22) := none
  deriving DecidableEq, Repr

/-- What FUNC_RESET names (21 R589). -/
inductive FuncBlock where
  | can (n : Nat) | mvb (n : Nat) | gateway | topology | host | splitCore
  /-- any other block tag, by its index in Table ARC-2 -/
  | other (tag : Nat)
  deriving DecidableEq, Repr

/-- A slot descriptor (19 Table SEC-6). -/
structure SlotDesc where
  type_ : BitVec 8
  use : BitVec 8
  masters : BitVec 4
  internal : Bool
  client : Bool
  lc : BitVec 8
  bind : Nat := 0
  persist : Bool := false
  debugOk : Bool := false
  deriving DecidableEq, Repr

/-- An SA descriptor (08 Table MSC-11). -/
structure SaDesc where
  tx : Bool
  encode : Bool := false
  an : BitVec 2
  /-- SecY of a transmit SA, receive SC of a receive SA -/
  sc : Nat
  pn : Nat
  /-- short secure channel identifier of GCM-AES-XPN-256 -/
  ssci : Word := 0
  /-- the key material is that of GCM-AES-XPN-256: SAK and salt -/
  xpnKey : Bool := true
  deriving DecidableEq, Repr

inductive BlobBody where
  | slot (n : Nat) (desc : SlotDesc)
  | sa (desc : SaDesc)
  deriving DecidableEq, Repr

/-- How a blob is wrapped (19 R546 WRAP). -/
inductive WrapKind where
  | slot (n : Nat) | plain | spring
  deriving DecidableEq, Repr

/-- A slot or SA blob. `opens`: the RFC 5649 unwrap yields a key whose recovered header equals the blob's. -/
structure KeyBlob where
  body : BlobBody
  wrap : WrapKind
  uid : BitVec 64
  opens : Bool := true
  key : Nat := 0
  /-- the 12-byte salt after the SAK of a GCM-AES-XPN-256 SA (08 R269) -/
  salt : Nat := 0
  deriving DecidableEq, Repr

/-- What KEY_ERASE names (08 R271). -/
inductive KeyTarget where
  | slot (n : Nat)
  | sa (tx : Bool) (sc : Nat) (an : BitVec 2)
  deriving DecidableEq, Repr

/-- How CT_READ names an entry (07 R218). -/
inductive CtRef where
  | index (i : Nat) | key (k : Bytes)
  deriving DecidableEq, Repr

/-- Execution classes (16 R477). -/
inductive OpClass where
  | session | read | config | action
  deriving DecidableEq, Repr

/-- The opcodes of Table NCP-5 with their parameters. -/
inductive NcpOp where
  | sessionOpen (o : OpenParams)
  | sessionClose
  | sessionAttach (o : OpenParams)
  | sysReset (cold : Bool)
  | funcReset (b : FuncBlock)
  | sysInfo
  | configLoad (slotB : Bool)
  | portConfig (p : Nat) (x : PortCfg)
  | portEnable (p : Nat) (on force : Bool)
  | lgRebalance (g : Nat) (moves : List (Nat × Nat))
  | portStatus (p : Nat)
  | streamSet (h : Nat) (s : StreamCfg)
  | streamRemove (h : Nat)
  | gclSet (lists : Tbl Gcl) (sec ns : Nat)
  | admitDryRun (streams : Tbl StreamCfg) (lists : Tbl Gcl)
  | psfpUnblock (h : Nat)
  | shaperSet (p : Nat) (slopes : List Nat) (pre : Preempt) (holdNs : Nat)
  | zoneSet (map : Tbl Nat) (hi cp : Nat) (zones : Tbl ZoneCfg)
  | rulesLoad (bank : RuleBank) (revalidate : Bool)
  | profileSet (n : Nat) (p : Profile)
  | ctRead (k : CtRef)
  | gwConfig (g : GwyCfg)
  | canConfig (n : Nat) (c : CanCfg)
  | mvbConfig (n : Nat) (c : MvbCfg)
  | gwSend (output : Nat) (payload : Bytes) (deadlineMs : Nat) (wait : Bool)
  | canRecover (n : Nat)
  | mvbPortRead (n a : Nat)
  | timeConfig (t : TimCfg) (ports : Tbl PtpPort)
  | clockStep (sec ns : Nat)
  | sleepReady (on : Bool)
  | seasonsConfig (s : SsnCfg)
  | wakeRequest
  | pairConfig (p : PairCfg)
  | switchover
  | compareResume
  | keyInstall (b : KeyBlob)
  | keyErase (t : KeyTarget)
  | secySet (m : MscCfg)
  | attest (nonce : Bytes) (p384 : Bool)
  | updateBlock (partner : Bool) (offset : Nat) (data : Bytes)
  | updateVerify
  | solsticeSet (sec ns : Nat)
  | updateAbort
  | faultRead (i : Nat)
  | lateRingRead (n : Nat)
  | lateRingAck (n : Nat)
  | restore (i : Nat)
  | counterRead (block index count : Nat)
  | regRead (a n : Nat)
  | regWrite (a : Nat) (v : Word) (mirror : Bool)
  deriving DecidableEq, Repr

/-- The 16-bit opcode. -/
def NcpOp.code : NcpOp → Nat
  | .sessionOpen _ => 0x0101 | .sessionClose => 0x0102 | .sessionAttach _ => 0x0103 | .sysReset _ => 0x0104
  | .funcReset _ => 0x0105 | .sysInfo => 0x0106 | .configLoad _ => 0x0107
  | .portConfig .. => 0x0201 | .portEnable .. => 0x0202 | .lgRebalance .. => 0x0203 | .portStatus _ => 0x0204
  | .streamSet .. => 0x0301 | .streamRemove _ => 0x0302 | .gclSet .. => 0x0303 | .admitDryRun .. => 0x0304
  | .psfpUnblock _ => 0x0305 | .shaperSet .. => 0x0306
  | .zoneSet .. => 0x0401 | .rulesLoad .. => 0x0402 | .profileSet .. => 0x0403 | .ctRead _ => 0x0404
  | .gwConfig _ => 0x0501 | .canConfig .. => 0x0502 | .mvbConfig .. => 0x0503 | .gwSend .. => 0x0504
  | .canRecover _ => 0x0505 | .mvbPortRead .. => 0x0506
  | .timeConfig .. => 0x0601 | .clockStep .. => 0x0602
  | .sleepReady _ => 0x0701 | .seasonsConfig _ => 0x0702 | .wakeRequest => 0x0703
  | .pairConfig _ => 0x0801 | .switchover => 0x0802 | .compareResume => 0x0803
  | .keyInstall _ => 0x0901 | .keyErase _ => 0x0902 | .secySet _ => 0x0903 | .attest .. => 0x0904
  | .updateBlock .. => 0x0A01 | .updateVerify => 0x0A02 | .solsticeSet .. => 0x0A03 | .updateAbort => 0x0A04
  | .faultRead _ => 0x0B01 | .lateRingRead _ => 0x0B02 | .lateRingAck _ => 0x0B03 | .restore _ => 0x0B04
  | .counterRead .. => 0x0B05 | .regRead .. => 0x0C01 | .regWrite .. => 0x0C02

def NcpOp.group (o : NcpOp) : Nat := o.code / 256

/-- Execution class of a defined opcode (16 Table NCP-5). -/
def opcodeCls : Nat → Option OpClass
  | 0x0101 | 0x0102 | 0x0103 => some .session
  | 0x0104 | 0x0105 | 0x0203 | 0x0504 | 0x0505 | 0x0602 | 0x0701 | 0x0703 | 0x0802 | 0x0803 | 0x0901 | 0x0902 | 0x0A01 | 0x0A02 | 0x0A04
  | 0x0B03 | 0x0B04 | 0x0C02 => some .action
  | 0x0106 | 0x0204 | 0x0304 | 0x0404 | 0x0506 | 0x0904 | 0x0B01 | 0x0B02 | 0x0B05 | 0x0C01 => some .read
  | 0x0107 | 0x0201 | 0x0202 | 0x0301 | 0x0302 | 0x0303 | 0x0305 | 0x0306 | 0x0401 | 0x0402 | 0x0403 | 0x0501 | 0x0502 | 0x0503 | 0x0601
  | 0x0702 | 0x0801 | 0x0903 | 0x0A03 => some .config
  | _ => none

def NcpOp.cls (o : NcpOp) : OpClass := (opcodeCls o.code).getD .read

/-- Where a reply on Ethernet goes: the source of the session's last authenticated packet (16 R465). -/
structure NcpPeer where
  mac : Nat := 0
  vid : Nat := 0
  pcp : Nat := 0
  deriving DecidableEq, Repr

/-- A packet as a transport delivers it to stage 1 (16 R462): its bytes; the operation that its OPCODE and TLVs spell, the TLV types being each
opcode's own and not numbered in 16; what R463 finds wrong with its TLV types; and on Ethernet the SecY on whose controlled port it arrived with a good
verdict (16 R465). (log entry 92: DESIGN CHOICE) -/
structure Packet where
  bytes : Bytes := []
  op : Option NcpOp := none
  /-- a TLV type stands twice where the opcode has no list of it, or an unknown one is critical -/
  badType : Bool := false
  /-- a required TLV is absent -/
  missing : Bool := false
  secy : Option Nat := none
  deriving DecidableEq, Repr

/-- OPCODE (16 Table NCP-1). -/
def Packet.opcode (p : Packet) : Nat := beAt p.bytes 4 2

/-- The operation of a packet, where it is one of its OPCODE. -/
def Packet.command (p : Packet) : Option NcpOp := p.op.filter (fun o => decide (o.code = p.opcode))

/-- The 32 bytes of a transmit descriptor as the host wrote them, in little-endian words (17 Table HIF-2, 00 R5); bytes past the end read as 0. -/
structure TxDesc where
  bytes : Bytes := []
  deriving DecidableEq, Repr

/-- Likewise a receive descriptor (17 Table HIF-3). -/
structure RxDesc where
  bytes : Bytes := []
  deriving DecidableEq, Repr

/-- What host memory returns to the reads of one step: the eight bytes of page-table entries by bus address (zeros where not listed), the
posted descriptors from CI on, the bytes of the frame, the packets of a command ring from CMD_CI on. -/
structure HostView where
  tables : Tbl Bytes := []
  tx : List TxDesc := []
  rx : List RxDesc := []
  data : Bytes := []
  cmds : List Packet := []
  deriving DecidableEq, Repr

/-- Default timeout in ms (16 Table NCP-5). -/
def NcpOp.defaultMs : NcpOp → Nat
  | .configLoad _ | .streamSet .. | .streamRemove _ | .gclSet .. | .admitDryRun .. | .shaperSet .. | .gwConfig _ => 5000
  | .lgRebalance .. | .rulesLoad .. | .updateVerify => 10000
  | .funcReset _ | .sysInfo | .portStatus _ | .ctRead _ | .mvbPortRead .. | .clockStep .. | .sleepReady _ | .wakeRequest
  | .switchover | .compareResume | .faultRead _ | .lateRingRead _ | .lateRingAck _ | .counterRead .. | .regRead ..
  | .regWrite .. => 100
  | _ => 1000

end Sys2Proof
end

