-- ==== Sys2Proof/ParamsImages.lean ====
section
/-! DEFINITION. Images of the flash (20 R557) as data: their bytes, what the cryptographic checks say of them, and the configuration that the
payload of a blob or of a Spring image spells. The payload's own layout is not in the manual. -/

namespace Sys2Proof

/-- A Spring image's payload (13 Table SSN-8): its parameters, its wrapped keys, and what its header section says of the admitted subset (05 R172):
the configuration epoch, the LINK_BOUND values by port in ns, and the digest over them and the Scheduled section, whose bytes are `scheduled`. -/
structure SpringImage where
  cfg : Cfg
  keys : List KeyBlob := []
  epoch : Word := 0
  scheduled : Bytes := []
  linkBounds : Tbl Nat := []
  digest : BitVec 256 := 0
  deriving DecidableEq, Repr

/-- What a payload spells: nothing the model reads (kinds 1, 2, 4), a configuration, a Spring image. -/
inductive ImageContent where
  | opaqueCode
  | blob (c : Cfg)
  | spring (x : SpringImage)
  deriving DecidableEq, Repr

/-- An image: header, payload and trailer. `digestOk`: DIGEST is the SHA-256 it should be; `sigOk`: the ECDSA signature verifies under the
carried key; `signer`: the SHA-256 of that key. -/
structure Image where
  bytes : Bytes
  digestOk : Bool := true
  sigOk : Bool := true
  signer : BitVec 256 := 0
  content : ImageContent := .opaqueCode
  deriving DecidableEq, Repr

/-- Header fields (20 Table BOOT-4). -/
def Image.length (x : Image) : Nat := beAt x.bytes 8 4
def Image.version (x : Image) : BitVec 32 := BitVec.ofNat 32 (beAt x.bytes 12 4)
def Image.uid (x : Image) : BitVec 64 := BitVec.ofNat 64 (beAt x.bytes 16 8)
def Image.devIdWord (x : Image) : BitVec 16 := BitVec.ofNat 16 (beAt x.bytes 24 2)
def Image.digest (x : Image) : BitVec 256 := BitVec.ofNat 256 (beAt x.bytes 32 32)

end Sys2Proof
end

