-- ==== Sys2Proof/Machine/StateUnits.lean ====
section
/-! DEFINITION. State of the units beside the frame path: the train topology (09), the pair (14), CAN (10), MVB (11), the gateway (12), the seasons (13), boot and update (20). Every structure's default is its value after
a cold reset. -/

namespace Sys2Proof.Machine

/-! ### Topology (09) -/

/-- Line states, in the order of Table TOP-2. -/
inductive LineState where
  | bypassed | inserting | discovering | stableWait | inaugurated | inhibited
  deriving DecidableEq, Repr

/-- An ETBN as TOPOLOGY frames and HELLO results show it (09 R290, R297): its consist and its car's place there as it announces them; in an
installed list also the numbers of both in the train (R296). -/
structure TopNode where
  id : Nat
  self : Bool := false
  reversed : Bool := false
  present : Bool := true
  lineA : Bool := true
  lineB : Bool := false
  nv8 : Bool := false
  consistId : Nat := 0
  carPos : Nat := 1
  consist : Nat := 0
  car : Nat := 0
  devA : Option (BitVec 12) := none
  devB : Option (BitVec 12) := none
  inhibit : Bool := false
  deriving DecidableEq, Repr

/-- A neighbour on BB0 or BB1 (09 R291). -/
structure Neighbour where
  id : Nat
  lastHello : Nat
  deriving DecidableEq, Repr

structure TopState where
  line : LineState := .bypassed
  bypassEn : Bool := false
  bypassCmd : Bool := false
  wdReleased : Bool := false
  /-- time of the state's entry or of the last change of the merged view -/
  since : Nat := 0
  lastRefresh : Nat := 0
  inhibit : Bool := false
  neighbours : Tbl Neighbour := []
  /-- when the last HELLO and TOPOLOGY frame of a direction left (09 Table TOP-3) -/
  helloAt : Tbl Nat := []
  topoAt : Tbl Nat := []
  viewA : Option (List TopNode) := none
  viewB : Option (List TopNode) := none
  /-- the inaugurated list and its counter -/
  list : List TopNode := []
  count : Word := 0
  inaugurated : Bool := false
  conflict : Bool := false
  limit : Bool := false
  /-- a route commit waits (09 R293); one whose exchange with the partner runs -/
  routeQueued : Bool := false
  routeWait : Option (List Route × Tbl NextHop) := none
  deriving DecidableEq, Repr

/-! ### Pair (14) -/

/-- Roles (14 R411), in the order PAIR_STATE numbers them. -/
inductive Role where
  | unpaired | electing | active | standbySyncing | standbyReady | failed
  deriving DecidableEq, Repr

/-- A decision of a compared frame while its record is not complete (14 R428): FCRC needs the whole frame. -/
structure CmpRec where
  frame : Nat
  handle : Nat
  seq : Nat
  epoch : Word
  egress : List Nat
  cls : DClass
  discarded : Bool
  fcrc : Option Word := none
  at_ : Nat := 0
  deriving DecidableEq, Repr

/-- A frame in progress on a Wyusin channel (14 R415). -/
structure WyRx where
  bytes : Bytes := []
  busy : Bool := false
  tc : Nat := 0
  cseq : BitVec 16 := 0
  tag : Option SecTag := none
  deriving DecidableEq, Repr

structure PairState where
  role : Role := .unpaired
  /-- LEASE_EPOCH, in retention memory (14 R426) -/
  epoch : Word := 0
  armed : Bool := false
  renewNo : Word := 0
  /-- last renewal sent; last received on Wyusin and on the pins; last standby-alive edge -/
  lastSent : Option Nat := none
  lastWy : Option Nat := none
  lastPin : Option Nat := none
  lastAlive : Option Nat := none
  wyUp : Bool := false
  pinUp : Bool := false
  leaseOut : Bool := false
  partnerId : Option (BitVec 12) := none
  /-- position after a conflict was resolved by device ID (14 R413) -/
  posOverride : Option Bool := none
  /-- end of the election window -/
  electEnd : Option Nat := none
  /-- the partner is STANDBY_READY (as the active sees it) -/
  partnerReady : Bool := false
  /-- credit: limits received, cells sent, limits granted, cells received, per class (14 R417) -/
  limRx : Tbl Word := []
  sent : Tbl Word := []
  limTx : Tbl Word := []
  got : Tbl Word := []
  rx : Tbl WyRx := []
  /-- records not in a digest yet, and the number of the open window -/
  recs : List CmpRec := []
  window : Word := 0
  lastWin : Word := 0
  suspended : Bool := false
  /-- times of unresolved mismatches -/
  unresolved : List Nat := []
  /-- a self-test runs until this time; own verdict and partner's verdict of the current test -/
  testing : Bool := false
  ownVerdict : Option Bool := none
  partnerVerdict : Option Bool := none
  /-- a self-test of the control complex that ended meanwhile (15 Table CCR-4) -/
  ccrVerdict : Option Bool := none
  flagged : Bool := false
  takeover : Bool := false
  /-- the commit exchange that runs and its deadline (14 R434) -/
  exchange : Option Nat := none
  /-- setup requests without answer: frame, key, deadline (14 R420) -/
  setups : List (Nat × Bytes × Nat) := []
  deriving DecidableEq, Repr

/-! ### CAN (10) -/

inductive TxPhase where
  | free | pending | attempt | done
  deriving DecidableEq, Repr

/-- Results, in the order of Table CXL-6. -/
inductive TxResult where
  | sent | lateSent | lateFailed | retryLimit | cancelled | aborted | invalid
  deriving DecidableEq, Repr

/-- A transmit entry (10 Table CXL-4, Table CXL-5). `failed` counts failed attempts, `order` the requests. -/
structure TxEntry where
  phase : TxPhase := .free
  frame : CanFrame := {}
  /-- CV as written: a cell chain holds bytes 65 onward -/
  cv : Bool := false
  ref : Word := 0
  retry : BitVec 8 := 0
  result : TxResult := .sent
  lec : BitVec 4 := 0
  attempts : BitVec 8 := 0
  failed : Nat := 0
  cancel : Bool := false
  order : Nat := 0
  deriving DecidableEq, Repr

/-- A software-owned receive entry (10 R317): the frame, the filter that matched, RSEQ, the cells of bytes 65 onward. -/
structure RxEntry where
  frame : CanFrame
  filter : Nat
  rseq : Word
  cells : Nat := 0
  deriving DecidableEq, Repr

structure CanState where
  /-- the channel is on: enabled, in service and after the blob commit (10 R328, R329) -/
  on : Bool := false
  /-- going OFF once the attempt that runs has ended (10 R328) -/
  closing : Bool := false
  retired : Bool := false
  txErr : Nat := 0
  rxErr : Nat := 0
  consecAck : Nat := 0
  passive : Bool := false
  busOff : Bool := false
  recovering : Bool := false
  alone : Bool := false
  tx : Tbl TxEntry := []
  orders : Nat := 0
  rx : List RxEntry := []
  /-- index of the oldest software-owned entry -/
  rxHead : Nat := 0
  rseq : Word := 0
  rxLost : Word := 0
  /-- a loss has been reported since the level was last below 256 -/
  rxOvf : Bool := false
  tdcDelay : BitVec 8 := 0
  tdcPoint : BitVec 8 := 0
  /-- level of CX_STB is standby -/
  standby : Bool := true
  deriving DecidableEq, Repr

/-! ### MVB (11) -/

/-- Roles, in the order MV_STATE numbers them. -/
inductive MvbRole where
  | off | slave | standby | master
  deriving DecidableEq, Repr

/-- The changing words of a port entry (11 Table MVB-4). -/
structure MvbEntry where
  age : Nat := 0
  /-- STALE or MUTED -/
  mark : Bool := false
  page : Bool := false
  line : Bool := false
  upd : BitVec 16 := 0
  ts : Word := 0
  mseq : Word := 0
  page0 : Bytes := []
  page1 : Bytes := []
  deriving DecidableEq, Repr

structure MvbState where
  role : MvbRole := .off
  retired : Bool := false
  badA : Nat := 0
  badB : Nat := 0
  goodA : Nat := 0
  goodB : Nat := 0
  distA : Bool := false
  distB : Bool := false
  master : Option Nat := none
  mseq : Word := 0
  entries : Tbl MvbEntry := []
  /-- next basic period of the macro cycle, macro cycles since the last offer -/
  period : Nat := 0
  macros : Nat := 0
  /-- polls without reply yet, oldest first -/
  waiting : List Nat := []
  /-- time of the last frame seen on either line -/
  lastFrame : Nat := 0
  /-- known devices with scans missed, and the device status table -/
  devices : Tbl Nat := []
  status : Tbl (BitVec 16) := []
  deriving DecidableEq, Repr

/-! ### Gateway (12) -/

/-- Who waits for a message's result (12 Table GWY-1 ORIGIN, ORIG_REF). -/
inductive GwOrigin where
  | route
  | ncp (session : Nat) (seq : Word)
  | dma (queue : Nat) (desc : Word)
  deriving DecidableEq, Repr

/-- A message at its far side: its output, origin and the time its DEADLINE ends. -/
structure GwMsg where
  output : Nat
  origin : GwOrigin := .route
  payload : Bytes := []
  deadline : Option Nat := none
  deriving DecidableEq, Repr

/-- A message of GW_SEND that waits for the mirror of its publication (12 R371). -/
structure GwHeld where
  output : Nat
  origin : GwOrigin
  payload : Bytes
  wait : Bool
  deriving DecidableEq, Repr

/-- The live part of an output (12 Table GWY-4, R368 to R371). -/
structure GwOut where
  /-- none until something writes it -/
  image : Option Bytes := none
  seq : Word := 0
  /-- M of R371 and the multiples of 256 whose mirrors run, oldest first -/
  m : Word := 0
  mirrors : List Word := []
  /-- an emission waits for the mirror -/
  held : Bool := false
  /-- time the CYCLIC period last expired or began, and the last emission's time and image -/
  cycled : Nat := 0
  emitted : Option (Nat × Bytes) := none
  stale : Bool := false
  /-- time of the last accepted telegram or of the commit, and whether any was accepted since the commit -/
  heard : Nat := 0
  fed : Bool := false
  /-- last accepted counter and its time per source address -/
  last : Tbl (Word × Nat) := []
  /-- time of the last ROUTE_FAIL -/
  failAt : Option Nat := none
  deriving DecidableEq, Repr

structure GwyState where
  running : Bool := false
  /-- the control cores are halted (12 R360) -/
  stopped : Bool := false
  outs : Tbl GwOut := []
  /-- side-band messages raised before the start: port, code, channel, detail -/
  held : List (Nat × BitVec 16 × Nat × Word) := []
  /-- messages of CAN entries by channel * 64 + entry, wait lists by channel, MVB pages by channel * 4096 + port -/
  entries : Tbl GwMsg := []
  waits : Tbl (List GwMsg) := []
  pages : List (Nat × GwMsg) := []
  /-- messages that wait for their source port's allotment, oldest first, and the counters of status telegrams -/
  queue : List (Nat × Bytes) := []
  statusSeq : Tbl Word := []
  /-- oldest first -/
  sends : List GwHeld := []
  /-- numbers of frames the gateway made (the model's own) -/
  made : Nat := 0
  deriving DecidableEq, Repr

/-! ### Seasons (13) -/

/-- Seasons (13 Table SSN-1); `off` from a cold reset or a VAON rise until the cold start. -/
inductive Season where
  | off | winter | summer | autumn | spring
  deriving DecidableEq, Repr

/-- A frame sent to the next ring member whose ACK is awaited (13 R390). -/
structure EqxWait where
  type_ : EqxType
  frame : EqxFrame
  target : BitVec 12
  sentAt : Nat
  resent : Bool := false
  deriving DecidableEq, Repr

/-- An ABORT that is sent again (13 R392). -/
structure EqxRepeat where
  frame : EqxFrame
  left : Nat
  due : Nat
  deriving DecidableEq, Repr

structure SsnState where
  season : Season := .off
  /-- the commit time has been reached and Autumn not yet; its instant -/
  leaving : Option Nat := none
  /-- parameters of Table SSN-5 as retention and VAON hold them -/
  params : SsnCfg := {}
  sleepReady : Bool := false
  wakeHold : Option Nat := none
  /-- the node was READY when last judged -/
  wasReady : Bool := false
  round : BitVec 16 := 0
  /-- as origin: start of the pass that runs, and whether it is the commit pass -/
  pass : Option (Nat × Bool) := none
  roundEnd : Option Nat := none
  consent : Option Nat := none
  /-- recorded commit time: seconds and nanoseconds -/
  commit : Option (Nat × Nat) := none
  wait : Option EqxWait := none
  skipped : Nat := 0
  again : Option EqxRepeat := none
  vetoed : Bool := false
  lostRuns : Nat := 0
  notLockedRuns : Nat := 0
  fallback : Bool := false
  lastKa : Nat := 0
  kaSent : Nat := 0
  /-- last frame forwarded between two ports -/
  lastForward : Nat := 0
  /-- wake record, and a wake latched while leaving Summer -/
  wakeSource : Nat := 0
  wakeChan : Nat := 0
  wakeBefore : Bool := false
  wakeKsec : Word := 0
  wakeKsub : BitVec 15 := 0
  wakeLatched : Bool := false
  /-- pins -/
  pwrEn : BitVec 4 := 0
  wakeIn : Bool := false
  wakeOut : Option Nat := none
  canWake : BitVec 8 := 0
  /-- events of Autumn, raised when the control cores run: status register, bit (if any), code, channel -/
  later : List (Nat × Option Nat × BitVec 16 × Nat) := []
  /-- the instant the rails began to rise, and failed attempts (22 R605) -/
  powerUp : Nat := 0
  /-- when PWR_EN[0] last fell and last rose (22 R603, R605) -/
  pwrFell : Nat := 0
  pwrRose : Nat := 0
  vddOk : Bool := false
  powerFails : Nat := 0
  retryAt : Option Nat := none
  imageStaged : Bool := false
  springPaths : Bool := false
  renioft : Bool := false
  blobDone : Bool := false
  rebuilt : Bool := false
  /-- CAN wake settings and STB_POL as the always-on domain holds them (10 R330, 22 R611) -/
  canWakeCfg : Tbl CanCfg := []
  deriving DecidableEq, Repr

/-! ### Boot and update (20) -/

/-- Slot states, in the order of Table BOOT-3. -/
inductive SlotSt where
  | empty | staged | trial | good | invalid
  deriving DecidableEq, Repr

/-- An image slot of the flash: its state in the directory and the image written there. -/
structure FlashSlot where
  state : SlotSt := .empty
  image : Option Image := none
  deriving DecidableEq, Repr

/-- The two slots of an image kind (20 Table BOOT-3): PTR is slot B, and TRIAL_STARTS. -/
structure KindSlots where
  a : FlashSlot := {}
  b : FlashSlot := {}
  ptrB : Bool := false
  starts : Nat := 0
  deriving DecidableEq, Repr

/-- An open update (20 R564): received blocks by offset. -/
structure Update where
  blocks : Tbl Bytes := []
  rebuilding : Bool := false
  deriving DecidableEq, Repr

structure BootState where
  recovery : Bool := false
  /-- the ROM has finished its part of this start -/
  romDone : Bool := false
  update : Option Update := none
  /-- a Solstice that is pending: seconds and nanoseconds (20 R568) -/
  solstice : Option (Nat × Nat) := none
  /-- the activation waits for the partner until this time (20 R570) -/
  pairWait : Option Nat := none
  watchdog : Option Nat := none
  /-- the watchdog has expired: the ROM rolls back at its start (20 R574) -/
  rollbackDue : Bool := false
  /-- last reset was an activation or watchdog reset -/
  byActivation : Bool := false
  /-- Summer without fault since (20 R572); core 1 has run without sandbox fault since (20 R573) -/
  cleanSince : Option Nat := none
  splitSince : Option Nat := none
  /-- a warm reset holds since its start; WRST_N is low; a cold start waits for WRST_N (20 R560, 22 R609) -/
  inReset : Bool := false
  wrstLow : Bool := false
  coldHeld : Bool := false
  /-- this start follows a warm reset -/
  warm : Bool := false
  /-- straps as the always-on domain holds them (22 R610) -/
  coreStrap : Bool := false
  /-- the mode of the complex since the cold reset, split or not, and whether the strap chose it (15 R440) -/
  coreMode : Option (Bool × Bool) := none
  recoveryStrap : Bool := false
  /-- cause of the cold reset that lasts: bit of GLB_RST_CAUSE (18 Table REG-4) -/
  coldCause : Nat := 0
  /-- FL_RESET_N is high (22 R611, R617) -/
  flReset : Bool := false
  /-- configuration and device ID that a warm reset re-applies (20 R561) -/
  saved : Option (Cfg × Option (BitVec 12)) := none
  deriving DecidableEq, Repr

end Sys2Proof.Machine
end

