-- ==== Sys2Proof/Machine/StateHost.lean ====
section
/-! DEFINITION. State of the control complex (15), the command protocol (16), the host interface (17), security and OTP (19), clocks
and temperature (22). Every structure's default is its value after a cold reset. -/

namespace Sys2Proof.Machine

/-! ### Control complex (15) -/

/-- States, in the order of Table CCR-3. -/
inductive CcrMode where
  | compared | selfTest | uncompared | halted | split | restarting
  deriving DecidableEq, Repr

/-- A transaction record (15 Table CCR-1); LEN is the data's length. -/
structure CcrTxn where
  kind : Nat
  part : Nat := 0
  dest : Word
  data : Bytes
  deriving DecidableEq, Repr

/-- A debugger action on a core (15 R458). -/
inductive DebugAct where
  | halt | resume | step
  | breakpoint (a : Word)
  | regWrite (r : Nat) (v : Word)
  | tcmWrite (a : Nat) (v : Word)
  deriving DecidableEq, Repr

/-- What the debugger reaches of a core: registers, TCM words, breakpoints, and whether it is halted (15 R439, R458). -/
structure CoreState where
  regs : Tbl Word := []
  tcm : Tbl Word := []
  breaks : List Word := []
  halted : Bool := false
  deriving DecidableEq, Repr

/-- How a window closed (15 R444). -/
inductive CloseBy where
  | count | checkpoint | time
  deriving DecidableEq, Repr

structure CcrState where
  mode : CcrMode := .compared
  /-- Split-core mode, and whether the strap chose the mode (15 R440) -/
  split : Bool := false
  fromStrap : Bool := false
  /-- core that runs in UNCOMPARED -/
  onCore1 : Bool := false
  ret0 : Bool := false
  ret1 : Bool := false
  retCmp : Bool := false
  gaiStopped : Bool := false
  splitStopped : Bool := true
  debug : Bool := false
  /-- release buffer and shadow window kept over a mismatch -/
  held : List CcrTxn := []
  shadow : List CcrTxn := []
  window : Word := 0
  lastWin : Word := 0
  mmWin : Word := 0
  cause : Nat := 0
  verdicts : BitVec 4 := 0
  lag : Nat := 0
  peakLag : Nat := 0
  slot : Nat := 0
  /-- debugger actions in the delay FIFO, oldest first -/
  fifo : List DebugAct := []
  /-- actions that wait for the end of a self-test, and a checker reload that runs -/
  debugQ : List DebugAct := []
  reloading : Bool := false
  core0 : CoreState := {}
  core1 : CoreState := {}
  deriving DecidableEq, Repr

/-! ### Security (19) -/

/-- A slot's state, in the order of SEC_SLOT [31:30]. -/
inductive KeySt where
  | free | written | erasing | lockedOut
  deriving DecidableEq, Repr

/-- A key slot; `bound` is the measurement recorded under BIND (19 R543). -/
structure KeySlot where
  st : KeySt := .free
  desc : SlotDesc
  key : Nat
  bound : BitVec 256 := 0
  deriving DecidableEq, Repr

/-- A verification entry of OTP (19 R545): role 1 FW, 2 CFG, 3 LCT. -/
structure OtpEntry where
  digest : BitVec 256
  role : Nat
  mask : BitVec 8
  revoked : Bool := false
  deriving DecidableEq, Repr

/-- One-time-programmable fields (19 Table SEC-1, R535, R440). -/
structure Otp where
  lc : Nat := 1
  splitMode : Bool := false
  cpk : Option Nat := none
  entries : Tbl OtpEntry := []
  epochFuses : Nat := 0
  tamperEn : BitVec 8 := 0
  /-- read paths disabled by a transition (19 Table SEC-4) -/
  cpkGone : Bool := false
  udsGone : Bool := false
  deriving DecidableEq, Repr

/-- A record of the flash key table, wrapped under the KSK of a root secret (19 R546, R547). -/
structure KeyRecord where
  slot : Nat
  root : Nat
  desc : SlotDesc
  key : Nat
  bound : BitVec 256 := 0
  retired : Bool := false
  deriving DecidableEq, Repr

/-- A ticket (19 Table SEC-5). `sigOk`: its signature verifies under the key it carries; `signer`: the SHA-256 of that key. -/
structure Ticket where
  kind : Nat
  from_ : Nat
  dest : Nat
  uid : BitVec 64
  boot : BitVec 64 := 0
  setCpk : Bool := false
  setEntry : Bool := false
  setTamper : Bool := false
  tamperEn : BitVec 8 := 0
  cpk : Nat := 0
  /-- entry slot and entry; a zero digest revokes it -/
  entryNo : Nat := 0
  entry : OtpEntry := { digest := 0, role := 0, mask := 0 }
  sigOk : Bool := true
  signer : BitVec 256 := 0
  deriving DecidableEq, Repr

structure SecState where
  slots : Tbl KeySlot := []
  meas : Tbl (BitVec 256) := []
  tampered : Bool := false
  debugTicket : Bool := false
  debugSeen : Bool := false
  everUncompared : Bool := false
  keeperWasValid : Bool := false
  /-- a new root secret is due once the entropy test has passed (R530), and records of the flash key table are still to be loaded (R547) -/
  rootDue : Bool := false
  loadDue : Bool := false
  deriving DecidableEq, Repr

/-! ### Host interface (17) -/

/-- Channel states, numbered as Q_STATE. -/
inductive ChSt where
  | disabled | running | stalled | stopped
  deriving DecidableEq, Repr

/-- Restartable points (17 Table HIF-5). -/
inductive StallAt where
  | txDesc | txData | txDd | rxDesc | rxWrite | cmdRead | rplWrite
  deriving DecidableEq, Repr

structure HostCh where
  st : ChSt := .disabled
  stall : Option StallAt := none
  /-- completion errors met by the read that is being repeated (17 R502, 21 R583) -/
  retries : Nat := 0
  /-- RESULT of a word 7 that waits for RESUME (17 Table HIF-5) -/
  result : Nat := 0
  deriving DecidableEq, Repr

/-- A channel set's page (17 Table HIF-13). -/
structure HifPage where
  txBase : BitVec 64 := 0
  txSize : Nat := 0
  txPi : Nat := 0
  txCi : Nat := 0
  rxBase : BitVec 64 := 0
  rxSize : Nat := 0
  rxPi : Nat := 0
  rxCi : Nat := 0
  prio : Nat := 0
  irqDelay : Nat := 0
  tx : HostCh := {}
  rx : HostCh := {}
  faultInfo : Word := 0
  faultIova : BitVec 64 := 0
  deriving DecidableEq, Repr

/-- An address space; mode 0 OFF, 1 BYPASS, 2 TRANSLATE (17 R499). -/
structure Space where
  root : BitVec 64 := 0
  mode : Nat := 0
  deriving DecidableEq, Repr

/-- A translation held in the cache (17 R501): `shift` 12 or 21, the IOVA page number and the bus page number. -/
structure TlbEntry where
  space : Nat
  shift : Nat
  page : Nat
  frame : Nat
  r : Bool
  w : Bool
  deriving DecidableEq, Repr

structure HifState where
  linkUp : Bool := false
  speed : Nat := 0
  width : Nat := 0
  bme : Bool := false
  pages : Tbl HifPage := []
  spaces : Tbl Space := []
  tlb : List TlbEntry := []
  invAddr : BitVec 64 := 0
  invDone : BitVec 16 := 0
  /-- last firing of a queue vector, and vectors that wait for IRQ_DELAY -/
  irqLast : Tbl Nat := []
  irqPend : List Nat := []
  /-- MSI-X table words -/
  msix : Tbl Word := []
  rrTx : Nat := 0
  rrRx : Nat := 0
  deriving DecidableEq, Repr

/-! ### Command protocol (16) -/

/-- Where a sequence number stands (16 Table NCP-3). -/
inductive NcpStage where
  | ordered | accepting | accepted | executing | final | skipped
  deriving DecidableEq, Repr

structure Reply where
  status : BitVec 16
  reason : BitVec 16 := 0
  acc : Bool := true
  epoch : Word := 0
  body : Bytes := []
  /-- the stored reply was lost (16 R482) -/
  lost : Bool := false
  /-- FLAGS.FINAL: false for ACCEPTED as an interim reply and for REPLAYED (16 R472, R473) -/
  isLast : Bool := true
  /-- OPCODE and TIMEOUT as in the command -/
  opcode : Nat := 0
  timeoutMs : Nat := 0
  deriving DecidableEq, Repr

/-- Where a sequence number stands, with its packet and its stored reply (16 R469, R480). -/
structure NcpRec where
  packet : Packet := {}
  arrival : Nat := 0
  stage : NcpStage := .ordered
  acceptedAt : Nat := 0
  /-- TS32 at acceptance (16 Table NCP-6) -/
  acceptTs : Word := 0
  target : Option Word := none
  interim : Bool := false
  /-- TIMEOUT has expired during execution -/
  late : Bool := false
  reply : Option Reply := none
  deriving DecidableEq, Repr

/-- The operation a record's command asks for. -/
def NcpRec.op (r : NcpRec) : Option NcpOp := r.packet.command

/-- What a SESSION record holds (16 R479): the binding, or that the session has closed. -/
structure SessionRec where
  open_ : Bool := true
  transport : Option Transport := none
  auth : AuthMode := .transport
  slot : Nat := 0
  secys : List Nat := []
  gapMs : Nat := 100
  ctx : Bytes := []
  cnonce : Nat := 0
  dnonce : Nat := 0
  /-- the number after the one that opened it -/
  next : Word := 0
  peer : NcpPeer := {}
  deriving DecidableEq, Repr

/-- Kinds of command journal records (16 Table NCP-6), with what follows the header, and the reply that the reply store holds beside an ANSWER or DONE
record (16 R480). -/
inductive NcpBody where
  | session (x : SessionRec)
  | answer (p : Packet) (r : Reply)
  | command (p : Packet)
  | exec
  | done (p : Packet) (r : Reply)
  | skip
  deriving DecidableEq, Repr

/-- A record of the command journal (16 R479). `who`: session and number, none for an operation outside the sessions. `whole`: complete in every in-service
copy. -/
structure NcpJRec where
  no : Nat
  who : Option (Nat × Word)
  body : NcpBody
  target : Word := 0
  ts : Word := 0
  crc : Word := 0
  whole : Bool := true
  deriving DecidableEq, Repr

/-- Mailbox rings (16 R468). -/
structure Rings where
  cmdBase : BitVec 64 := 0
  rplBase : BitVec 64 := 0
  cmdPi : Nat := 0
  cmdCi : Nat := 0
  rplPi : Nat := 0
  rplCi : Nat := 0
  /-- replies that wait for ring entries, oldest first: the number, REPLAY, and the reply where the reply store does not hold it -/
  waiting : List (Word × Bool × Option Reply) := []
  deriving DecidableEq, Repr

structure Session where
  open_ : Bool := false
  transport : Option Transport := none
  auth : AuthMode := .transport
  slot : Nat := 0
  secys : List Nat := []
  gapMs : Nat := 100
  /-- derivation context header and nonces of the SESSION record (16 R467, R479) -/
  ctx : Bytes := []
  cnonce : Nat := 0
  dnonce : Nat := 0
  peer : NcpPeer := {}
  /-- next expected number, HIGH, and when the first gap before a waiting command was seen -/
  next : Word := 0
  high : Word := 0
  gapSince : Option Nat := none
  recs : Tbl NcpRec := []
  rings : Rings := {}
  /-- commands accepted before the session closed: they still execute, without a reply (16 R474, 15 R457) -/
  orphans : List (Option Transport × NcpRec) := []
  deriving DecidableEq, Repr

/-- A command whose reply waits for a lower level. -/
inductive PendKind where
  | restore (i : Nat)
  | eraseSlot (n : Nat)
  | eraseSa (tx : Bool) (sc : Nat) (an : BitVec 2)
  /-- a key command that waits for its turn or for the entropy test (08 R270, 19 R546) -/
  | secOp (op : NcpOp) (master : Nat) (flashOk : Bool)
  deriving DecidableEq, Repr

structure PendOp where
  who : Option (Nat × Word)
  kind : PendKind
  deriving DecidableEq, Repr

/-- What the standby answers in a commit exchange (14 R434, 01 R10). -/
inductive PartnerAns where
  | ok
  | refused (status reason : BitVec 16)
  | waiting
  deriving DecidableEq, Repr

structure NcpState where
  sessions : Tbl Session := []
  /-- the command journal, oldest first, its last number, and the numbers that the partner has not acknowledged (16 R479, 01 R27) -/
  journal : List NcpJRec := []
  recordNo : Nat := 0
  unmirrored : List Nat := []
  /-- a standby's: the active's records as channel 6 brought them (16 R480) -/
  mirror : List NcpJRec := []
  /-- class C operations outside the sessions that wait for their turn: the order in which they came, transport, the standby's answer (16 R475) -/
  rowQueue : List (Nat × NcpOp × Option Transport × PartnerAns) := []
  arrivals : Nat := 0
  pend : List PendOp := []
  /-- a commit whose exchange with the partner runs: the operation and who waits for its reply (14 R434) -/
  waitCommit : Option (NcpOp × Option (Nat × Word)) := none
  /-- a warm reset or a takeover asks for the journal to be read (R481) -/
  replayDue : Bool := false
  deriving DecidableEq, Repr

/-! ### Clocks and temperature (22) -/

structure ClkState where
  temp : BitVec 16 := 0
  peak : BitVec 16 := 0
  ppm : BitVec 16 := 0
  plls : BitVec 7 := 0
  /-- the reading has been above 125 °C and not below 120 °C since; the deviation is beyond ±1,000 ppm -/
  hot : Bool := false
  refBad : Bool := false
  /-- the VDD part of the VOLT detector is armed (22 R604) -/
  vddArmed : Bool := false
  deriving DecidableEq, Repr

end Sys2Proof.Machine
end

