-- ==== Sys2Proof/Machine/StateDevice.lean ====
section
/-! DEFINITION. The whole device but its queue of commands: one field per unit, the current configuration, the
time since reset, and what the block has put out on its interfaces. -/

namespace Sys2Proof.Machine

/-- Messages on the Wyusin control channels (14 Table PAIR-3). -/
inductive WyKind where
  | renewal | renewalAck | yield_ | election
  | credit
  | mismatch | verdict
  | record | ack | mark | mirror
  | mirrorFail
  | commit | resync
  | ncp
  | update
  deriving DecidableEq, Repr

/-- Pins the device drives (22). -/
inductive Pin where
  | leaseOut
  | wakeOut
  | pwrEn (n : Nat)
  | bypassEn
  | mvTxe (ch line : Nat)
  | canStb (n : Nat)
  | ckeLow
  | flReset
  | hlthN
  deriving DecidableEq, Repr

/-- PTP messages the NV8 sends. -/
inductive PtpKind where
  | sync | followUp | announce | pdelayReq | pdelayResp | pdelayRespFollowUp | delayReq
  deriving DecidableEq, Repr

/-- A PTP message on a port. Every event message leaves as an express frame, whatever the port's mapping (04 R111), and carries its egress
timestamp; a follow-up carries the origin time in ns, the correction in 2^-16 ns and the rate ratio of R125. -/
structure PtpMsg where
  kind : PtpKind
  port : Nat
  dom : Nat := 0
  priority1 : Nat := 0
  transport : PtpTransport := .ethernet
  express : Bool := true
  stamp : Stamp := {}
  origin : Nat := 0
  corr : Int := 0
  rate : Int := 0
  deriving DecidableEq, Repr

/-- The receive descriptor of a frame toward CP (04 R112, 06 R179, 08 R263): timestamp and flags, source, stream, Assured slot and sequence
number, and AUTH_FAIL. -/
structure CpDesc where
  port : Nat
  itc : Nat := 0
  stamp : Stamp := {}
  stream : Option Nat := none
  asd : Option (Nat × Nat) := none
  authFail : Bool := false
  deriving DecidableEq, Repr

/-- What the block puts out on its interfaces, in order. -/
inductive Output where
  /-- an event with its channel or port (01 R9) -/
  | event (code : BitVec 16) (chan : Nat)
  /-- a frame on a port, from DA to the last byte before the FCS, and whether its FCS is valid -/
  | frame (port : Nat) (bytes : Bytes) (fcsOk : Bool)
  /-- a frame into the receive queues of the control cores (03 R622) -/
  | cpFrame (bytes : Bytes) (desc : CpDesc)
  /-- firmware's transmit call on port CP answers BUSY (03 Table BUF-3) -/
  | cpBusy
  /-- a PFC frame: priorities named, with quanta 0xFFFF or 0x0000 (03 Table BUF-3) -/
  | pfc (port : Nat) (prios : BitVec 8) (on : Bool)
  | pause (port : Nat) (on : Bool)
  /-- an MSI-X vector (17 R496) -/
  | msix (vector : Nat)
  /-- an event notice to a session (21 R593) -/
  | notice (session : Nat) (code : BitVec 16) (chan : Nat)
  /-- a conntrack mirror message to the partner: 0 CREATE, 1 UPDATE, 2 DELETE, and the 128 bytes of the entry, with MIRROR_NO (07 R241) -/
  | ctMirror (op : Nat) (entry : Bytes)
  /-- a standby's setup request: CT key, zones, VID and the frame's headers; the answer that the setup was denied; its TOUCH of an entry (14 R420) -/
  | setupRequest (key : Bytes) (zin zout vid : Nat) (header : Bytes)
  | setupDenied (key : Bytes)
  | touch (key : Bytes) (state : CtPhase) (seen : Bool)
  /-- a TCP RST or ICMP destination-unreachable from CP (07 Table FWL-3) -/
  | reject (port : Nat) (header : Bytes)
  | ptp (m : PtpMsg)
  /-- the header of a logged setup, to CP (07 R212) -/
  | logSetup (header : Bytes)
  /-- a control message on a Wyusin channel (14 Table PAIR-3): its kind on the channel and up to two numbers -/
  | wyusin (ch : Nat) (kind : WyKind) (a b : Nat)
  /-- a digest on channel 2: the window, X_a, and HANDLE, SEQ and FCRC of each record (14 R429) -/
  | digest (window : Word) (x : BitVec 64) (recs : List (Nat × Nat × Word))
  /-- a command journal record, with the reply of an ANSWER or DONE, to the partner (16 R480) -/
  | ncpRecord (r : NcpJRec)
  /-- the acknowledgement of a control channel's segment (14 R418) -/
  | wyAck (ch : Nat) (cseq : BitVec 16)
  /-- a TTDP HELLO on an ETB port: the line, and the ETB identity (09 R288, R291) -/
  | ttdpHello (port : Nat) (lineB : Bool) (etb : Nat)
  /-- a TTDP TOPOLOGY frame: its neighbours by direction, whether it announces inhibit, its car's place, and the Lanry TLV (09 Table TOP-1, R294, R296) -/
  | ttdpTopology (port : Nat) (lineB : Bool) (neighbours : Tbl Nat) (inhibit : Bool) (car : Nat) (lanry : Bytes)
  /-- a CAN frame sent on a channel, and whether it ended without error -/
  | can (n : Nat) (frame : CanFrame) (ok : Bool)
  /-- an MVB master frame (F_code, address), a slave frame with a port's data, a device status answer -/
  | mvbMaster (ch fcode addr : Nat)
  | mvbSlave (ch addr : Nat) (data : Bytes)
  | mvbStatus (ch : Nat)
  /-- an Equinox frame to a ring member (13 Table SSN-3) -/
  | eqx (kind : EqxType) (target : BitVec 12) (frame : EqxFrame)
  /-- an NCP reply: session and sequence number (`none`: of an operation outside the sessions), REPLAY, the reply, its packet (16 R462), and where it
  goes on Ethernet (16 R465) -/
  | reply (who : Option (Nat × Word)) (replay : Bool) (r : Reply) (packet : Bytes) (peer : Option NcpPeer)
  /-- transactions that leave the control complex (15 R445) -/
  | ccr (txns : List CcrTxn)
  /-- word 7 of a transmit descriptor as it stands in host memory: queue, index, its bytes (17 Table HIF-2) -/
  | txDone (q idx : Nat) (word7 : Bytes)
  /-- a receive frame written to host memory: queue, first index, bytes, and the bytes of words 3 to 7 of each descriptor -/
  | rxFrame (q idx : Nat) (bytes : Bytes) (words : List Bytes)
  /-- the answer of a failed access (18 R513): path 1 PCIe, where a read completes with Completer Abort and a write is reported as one under AER, or 2 the
  control cores, whose access gets an error response; write; address -/
  | busError (path : Nat) (write : Bool) (addr : Nat)
  /-- a level driven on a pin -/
  | pin (p : Pin) (level : Bool)
  deriving DecidableEq, Repr

/-- The sending side of a Wyusin control channel (14 R415, R418): the next segment number, what the partner has not acknowledged, by the last
segment of each frame, its bytes and what it carried, and messages that wait for room with theirs. -/
structure WyTx where
  cseq : BitVec 16 := 0
  unacked : List (BitVec 16 × Nat × Output) := []
  waiting : List (Nat × Output) := []
  deriving DecidableEq, Repr

/-- A commit that waits for its SWITCH_TIME (05 R147 to R149). -/
structure PendingCommit where
  sec : Nat
  ns : Nat
  cfg : Cfg
  session : Nat := 0
  seq : Word := 0
  /-- the number under which the standby applies a commit of the active (01 R13) -/
  epoch : Option Word := none
  deriving DecidableEq, Repr

structure Device where
  /-- time since power-on in ps -/
  now : Nat := 0
  cfg : Cfg := {}
  /-- earlier configurations that frames in the pipeline or the miss queue still need (01 R11) -/
  oldCfgs : Tbl Cfg := []
  switching : Option PendingCommit := none
  glb : GlbState := {}
  flt : FltState := {}
  /-- status registers of type SQ by BAR0 address, all zero where not listed -/
  sq : Tbl Sq := []
  /-- 64-bit counters by the BAR0 address of their low word, zero where not listed -/
  ctr : Tbl (BitVec 64) := []
  ports : Tbl PortState := []
  buf : BufState := {}
  fwd : FwdState := {}
  tim : TimState := {}
  sch : SchState := {}
  asd : AsdState := {}
  fwl : FwlState := {}
  msc : MscState := {}
  keeper : KeeperState := {}
  pair : PairState := {}
  wy : Tbl WyTx := []
  top : TopState := {}
  can : Tbl CanState := []
  mvb : Tbl MvbState := []
  gw : GwyState := {}
  ssn : SsnState := {}
  boot : BootState := {}
  /-- image slots by kind 0 to 4 and the directory's DSEQ: in flash, they outlive every reset (20 R555, R556) -/
  flash : Tbl KindSlots := []
  dseq : Word := 0
  ccr : CcrState := {}
  sec : SecState := {}
  hif : HifState := {}
  ncp : NcpState := {}
  clk : ClkState := {}
  otp : Otp := {}
  /-- flash key table and attestation certificates (1 P-256, 2 P-384) (20 Table BOOT-2) -/
  keyTable : List KeyRecord := []
  certs : Tbl Bytes := []
  /-- the model's own counter of free values drawn (notes/assumptions/3) -/
  freeCtr : Nat := 0
  out : List Output := []
  deriving DecidableEq, Repr

end Sys2Proof.Machine
end

