-- ==== Sys2Proof/Machine/Ops.lean ====
section
/-! DEFINITION. The operations every unit's meaning shares: status registers and events, counters, time, ports,
and the cells, queues and copies of the shared buffer. -/

namespace Sys2Proof.Machine

/-! ### Outputs, counters, status registers, events -/

/-- Put an output at the end of what the block has put out. (log entry 8: DESIGN CHOICE) -/
def emit (o : Output) (d : Device) : Device := { d with out := d.out ++ [o] }

def emitAll (os : List Output) (d : Device) : Device := { d with out := d.out ++ os }

/-- A free value below `m`, and the device with the next one due (notes/assumptions/3). (log entry 3: DESIGN CHOICE) -/
def drawFree (m : Nat) (d : Device) : Nat × Device :=
  (Config.freeValue d.freeCtr % m, { d with freeCtr := d.freeCtr + 1 })

/-- The counter at a BAR0 address (or a key above the register space for a count no register shows). (log entry 8: DESIGN CHOICE) -/
def counter (a : Nat) (d : Device) : BitVec 64 := lookupD d.ctr a 0

def setCounter (a : Nat) (v : BitVec 64) (d : Device) : Device := { d with ctr := insertAt d.ctr a v }

def bumpBy (a n : Nat) (d : Device) : Device := setCounter a (counter a d + BitVec.ofNat 64 n) d

def bump (a : Nat) (d : Device) : Device := bumpBy a 1 d

/-- Key of a count of an event code on a channel that no register shows (01 R9, 02 Table FWD-6). -/
def codeKey (code chan : Nat) : Nat := 4294967296 + code * 65536 + chan

/-- Count a discard code on its port, meter or group (02 R55). -/
def countCode (code chan : Nat) (d : Device) : Device := bump (codeKey code chan) d

/-- The status register at a BAR0 address. (log entry 8: DESIGN CHOICE) -/
def sqOf (reg : Nat) (d : Device) : Sq := lookupD d.sq reg {}

/-- An event reaches a status register: SEQ advances, the bit is set (18 R519). -/
def setSq (reg bit : Nat) (d : Device) : Device :=
  let q := sqOf reg d
  { d with sq := insertAt d.sq reg { seq := q.seq + 1, bits := q.bits ||| ((1 : BitVec 24) <<< bit) } }

/-- A clearing write (18 R520): only when its [31:24] equals SEQ, and then every SQ bit. -/
def clearSq (reg : Nat) (w : Word) (d : Device) : Device :=
  let q := sqOf reg d
  if w.extractLsb' 24 8 = q.seq then { d with sq := insertAt d.sq reg { q with bits := 0 } } else d

/-- Status register addresses (18 R511: offset 0x40 of each block, or of each channel page). -/
def sqGLB : Nat := 0x40
def sqCLK : Nat := 0x10040
def sqSSN : Nat := 0x20040
def sqFLT : Nat := 0x30040
def sqSEC : Nat := 0x40040
def sqBOOT : Nat := 0x50040
def sqNCP : Nat := 0x80040
def sqFWD : Nat := 0x100040
def sqBUF : Nat := 0x200040
def sqTIM : Nat := 0x300040
def sqSCH : Nat := 0x340040
def sqASD : Nat := 0x380040
def sqFWL : Nat := 0x400040
def sqMSC : Nat := 0x480040
def sqTOP : Nat := 0x500040
def sqCXL (n : Nat) : Nat := 0x540040 + n * 0x4000
def sqMVB (n : Nat) : Nat := 0x580040 + n * 0x10000
def sqGWY : Nat := 0x5C0040
def sqPAIR : Nat := 0x600040
def sqCCR : Nat := 0x640040
def sqHIF : Nat := 0x680040
def sqPRT (p : Nat) : Nat := 0x800040 + p * 0x1000
def sqTXTS (p : Nat) : Nat := 0x800300 + p * 0x1000

/-- Event ID of a status register's block (01 Table ARC-2; FLT_STATUS counts under 0x01, 21 R593). -/
def sqId (reg : Nat) : Nat :=
  if reg < 0x20000 then 0x01
  else if reg < 0x30000 then 0x0D
  else if reg < 0x40000 then 0x01
  else if reg < 0x50000 then 0x12
  else if reg < 0x80000 then 0x13
  else if reg < 0x100000 then 0x10
  else if reg < 0x200000 then 0x02
  else if reg < 0x280000 then 0x03
  else if reg < 0x300000 then 0x14
  else if reg < 0x340000 then 0x04
  else if reg < 0x380000 then 0x05
  else if reg < 0x400000 then 0x06
  else if reg < 0x480000 then 0x07
  else if reg < 0x500000 then 0x08
  else if reg < 0x540000 then 0x09
  else if reg < 0x580000 then 0x0A
  else if reg < 0x5C0000 then 0x0B
  else if reg < 0x600000 then 0x0C
  else if reg < 0x640000 then 0x0E
  else if reg < 0x680000 then 0x0F
  else if reg < 0x800000 then 0x11
  else if reg % 0x1000 = 0x300 then 0x04
  else 0x02

/-- EVT_EN_LO and EVT_EN_HI as one enable per event ID (18 R516, R521). -/
def evtEnabled (id : Nat) (d : Device) : Bool :=
  if id < 16 then d.glb.evtLo.getLsbD id else d.glb.evtHi.getLsbD (id - 16)

/-- Vector 70 at a SEQ advance of an enabled register, vector 68 for HIF events (18 R521, 17 R496). PRT_STATUS
counts only through PRT_IRQ. -/
def fireFor (reg bit : Nat) (d : Device) : Device :=
  let id := sqId reg
  if id = 0x11 then emit (.msix 68) d
  else
    let prtOff := 0x800000 ≤ reg ∧ reg % 0x1000 = 0x40 ∧
      (lookupD d.glb.prtIrq ((reg - 0x800000) / 0x1000) 0).getLsbD bit = false
    if prtOff then d else if evtEnabled id d then emit (.msix 70) d else d

/-- Event notices to the open sessions whose NOTIFY mask holds the code's ID (21 R593): at most 1,000 a second
each; those beyond are dropped and counted. -/
def notices (code : BitVec 16) (chan : Nat) (d : Device) : Device :=
  let id := code.toNat / 256
  let sec := d.now / 1000000000000
  d.flt.notify.foldl (fun d (s, n) =>
    if n.mask.getLsbD id || (n.ledger && decide (0xF0 ≤ code.toNat % 256)) then
      let n := if n.sec = sec then n else { n with sec := sec, sent := 0 }
      if n.sent < 1000 then
        emit (.notice s code chan)
          { d with flt := { d.flt with notify := insertAt d.flt.notify s { n with sent := n.sent + 1 } } }
      else { d with flt := { d.flt with notify := insertAt d.flt.notify s n, noteLost := d.flt.noteLost + 1 } }
    else d) d

/-- The notice of an event that goes to every session, whatever its NOTIFY mask (08 R264). -/
def noticeRest (code : BitVec 16) (chan : Nat) (d : Device) : Device :=
  d.ncp.sessions.foldl (fun d x =>
    if d.flt.notify.any (fun y => decide (y.1 = x.1) && y.2.mask.getLsbD (code.toNat / 256)) then d else emit (.notice x.1 code chan) d) d

/-- An event without a status bit of its own. -/
def event (code : BitVec 16) (chan : Nat) (d : Device) : Device :=
  notices code chan (emit (.event code chan) d)

/-- An event that sets a bit of a status register (01 R9, 18 R519, R521, 21 R593). -/
def raise (reg bit : Nat) (code : BitVec 16) (chan : Nat) (d : Device) : Device :=
  event code chan (fireFor reg bit (setSq reg bit d))

/-- A status bit set by an event that has no code. -/
def raiseBit (reg bit : Nat) (d : Device) : Device := fireFor reg bit (setSq reg bit d)

/-! ### Wyusin control channels (14 R415, R418) -/

def wyTx (d : Device) (ch : Nat) : WyTx := lookupD d.wy ch {}

def setWyTx (ch : Nat) (x : WyTx) (d : Device) : Device := { d with wy := insertAt d.wy ch x }

/-- Bytes that the partner has not acknowledged on a channel. -/
def WyTx.open_ (x : WyTx) : Nat := (x.unacked.map (·.2.1)).sum

/-- A control frame of so many bytes leaves in segments of at most 256, numbered per channel (14 R415). -/
def sendControl (ch len : Nat) (o : Output) (d : Device) : Device :=
  let x := wyTx d ch
  let n : BitVec 16 := BitVec.ofNat 16 (max 1 (ceilDiv len 256))
  emit o (setWyTx ch { x with cseq := x.cseq + n, unacked := x.unacked ++ [(x.cseq + n - 1, len, o)] } d)

/-- A control frame is posted while the path is up: it leaves while at most 64 KiB of its channel stay unacknowledged, and waits its turn
otherwise (14 R418). A FAILED device uses channels 1 and 2 only (14 Table PAIR-10). -/
def postControl (ch len : Nat) (o : Output) (d : Device) : Device :=
  let x := wyTx d ch
  if !d.pair.wyUp || (decide (d.pair.role = .failed) && decide (ch ≠ 1) && decide (ch ≠ 2)) then d
  else if x.waiting.isEmpty ∧ x.open_ + len ≤ 65536 then sendControl ch len o d
  else setWyTx ch { x with waiting := x.waiting ++ [(len, o)] } d

/-- Waiting frames of a channel leave while there is room. -/
def drainControl (ch : Nat) : List (Nat × Output) → Device → Device
  | [], d => setWyTx ch { wyTx d ch with waiting := [] } d
  | m :: rest, d =>
    if (wyTx d ch).open_ + m.1 ≤ 65536 then drainControl ch rest (sendControl ch m.1 m.2 d)
    else setWyTx ch { wyTx d ch with waiting := m :: rest } d

/-- A command journal record that the partner has acknowledged is mirrored there (01 R27, 16 R480). -/
def noteMirrored (o : Output) (d : Device) : Device :=
  match o with
  | .ncpRecord r => { d with ncp := { d.ncp with unmirrored := d.ncp.unmirrored.filter (fun n => decide (n ≠ r.no)) } }
  | _ => d

/-- The partner acknowledges every segment of a channel up to a number (14 R418). -/
def ackControl (ch : Nat) (cseq : BitVec 16) (d : Device) : Device :=
  let x := wyTx d ch
  let open_ := x.unacked.filter (fun y => (cseq - y.1).msb)
  let there := x.unacked.filter (fun y => !(cseq - y.1).msb)
  drainControl ch x.waiting (there.foldl (fun d y => noteMirrored y.2.2 d) (setWyTx ch { x with unacked := open_ } d))

/-- A message on a control channel, up to 1,600 bytes long; how many the manual does not state for each (14 R418). (log entry 91: DESIGN CHOICE) -/
def sendPartner (ch : Nat) (k : WyKind) (a b : Nat) (d : Device) : Device :=
  postControl ch (max 1 (min 1600 (Config.wyBytes ch a))) (.wyusin ch k a b) d

/-! ### Time -/

/-- TS32 (04 R105). -/
def ts32 (d : Device) : Word := BitVec.ofNat 32 (d.tim.sec.toNat * 1000000000 + d.tim.ns.toNat)

/-- Local clock in ns. -/
def localNs (d : Device) : Nat := d.tim.sec.toNat * 1000000000 + d.tim.ns.toNat

/-- A late error record enters the ring, or is lost when the ring holds 256 (21 R594, R595). -/
def lateRecord (r : LateRec) (d : Device) : Device :=
  if d.flt.late.length < 256 then
    emit (.msix 69) { d with flt := { d.flt with
      late := d.flt.late ++ [{ r with ts := ts32 d, epoch := d.glb.cfgEpoch }], lateOvf := false } }
  else
    let d' := { d with flt := { d.flt with lateLost := d.flt.lateLost + 1, lateOvf := true } }
    if d.flt.lateOvf then raiseBit sqFLT 4 d' else raise sqFLT 4 0x0105 0 d'

/-! ### Configuration and ports -/

/-- The highest rate of a port in Mb/s (01 Table ARC-3, 03 R78). -/
def maxRate (p : Nat) : Nat :=
  if p < 8 then 25000 else if p < 24 then 10000 else if p = 24 then 1000
  else if p = 37 then 50000 else 10000

/-- A port nobody has configured (02 R49, 03 R79, 05 R170): a port without a wire is on until a command disables it. (log entry 9: DESIGN CHOICE) -/
def defaultPort (p : Nat) : PortCfg :=
  { rate := maxRate p, enabled := decide (25 ≤ p), pfc := decide (p < 8), vids := if p < 25 ∨ p = 37 then [1] else [] }

/-- The configuration of a port, its defaults where none is set. (log entry 9: DESIGN CHOICE) -/
def cfgPort (c : Cfg) (p : Nat) : PortCfg := lookupD c.ports p (defaultPort p)

def portCfg (d : Device) (p : Nat) : PortCfg := cfgPort d.cfg p

def portSt (d : Device) (p : Nat) : PortState := lookupD d.ports p {}

def modPort (p : Nat) (f : PortState → PortState) (d : Device) : Device :=
  { d with ports := insertAt d.ports p (f (portSt d p)) }

def isEth (p : Nat) : Bool := decide (p < 25)

/-- The configuration a frame is decided under (01 R11). -/
def cfgAt (d : Device) (epoch : Word) : Cfg :=
  if epoch = d.glb.cfgEpoch then d.cfg else lookupD d.oldCfgs epoch.toNat d.cfg

/-- Traffic class of a priority on a port (02 R44). -/
def tcOf (c : Cfg) (p prio : Nat) : Nat := (cfgPort c p).pcpTc.getD prio 0

def queueCfg (c : Cfg) (q : Nat) : QueueCfg := lookupD c.buf.queues q {}

def allotCfg (c : Cfg) (i : Nat) : AllotCfg := lookupD c.buf.allots i {}

/-- Residence limit of a class in µs (00 Table SCP-2). -/
def classLimitUs : DClass → Nat
  | .scheduled => 2000
  | .assured => 50000
  | .reserved => 20000
  | .standard => 100000
  | .bulk => 500000

/-- Residence limit of a queue in age-clock ticks of 4 ns (03 R87, R90). -/
def limitTicks (c : Cfg) (q : Nat) : Nat :=
  let qc := queueCfg c q
  (qc.limitUs.getD (classLimitUs qc.cls)) * 250

/-- The port of a queue (03 R72): 304 to 367 are host queues of port HI. -/
def queuePort (q : Nat) : Nat := if q < 304 then q / 8 else 25

/-- The queues of a port: its eight classes, and on HI the 64 host queues (03 R72). -/
def portQueues (p : Nat) : List Nat :=
  (List.range 8).map (fun t => p * 8 + t) ++ (if p = 25 then (List.range 64).map (fun i => 304 + i) else [])

/-- The queue of a copy of a class on a port: on HI the host queue that the entry names, else that of the class (17 R490). -/
def egressQueue (p tc : Nat) (hostQ : Option Nat) : Nat := if p = 25 then 304 + hostQ.getD tc else p * 8 + tc

/-! ### Frames, cells and descriptors (03) -/

def frameOf (d : Device) (id : Nat) : Option Frame := lookup? d.buf.frames id

def setFrame (id : Nat) (f : Frame) (d : Device) : Device :=
  { d with buf := { d.buf with frames := insertAt d.buf.frames id f } }

def modFrame (id : Nat) (g : Frame → Frame) (d : Device) : Device :=
  match frameOf d id with
  | some f => setFrame id (g f) d
  | none => d

def queueOf (d : Device) (q : Nat) : Queue := lookupD d.buf.queues q {}

def setQueue (q : Nat) (x : Queue) (d : Device) : Device :=
  { d with buf := { d.buf with queues := insertAt d.buf.queues q x } }

def allotOf (d : Device) (i : Nat) : Allot := lookupD d.buf.allots i {}

/-- Cells of B stored bytes (03 R68). -/
def cellsFor (b : Nat) : Nat := ceilDiv (b + 32) 256

/-- Stored length B of a frame, DA to FCS. -/
def storedLen (f : Frame) : Nat := f.bytes.length + 4

/-- Bytes of a copy as it leaves, without FCS. -/
def copyBytes (d : Device) (f : Frame) (c : Copy) : Bytes :=
  applyEdit (cfgAt d f.epoch).fwd.userTypes c.edit f.bytes

/-- Length of a copy as it leaves, DA to FCS. -/
def copyLen (d : Device) (f : Frame) (c : Copy) : Nat := (copyBytes d f c).length + 4

/-- Headroom of a port in cells (03 R78). -/
def headroomOf (c : Cfg) (p : Nat) : Nat :=
  if p < 25 then
    let pc := cfgPort c p
    -- r × (2 × T_link + 2 µs) / 8 bytes, r in Mb/s and times in ns, over 8000
    ceilDiv (2 * 9216 * 8000 + pc.rate * (2 * pc.linkBoundNs + 2000)) (256 * 8000)
  else 0

/-- Cells reserved for Scheduled streams (05 R166). -/
def schedResv (d : Device) : Nat := (d.sch.resv.map (fun x => x.2.cells)).sum

def schedDesc (d : Device) : Nat := (d.sch.resv.map (fun x => (x.2.desc.map Prod.snd).sum)).sum

def sumMin (c : Cfg) : Nat := ((List.range 304).map (fun i => (allotCfg c i).min)).sum

def sumHeadroom (c : Cfg) : Nat := ((List.range 25).map (headroomOf c)).sum

/-- Size of the shared pool (03 R74). -/
def sharedSize (d : Device) : Nat :=
  131072 - d.buf.cellsWithdrawn - schedResv d - sumMin d.cfg - sumHeadroom d.cfg

/-- Free cells of the shared pool (03 R75, R76). -/
def sharedFree (d : Device) : Nat :=
  sharedSize d - (d.buf.allots.map (fun x => x.2.used - (allotCfg d.cfg x.1).min)).sum

/-- Free cells of all pools (03 Table BUF-10). -/
def freeCells (d : Device) : Nat :=
  131072 - d.buf.cellsWithdrawn - (d.buf.frames.map (fun x => x.2.cells)).sum

/-- Copies that a port is sending or has preempted. -/
def sending (s : PortState) : List Copy := (s.cur.toList ++ s.preempted.toList).map (·.copy)

/-- Descriptors held outside Scheduled reservations: one for each copy on chip that is not Scheduled, until it has been transmitted (03 R70, R81). -/
def descUsed (d : Device) : Nat :=
  let own (l : List Copy) : Nat := (l.filter (fun c => decide (c.cls ≠ .scheduled) && !c.written)).length
  (d.buf.queues.map (fun x => own x.2.copies + own x.2.spill)).sum + (d.ports.map (fun x => own (sending x.2))).sum

def freeDesc (d : Device) : Nat := 131072 - schedDesc d - descUsed d

/-- Back-pressure of an allotment's source as it begins or ends (03 Table BUF-3). -/
def backPressure (i : Nat) (on : Bool) (d : Device) : Device :=
  let p := i / 8
  if p < 25 then
    let pc := portCfg d p
    if pc.pfc then
      let prios := (List.range 8).foldl (fun (m : BitVec 8) k =>
        if tcOf d.cfg p k = i % 8 then m ||| ((1 : BitVec 8) <<< k) else m) 0
      emit (.pfc p prios on) d
    else if on then emit (.pause p true) d
    else if (List.range 8).any (fun t => (allotOf d (p * 8 + t)).exhausted) then d
    else emit (.pause p false) d
  else d

/-- Whether an allotment is at its exhaustion condition (03 R76, R81). -/
def isFull (i : Nat) (d : Device) : Bool :=
  let a := allotOf d i
  let c := allotCfg d.cfg i
  decide (c.max ≤ a.used) || (decide (c.min < a.used) && decide (sharedFree d < 2048)) || d.buf.descLow

/-- Whether an exhausted allotment's condition has ended (03 R76). -/
def isFree (i : Nat) (d : Device) : Bool :=
  let a := allotOf d i
  let c := allotCfg d.cfg i
  decide (a.used + 32 ≤ c.max) && (decide (a.used ≤ c.min) || decide (4096 ≤ sharedFree d)) && !d.buf.descLow

/-- Counter address of an allotment (03 R101). -/
def allotCtr (i k : Nat) : Nat := 0x210000 + i * 0x20 + k * 8

/-- One allotment begins or ends its exhaustion (03 R76, R77). -/
def reviewAllot (i : Nat) (d : Device) : Device :=
  let a := allotOf d i
  if !a.exhausted && isFull i d then
    let d := { d with buf := { d.buf with allots := insertAt d.buf.allots i { a with exhausted := true } } }
    backPressure i true (raiseBit sqBUF 0 (bump (allotCtr i 1) d))
  else if a.exhausted && isFree i d then
    let d := { d with buf := { d.buf with allots := insertAt d.buf.allots i { a with exhausted := false } } }
    backPressure i false d
  else d

/-- Every allotment in use or configured is judged again, the descriptor low condition first (03 R76, R81, R82: MAX may be 0). -/
def reviewAll (d : Device) : Device :=
  let fd := freeDesc d
  let d := if !d.buf.descLow && decide (fd < 4096) then
      raise sqBUF 4 0x030A 0 { d with buf := { d.buf with descLow := true } }
    else if d.buf.descLow && decide (8192 ≤ fd) then { d with buf := { d.buf with descLow := false } }
    else d
  if d.buf.descLow then (List.range 304).foldl (fun d i => reviewAllot i d) d
  else (d.buf.allots.map Prod.fst ++ d.cfg.buf.allots.map Prod.fst).foldl (fun d i => reviewAllot i d) d

/-- Charge cells to an allotment or a stream (03 R75). -/
def addCharge (ch : Charge) (n : Nat) (d : Device) : Device :=
  match ch with
  | .allot i =>
    let a := allotOf d i
    { d with buf := { d.buf with allots := insertAt d.buf.allots i { a with used := a.used + n } } }
  | .stream h =>
    { d with buf := { d.buf with resvCells := insertAt d.buf.resvCells h (lookupD d.buf.resvCells h 0 + n) } }
  | .express => d

def subCharge (ch : Charge) (n : Nat) (d : Device) : Device :=
  match ch with
  | .allot i =>
    let a := allotOf d i
    { d with buf := { d.buf with allots := insertAt d.buf.allots i { a with used := a.used - n } } }
  | .stream h =>
    { d with buf := { d.buf with resvCells := insertAt d.buf.resvCells h (lookupD d.buf.resvCells h 0 - n) } }
  | .express => d

/-- The next index of a free list: the one given back last, else the first never taken. (log entry 69: DESIGN CHOICE) -/
def takeIndex (free : List Nat) (next : Nat) : Nat × List Nat × Nat :=
  match free with
  | i :: rest => (i, rest, next)
  | [] => (next, [], next + 1)

/-- Link one more cell of the free list behind a frame's cells (03 R68, R69). -/
def linkCell (id : Nat) (d : Device) : Device :=
  let r := takeIndex d.buf.cellFree d.buf.cellNext
  modFrame id (fun f => { f with chain := f.chain ++ [r.1] }) { d with buf := { d.buf with cellFree := r.2.1, cellNext := r.2.2 } }

/-- Link `n` cells. -/
def linkCells (id n : Nat) (d : Device) : Device := (List.range n).foldl (fun d _ => linkCell id d) d

/-- Cells charged to headroom go back to headroom (03 R78). -/
def freeHeadroom (port n : Nat) (d : Device) : Device :=
  { d with buf := { d.buf with headroom := insertAt d.buf.headroom port (lookupD d.buf.headroom port 0 - n) } }

/-- Give back all cells of a frame (03 R69). -/
def freeCellsOf (id : Nat) (d : Device) : Device :=
  match frameOf d id with
  | none => d
  | some f =>
    let d := freeHeadroom f.port f.hr (subCharge f.charge (f.cells - f.hr) d)
    let d := { d with buf := { d.buf with cellFree := f.chain ++ d.buf.cellFree } }
    reviewAll (setFrame id { f with chain := [], hr := 0 } d)

/-- A frame's cells move to another charge, those in the headroom too when a stream's reservation takes them (03 R75). -/
def moveCharge (id : Nat) (ch : Charge) (d : Device) : Device :=
  match frameOf d id with
  | none => d
  | some f =>
    if f.charge = ch then d
    else
      let hr := match ch with | .stream _ => 0 | _ => f.hr
      let d := freeHeadroom f.port (f.hr - hr) (subCharge f.charge (f.cells - f.hr) d)
      addCharge ch (f.cells - hr) (setFrame id { f with charge := ch, hr := hr } d)

/-- Forget a frame no copy holds: its cells return to the free list (03 R69). A frame whose bytes are still
arriving stays listed, without cells, until its end. -/
def retireFrame (id : Nat) (d : Device) : Device :=
  match frameOf d id with
  | none => d
  | some f =>
    if f.refs = 0 then
      let d := freeCellsOf id d
      if f.ended && !f.tail then { d with buf := { d.buf with frames := removeAt d.buf.frames id } }
      else modFrame id (fun f => { f with phase := .dropped }) d
    else d

/-- Discard a frame before any copy exists. -/
def dropFrame (id : Nat) (d : Device) : Device :=
  retireFrame id (modFrame id (fun f => { f with phase := .dropped, refs := 0 }) d)

/-! ### Transmit timestamp queues (04 R129 to R133) -/

/-- A transmit timestamp entry (04 R130, R131): status 0 TX, 1 DROPPED, 2 ABORTED. -/
def pushTxts (p : Nat) (st : Stamp) (id : BitVec 16) (status : Nat) (d : Device) : Device :=
  let ps := portSt d p
  if p < 25 then
    if ps.txts.length < 64 then
      modPort p (fun ps => { ps with txts := ps.txts ++ [(st, id, status)], txtsFull := false }) d
    else
      let d := modPort p (fun ps => { ps with txtsLost := ps.txtsLost + 1, txtsFull := true }) d
      let d := raiseBit (sqTXTS p) 0 d
      if ps.txtsFull then d else raise sqTIM 7 0x0407 p d
  else d

/-- The local clock in units of 2^-32 ns (04 R103). -/
def localFine (d : Device) : Nat := localNs d * 4294967296 + d.tim.frac.toNat

/-- The present tick of the local clock, with a signed latency in ps to be added (04 R109). -/
def tickOf (latPs : Int) (d : Device) : Tick :=
  { fine := localFine d, latPs := latPs, freeRun := decide (d.tim.mode = .freeRun), holdover := decide (d.tim.mode = .holdover), step := d.tim.step }

/-- The timestamp of an instant `sub` steps of 0.8 ns after a tick (04 R107, R109, R112): full resolution, without the fraction below 2^-16 ns. -/
def stampOf (sub : Nat) (k : Tick) : Stamp :=
  let t := ((k.fine : Int) + ((sub * 800 : Nat) + k.latPs) * 4294967296 / 1000).toNat
  let n := t / 4294967296
  { sec := BitVec.ofNat 48 (n / 1000000000)
    ns := BitVec.ofNat 30 (n % 1000000000)
    frac := BitVec.ofNat 16 (t / 65536 % 65536)
    ts32 := BitVec.ofNat 32 n
    freeRun := k.freeRun
    holdover := k.holdover
    step := k.step }

/-- The timestamp of an instant `sub` steps of 0.8 ns after the present tick. -/
def stampAt (sub : Nat) (latPs : Int) (d : Device) : Stamp := stampOf sub (tickOf latPs d)

/-- The stamp of an entry without a timestamp: NS and fraction 0 (04 Table TIM-8). -/
def stampNone (d : Device) : Stamp := { stampAt 0 0 d with sec := 0, ns := 0, ts32 := 0, frac := 0 }

/-- Ports that take timestamps of frames (04 R107). -/
def stamped (p : Nat) : Bool := decide (p < 25) || decide (p = 37)

/-- The instant of the first bit after the SFD, in steps of 0.8 ns; MG0 resolves 4 ns (04 R108), a port without a wire the tick alone. -/
def stampSub (p sub : Nat) : Nat := if p = 24 then sub / 5 * 5 else if stamped p then sub else 0

/-- The compensated ingress timestamp: RX_LAT is subtracted (04 R109, R112). A port without a wire keeps the plain clock. -/
def ingressStamp (p sub : Nat) (d : Device) : Stamp :=
  if stamped p then stampAt (stampSub p sub) (-(portCfg d p).rxLatPs) d else stampAt 0 0 d

/-- The tick of an egress timestamp: TX_LAT is to be added (04 R109, R112). -/
def egressTick (p : Nat) (d : Device) : Tick := tickOf (if stamped p then (portCfg d p).txLatPs else 0) d

/-- The compensated egress timestamp. -/
def egressStamp (p sub : Nat) (d : Device) : Stamp := stampOf (stampSub p sub) (egressTick p d)

/-! ### Gate control lists (05 R142) -/

/-- The entry a position in the cycle falls in: its index and the time left in it. -/
def entryIn : List GclEntry → Nat → Nat → Nat × Nat
  | [], _, i => (i, 0)
  | e :: rest, pos, i => if pos < e.intervalNs then (i, e.intervalNs - pos) else entryIn rest (pos - e.intervalNs) (i + 1)

/-- Position of a list at a local time: (t − BASE_TIME) mod CYCLE_TIME (05 R142). -/
def listPos (g : Gcl) (ns : Nat) : Nat :=
  let base := g.baseSec * 1000000000 + g.baseNs
  let c := max 1 g.cycleNs
  if base ≤ ns then (ns - base) % c else (c - (base - ns) % c) % c

/-- The number of the cycle of a list that a local time falls in, counted from BASE_TIME. -/
def cycleIdx (g : Gcl) (ns : Nat) : Int :=
  ((ns : Int) - ((g.baseSec * 1000000000 + g.baseNs : Nat) : Int)) / ((max 1 g.cycleNs : Nat) : Int)

def listEntry (g : Gcl) (ns : Nat) : Nat × Nat := entryIn g.entries (listPos g ns) 0

def gatesOf (g : Gcl) (i : Nat) : BitVec 8 :=
  match g.entries[i]? with
  | some e => e.gates
  | none => 0xFF

def gateSt (d : Device) (p : Nat) : GateState := lookupD d.sch.gates p {}

def setGate (p : Nat) (x : GateState) (d : Device) : Device :=
  { d with sch := { d.sch with gates := insertAt d.sch.gates p x } }

/-- The list of a port that is in operation. -/
def opList (d : Device) (p : Nat) : Option Gcl :=
  if (gateSt d p).running then lookup? d.cfg.sch.lists p else none

def gateOpen (d : Device) (p tc : Nat) : Bool :=
  match opList d p with
  | some _ => (gateSt d p).gates.getLsbD tc
  | none => true

/-- Time in ns for which the entries from index `i` on keep a gate open. -/
def openRun (es : List GclEntry) (tc : Nat) : Nat → Nat → Option Nat
  | 0, _ => none
  | n + 1, i =>
    match es[i % max 1 es.length]? with
    | none => none
    | some e => if e.gates.getLsbD tc then (openRun es tc n (i + 1)).map (· + e.intervalNs) else some 0

/-- Time in ns until the gate of a class closes; `none` when it never does (05 R143). -/
def untilClose (d : Device) (p tc : Nat) : Option Nat :=
  match opList d p with
  | none => none
  | some g =>
    let e := listEntry g (localNs d)
    (openRun g.entries tc g.entries.length (e.1 + 1)).map (· + e.2)

/-- Time in ns until the entry `k` places ahead of the present one starts. -/
def untilEntry (g : Gcl) (ns k : Nat) : Nat :=
  let e := listEntry g ns
  e.2 + ((List.range (k - 1)).map (fun j => ((g.entries[(e.1 + 1 + j) % max 1 g.entries.length]?).map (·.intervalNs)).getD 0)).sum

/-- The hold of preemptable traffic asked for at this moment (05 R152): from `advance` ns before each Set-And-Hold-MAC entry to the next
Set-And-Release-MAC entry; SetGateStates entries do not change it. -/
def holdSpan (g : Gcl) (ns advance : Nat) : Bool :=
  let n := g.entries.length
  let i := (listEntry g ns).1
  let back := (List.range n).map (fun k => g.entries[(i + n - k) % max 1 n]?)
  let inside : Bool := match back.find? (fun e => match e with | some e => e.isHold || e.isRelease | none => false) with
    | some (some e) => e.isHold
    | _ => false
  inside || (List.range n).any (fun k => (match g.entries[(i + k + 1) % max 1 n]? with | some e => e.isHold | none => false) &&
    decide (untilEntry g ns (k + 1) ≤ advance))

/-! ### Credit-based shaper (05 R153) -/

def reservedQueue (d : Device) (q : Nat) : Bool := decide (q < 200) && decide ((queueCfg d.cfg q).cls = .reserved)

/-- Bring a queue's credit forward to now: it grows while frames wait or it is below zero, the gate being open; a positive credit ends with
the queue empty; it is frozen while the gate is closed. Called before each change of the queue, the gate or the transmission, so that the
time since the last call had one of these forms throughout. Units of 10^-9 bit. (log entry 17: PRESUMED) -/
def bringCredit (p tc : Nat) (d : Device) : Device :=
  let q := p * 8 + tc
  let slope := (portCfg d p).idleSlope.getD tc 0
  let c := lookupD d.sch.credit q (0, d.now)
  let dt := d.now - c.2
  let busy := match (portSt d p).cur with | some x => decide (x.q = q) | none => false
  let x := queueOf d q
  let v : Int := if busy || !gateOpen d p tc then c.1
    else if x.copies.isEmpty && x.spill.isEmpty then (if 0 < c.1 then 0 else min 0 (c.1 + (slope * dt : Nat)))
    else c.1 + (slope * dt : Nat)
  { d with sch := { d.sch with credit := insertAt d.sch.credit q (v, d.now) } }

/-- The credit of a Reserved queue up to now. -/
def bringQueue (q : Nat) (d : Device) : Device := if reservedQueue d q then bringCredit (q / 8) (q % 8) d else d

/-- A queue under a credit shaper may start a copy (05 R153). (log entry 17: PRESUMED) -/
def creditOk (d : Device) (p tc : Nat) : Bool :=
  if reservedQueue d (p * 8 + tc) then decide (0 ≤ (lookupD d.sch.credit (p * 8 + tc) (0, 0)).1) else true

/-- A transmission of `bits` at the port's rate is paid from the credit at sendSlope. (log entry 17: PRESUMED) -/
def payCredit (p tc bits : Nat) (d : Device) : Device :=
  let q := p * 8 + tc
  if reservedQueue d q then
    let rate := (portCfg d p).rate * 1000
    let slope := (portCfg d p).idleSlope.getD tc 0
    let c := lookupD d.sch.credit q (0, d.now)
    -- duration bits / rate, times (rate − IDLE_SLOPE)
    let cost : Nat := bits * 1000000000 * (rate - slope) / max 1 rate
    let x := queueOf d q
    let v := c.1 - (cost : Int)
    { d with sch := { d.sch with credit := insertAt d.sch.credit q (if x.copies.isEmpty && x.spill.isEmpty then min 0 v else v, d.now) } }
  else d

/-! ### Copies and queues -/

/-- Counter address of a queue (03 R100). -/
def queueCtr (q k : Nat) : Nat := 0x204000 + q * 0x80 + k * 8

/-- A copy of an Assured frame has ended, delivered or discarded: the journal record of its number (06 R189). -/
def asdCopyEnded (c : Copy) (last : Bool) (d : Device) : Device :=
  match c.asd with
  | none => d
  | some (slot, seq) =>
    if last then
      { d with asd := { d.asd with journal := d.asd.journal.map (fun r =>
          if r.kind = .frame ∧ r.slot = slot ∧ r.seq = seq ∧ r.complete then { r with finished := true } else r) } }
    else d

/-- A copy is gone from the buffer: one holder fewer, cells back with the last (03 R69, R70); an Assured number
ends with its last copy; a requested timestamp is answered DROPPED when the copy was not sent (04 R130). -/
def copyGone (port : Nat) (c : Copy) (sent onChip : Bool) (d : Device) : Device :=
  let last := match frameOf d c.frame with | some f => decide (f.refs ≤ 1) | none => true
  let d := asdCopyEnded c last d
  let d := match c.txId, sent with
    | some id, false => pushTxts port (stampNone d) id 1 d
    | _, _ => d
  let d := modFrame c.frame (fun f => { f with refs := f.refs - 1, chip := if onChip then f.chip - 1 else f.chip }) d
  let d := if onChip then { d with buf := { d.buf with descFree := c.desc :: d.buf.descFree } } else d
  retireFrame c.frame d

/-- Cells a copy would hold on chip (03 R84). -/
def copyCells (d : Device) (c : Copy) : Nat :=
  match frameOf d c.frame with
  | some f => cellsFor (storedLen f)
  | none => 0

/-- Queue depth D (03 R84). -/
def depth (d : Device) (q : Nat) : Nat :=
  let x := queueOf d q
  (x.copies.map (copyCells d)).sum + (x.spill.map (copyCells d)).sum

/-- Depth held on chip: every copy but those written to a spill page (03 R91, R92). -/
def chipDepth (d : Device) (q : Nat) : Nat :=
  let x := queueOf d q
  (x.copies.map (copyCells d)).sum + ((x.spill.filter (fun c => !c.written)).map (copyCells d)).sum

/-- Discard a list of copies of a queue under a counter and a code (03 Table BUF-9). -/
def discardCopies (q k : Nat) (cs : List Copy) (d : Device) : Device :=
  cs.foldl (fun d c => copyGone (queuePort q) c false (!c.written) (bump (queueCtr q k) d)) d

/-- Copies past their limit are discarded as AGE_DISCARD, each one an event of BUF_STATUS (03 R89, 18 R519). -/
def ageDiscards (q : Nat) (cs : List Copy) (d : Device) : Device :=
  cs.foldl (fun d c => raiseBit sqBUF 1 (discardCopies q 7 [c] d)) d

/-- Bytes of a spill record (03 R93): descriptor image, frame header and frame, to a multiple of 64. (log entry 20: DEDUCED) -/
def spillRecBytes (f : Frame) : Nat := 64 * ceilDiv (16 + 32 + storedLen f) 64

/-- Data bytes of a spill page after its header (03 R93). -/
def pageData : Nat := 1984

/-- Spill pages the region of Table ARC-8 holds (01 R23): `two` both channels in service. In the surviving
channel the other regions take 1,616 MiB and spill the remainder (01 R24). (log entry 20: DEDUCED) -/
def spillRegion (two : Bool) : Nat :=
  let mib := match Config.dramSize with
    | .g4 => if two then 2208 else 2048 - 1616
    | .g8 => if two then 6304 else 4096 - 1616
    | .g16 => if two then 14496 else 8192 - 1616
  mib * 512

/-- Copies the spill area holds (03 R94). (log entry 20: DEDUCED) -/
def spillCopyLimit (two : Bool) : Nat := if two then 4194304 else 2097152

def bothDram (d : Device) : Bool := !(sqOf sqBUF d).bits.getLsbD 7 && decide (d.asd.copiesIn = 3)

/-- Spill pages there are now: an open update holds the top 256 MiB of the region (20 R564). (log entry 20: DEDUCED) -/
def spillPageLimit (d : Device) : Nat := spillRegion (bothDram d) - (if d.boot.update.isSome then 256 * 512 else 0)

/-- A spill limit is reached, or the area is below 90 % of both limits again (03 R94). -/
def reviewSpill (d : Device) : Device :=
  let two := bothDram d
  let full := decide (spillCopyLimit two ≤ d.buf.spillCopies) || decide (spillPageLimit d ≤ d.buf.spillPages)
  let low := decide (d.buf.spillCopies * 10 < spillCopyLimit two * 9) &&
    decide (d.buf.spillPages * 10 < spillPageLimit d * 9)
  if full && !d.buf.spillFull then raise sqBUF 5 0x0309 0 { d with buf := { d.buf with spillFull := true } }
  else if d.buf.spillFull && low then
    let q := sqOf sqBUF d
    { d with buf := { d.buf with spillFull := false },
             sq := insertAt d.sq sqBUF { q with bits := q.bits &&& ~~~((1 : BitVec 24) <<< (5 : Nat)) } }
  else d

/-- Pages of a spill section that no record left needs go back to the free list; an empty section ends the spill state (03 R91, R94). -/
def trimSpill (q : Nat) (x : Queue) (d : Device) : Device :=
  let upTo := if x.spill.isEmpty then x.rpage + x.pages.length
    else max x.rpage (match x.spill.find? (fun c => c.written) with | some c => c.first | none => x.wpos / pageData)
  let n := upTo - x.rpage
  let d := { d with buf := { d.buf with
    spillPages := d.buf.spillPages - n, pageFree := (x.pages.take n).map (·.index) ++ d.buf.pageFree } }
  setQueue q (if x.spill.isEmpty then { x with inSpill := false, wpos := 0, rnext := 0, rpage := 0, pages := [] }
    else { x with rpage := upTo, pages := x.pages.drop n }) d

/-- Take copies out of a queue, from its spill section too: the copies, and the device without them. -/
def takeOut (q : Nat) (out : Copy → Bool) (d : Device) : List Copy × Device :=
  let x := queueOf d q
  let gone := (x.copies ++ x.spill).filter out
  if gone.isEmpty then ([], d)
  else
    let d := bringQueue q d
    let d := { d with buf := { d.buf with spillCopies := d.buf.spillCopies - (gone.filter (fun c => c.written)).length } }
    (gone, reviewSpill (trimSpill q { x with copies := x.copies.filter (fun c => !out c), spill := x.spill.filter (fun c => !out c) } d))

/-- Flush a queue, spill section included, counting each copy under counter `k` (03 R98); A becomes undefined. -/
def flushQueue (q k : Nat) (d : Device) : Device :=
  let r := takeOut q (fun _ => true) d
  reviewAll (discardCopies q k r.1 (setQueue q {} r.2))

/-! ### Packet descriptors (03 R71) -/

def classNo : DClass → Nat
  | .scheduled => 0 | .assured => 1 | .reserved => 2 | .standard => 3 | .bulk => 4

def colourNo : Colour → Nat
  | .green => 0 | .yellow => 1 | .red => 2

/-- The 128 bits of a descriptor (Table BUF-2); `next`: the descriptor behind it in its queue. (log entry 69: DESIGN CHOICE) -/
def descImage (f : Frame) (c : Copy) (next : Option Nat) : BitVec 128 :=
  let flag (b : Bool) (n : Nat) : Nat := if b then 2 ^ n else 0
  BitVec.ofNat 128 ((match next with | some n => n | none => (Config.tailNext c.desc).toNat) * 2 ^ 111 + f.chain.headD 0 * 2 ^ 94 +
    storedLen f * 2 ^ 80 + c.age.toNat * 2 ^ 48 + f.port * 2 ^ 42 + c.itc * 2 ^ 39 + colourNo c.colour * 2 ^ 37 + classNo c.cls * 2 ^ 34 +
    flag c.ct 33 + flag f.authFail 32 + flag (decide (1 < f.refs)) 31 + c.stream.getD 0 * 2 ^ 17 + flag c.stream.isSome 16)

/-- The descriptors of the copies a queue holds on chip, from its head. -/
def descriptors (d : Device) (q : Nat) : List (BitVec 128) :=
  let x := queueOf d q
  let l := x.copies ++ x.spill.filter (fun c => !c.written)
  (l.zip (l.tail.map (fun c => some c.desc) ++ [none])).filterMap (fun y => (frameOf d y.1.frame).map (fun f => descImage f y.1 y.2))

end Sys2Proof.Machine
end

