-- ==== Sys2Proof/Machine/FirewallOps.lean ====
section
/-! DEFINITION. The operations of the firewall (07): zones, rules, conntrack, TCP tracking, the flow cache, address
translation and Spring rules. -/

namespace Sys2Proof.Machine

/-! ### Zones and codes -/

/-- Zone of a port and VID (07 R207, R208): ports HI and CP have one zone; an unmapped pair is in zone 15. -/
def zoneOf (c : Cfg) (p vid : Nat) : Nat :=
  if p = 25 then c.fwl.zoneHi else if p = 36 then c.fwl.zoneCp else lookupD c.fwl.zoneMap (p * 4096 + vid) 15

/-- Attributes of a zone; zone 15 has INTRA = POLICY (07 R208, Table FWL-1). -/
def zoneCfg (c : Cfg) (z : Nat) : ZoneCfg :=
  if z = 15 then { intraPolicy := true } else lookupD c.fwl.zones z {}

/-- Count a firewall discard (07 R247). -/
def fwlCount (code : Nat) (d : Device) : Device := bump (0x402000 + (code - 0x0710) * 8) d

/-- Counter k of a zone pair (07 R248). -/
def pairCount (zin zout k : Nat) (d : Device) : Device := bump (0x404000 + (zin * 16 + zout) * 0x40 + k * 8) d

/-- At most one event of a kind per second. -/
def oncePerSecond (last : Option Nat) (now : Nat) : Bool :=
  match last with
  | some t => decide (t + 1000000000000 ≤ now)
  | none => true

/-- Take a token: rate in units of 100 per second, a bucket of 1 ms of the rate (07 R231). Levels count
10^-10 tokens, so that a rate times ps adds exactly. -/
def takeToken (rate now : Nat) (b : Option Bucket) : Bool × Bucket :=
  let cap := rate * 1000000000
  let level := match b with
    | none => cap
    | some b => min cap (b.level + rate * (now - b.at_))
  if 10000000000 ≤ level then (true, { level := level - 10000000000, at_ := now })
  else (false, { level := level, at_ := now })

/-- Whether a prefix of a 32- or 128-bit address matches. -/
def prefixMatch (width : Nat) (p : Option (Nat × Nat)) (a : Nat) : Bool :=
  match p with
  | none => true
  | some (v, bits) => decide (v / 2 ^ (width - bits) = a / 2 ^ (width - bits))

def rangeMatch (r : Option (Nat × Nat)) (v : Nat) : Bool :=
  match r with
  | none => true
  | some (lo, hi) => decide (lo ≤ v) && decide (v ≤ hi)

def anyMatch (r : Option Nat) (v : Nat) : Bool :=
  match r with
  | none => true
  | some x => decide (x = v)

/-- Address family of a parsed frame. -/
def familyOf (h : Hdr) : Family :=
  match h.ip with
  | some ip => if ip.v6 then .v6 else .v4
  | none => .l2

/-! ### Routes (02 R48) -/

/-- The longest matching prefix of a routing instance. -/
def routeFor (c : Cfg) (inst : Nat) (v6 : Bool) (dst : Nat) : Option Route :=
  let w := if v6 then 128 else 32
  c.fwd.routes.foldl (fun best r =>
    if r.inst.toNat = inst ∧ r.v6 = v6 ∧ prefixMatch w (some (r.pfx, r.bits)) dst then
      match best with
      | some b => if b.bits < r.bits then some r else some b
      | none => some r
    else best) none

/-! ### Rules (07 R212) -/

/-- What the rules see of a flow's first frame. -/
structure FlowView where
  h : Hdr
  zin : Nat
  zout : Nat
  /-- VID as seen at ingress -/
  vid : Nat
  napt : Bool
  deriving DecidableEq, Repr

/-- Whether a rule matches (07 Table FWL-2; PERMIT_NAPT only IPv4 flows of a NAPT_INSIDE zone, R236). -/
def ruleMatches (v : FlowView) (r : Rule) : Bool :=
  let fam := familyOf v.h
  let common := anyMatch r.srcZone v.zin && anyMatch r.dstZone v.zout && decide (r.family = fam) &&
    rangeMatch r.vid v.vid && decide (v.zin ≠ 15) && decide (v.zout ≠ 15) &&
    (decide (r.action ≠ .permitNapt) || (decide (fam = .v4) && v.napt))
  match v.h.ip with
  | some ip =>
    let w := if ip.v6 then 128 else 32
    let ported := ip.proto == 6 || ip.proto == 17
    let icmp := ip.proto == 1 || ip.proto == 58
    common && prefixMatch w r.src ip.src && prefixMatch w r.dst ip.dst && anyMatch r.proto ip.proto &&
      (r.srcPort.isNone || (ported && rangeMatch r.srcPort ip.l4.sport)) &&
      (r.dstPort.isNone || (ported && rangeMatch r.dstPort ip.l4.dport)) &&
      (r.icmpType.isNone || (icmp && anyMatch r.icmpType ip.l4.icmpType)) &&
      (r.icmpCode.isNone || (icmp && anyMatch r.icmpCode ip.l4.icmpCode)) &&
      (match r.dscp with | some m => m.getLsbD ip.dscp | none => true)
  | none =>
    common && prefixMatch 48 r.src v.h.sa && prefixMatch 48 r.dst v.h.da && anyMatch r.proto v.h.etherType &&
      r.srcPort.isNone && r.dstPort.isNone && r.icmpType.isNone && r.icmpCode.isNone && r.dscp.isNone

/-- The matching rule with the lowest PRIORITY (07 R212). -/
def firstRule (rules : List Rule) (v : FlowView) : Option Rule :=
  rules.foldl (fun best r =>
    if ruleMatches v r then
      match best with
      | some b => if r.priority < b.priority then some r else some b
      | none => some r
    else best) none

/-- Spring rules (07 R240): the lowest index that matches decides; fragments are discarded as FW_FRAG. -/
def springVerdict (rules : List SpringRule) (h : Hdr) (zin zout : Nat) : Option Nat :=
  let frag := match h.ip with | some ip => ip.isFrag | none => false
  if frag then some 0x0719
  else
    let m := rules.find? (fun r =>
      anyMatch r.srcZone zin && anyMatch r.dstZone zout && decide (r.family = familyOf h) &&
      (match h.ip with
       | some ip => anyMatch r.proto ip.proto && prefixMatch (if ip.v6 then 128 else 32) r.src ip.src &&
          prefixMatch (if ip.v6 then 128 else 32) r.dst ip.dst &&
          (r.dstPort.isNone || ((ip.proto == 6 || ip.proto == 17) && rangeMatch r.dstPort ip.l4.dport))
       | none => anyMatch r.proto h.etherType && prefixMatch 48 r.src h.sa && prefixMatch 48 r.dst h.da &&
          r.dstPort.isNone))
    match m with
    | some r => if r.permit then none else some 0x0711
    | none => some 0x0711

/-! ### Conntrack (07 R216 to R219) -/

/-- Home index and cache set of a key (07 R217, R229). -/
def homeOf (seed : Word) (key : Bytes) : Nat := ((crc32c key) ^^^ seed).toNat / 512

def setOf (seed : Word) (key : Bytes) : Nat := ((crc32c key) ^^^ seed).toNat % 65536

def ctAt (d : Device) (i : Nat) : Option Ct := lookup? d.fwl.ct i

/-- The entry of a key: its index and itself. -/
def ctFind (d : Device) (key : Bytes) : Option (Nat × Ct) := d.fwl.ct.find? (fun x => x.2.key = key)

def setCt (i : Nat) (e : Ct) (d : Device) : Device :=
  { d with fwl := { d.fwl with ct := insertAt d.fwl.ct i e } }

def modCt (i : Nat) (g : Ct → Ct) (d : Device) : Device :=
  match ctAt d i with
  | some e => setCt i (g e) d
  | none => d

/-- The lowest index never used: not in use and not freed since (07 R217). -/
def lowestFresh (used freed : List Nat) : Nat → Nat → Nat
  | 0, i => i
  | n + 1, i => if used.contains i || freed.contains i then lowestFresh used freed n (i + 1) else i

/-- A free slot from FREE_HEAD: the one freed last, then those never used in ascending index (07 R217). -/
def takeFree (d : Device) : Option (Nat × Device) :=
  match d.fwl.free with
  | i :: rest => some (i, { d with fwl := { d.fwl with free := rest } })
  | [] =>
    let used := d.fwl.ct.map Prod.fst
    let i := lowestFresh used [] (used.length + 1) 0
    if i < 8388608 then some (i, d) else none

/-- Length of the chain that starts at an index. -/
def chainLen (d : Device) : Nat → Nat → Nat
  | 0, _ => 0
  | n + 1, i => match ctAt d i with
    | some e => 1 + (match e.next with | some j => chainLen d n j | none => 0)
    | none => 0

/-- The last entry of a chain. -/
def chainTail (d : Device) : Nat → Nat → Nat
  | 0, i => i
  | n + 1, i => match ctAt d i with
    | some e => (match e.next with | some j => chainTail d n j | none => i)
    | none => i

/-- Move an entry to another slot and relink its neighbours and its partner (07 R217, R219). -/
def moveCt (i j : Nat) (d : Device) : Device :=
  match ctAt d i with
  | none => d
  | some e =>
    let d := { d with fwl := { d.fwl with ct := removeAt d.fwl.ct i } }
    let d := setCt j e d
    let d := match e.prev with | some p => modCt p (fun x => { x with next := some j }) d | none => d
    let d := match e.next with | some n => modCt n (fun x => { x with prev := some j }) d | none => d
    match e.link with | some l => modCt l (fun x => { x with link := some j }) d | none => d

/-- Insert an entry under its key (07 R217); `none` when the chain would pass 8 or no slot is free. -/
def ctInsert (e : Ct) (d : Device) : Option (Nat × Device) :=
  let home := homeOf d.fwl.seed e.key
  match ctAt d home with
  | none =>
    some (home, setCt home { e with next := none, prev := none }
      { d with fwl := { d.fwl with free := d.fwl.free.filter (fun x => x ≠ home) } })
  | some o =>
    if homeOf d.fwl.seed o.key ≠ home then
      match takeFree d with
      | some (j, d) => some (home, setCt home { e with next := none, prev := none } (moveCt home j d))
      | none => none
    else if 8 ≤ chainLen d 8 home then none
    else
      match takeFree d with
      | some (j, d) =>
        let t := chainTail d 8 home
        some (j, setCt j { e with next := none, prev := some t } (modCt t (fun x => { x with next := some j }) d))
      | none => none

def kindCode : CtKind → Nat
  | .tcp => 0 | .udp => 1 | .icmp => 2 | .otherIp => 3 | .l2 => 4

def phaseCode : CtPhase → Nat
  | .synSent => 1 | .synRecv => 2 | .established => 3 | .fin1 => 4 | .fin2 => 5 | .timeWait => 6 | .closed => 7
  | .oneWay => 8 | .bothWays => 9 | .echoReq => 10 | .echoReplied => 11

/-- The 128 bytes of conntrack entry i (07 Table FWL-4). (log entry 51: DESIGN CHOICE) -/
def ctBytes (i : Nat) (e : Ct) (d : Device) : Bytes :=
  let flags : Nat := 128 + bitN e.alias_ * 64 + bitN e.napt * 32 + bitN e.dir * 16 + bitN (decide (homeOf d.fwl.seed e.key = i)) * 8 + bitN e.picked * 4
  let nh : Nat := match e.nh with | some (g, n) => 32768 + bitN g * 16384 + n % 4096 | none => 0
  (e.key ++ List.replicate 40 0).take 40 ++ toBe 1 flags ++ toBe 1 (kindCode e.kind) ++ toBe 1 (phaseCode e.state) ++
  toBe 1 (e.initZone % 16 * 16 + e.respZone % 16) ++ toBe 2 e.ruleId ++ toBe 1 e.prof.toNat ++ toBe 1 0 ++ toBe 4 e.created.toNat ++ toBe 4 e.seen.toNat ++
  toBe 4 (match e.next with | some n => n % 8388608 | none => 2147483648) ++ toBe 4 (match e.prev with | some n => n % 8388608 | none => 2147483648) ++
  toBe 4 e.track.high1.toNat ++ toBe 4 e.track.high2.toNat ++ toBe 4 e.track.right1.toNat ++ toBe 4 e.track.right2.toNat ++
  toBe 1 (e.ws1.toNat * 16 + e.ws2.toNat) ++ toBe 1 e.seen8.toNat ++ toBe 2 0 ++ toBe 4 ((e.link.getD 0) % 8388608) ++ toBe 16 e.xaddr ++
  toBe 2 e.xport ++ toBe 2 nh ++ toBe 4 e.mirrorNo.toNat ++ toBe 16 0

/-- A conntrack message on channel 4 of at least so many bytes (14 Table PAIR-3). (log entry 91: DESIGN CHOICE) -/
def conntrackMsg (least : Nat) (o : Output) (d : Device) : Device :=
  postControl 4 (max least (min 1600 (Config.wyBytes 4 d.fwl.mirrorNo.toNat))) o d

/-- A standby reports a state change or a LAST_SEEN advance that it observes to the active (14 R420). -/
def touchOut (e : Ct) (seen : Bool) (d : Device) : Device :=
  if d.pair.role = .standbySyncing ∨ d.pair.role = .standbyReady then conntrackMsg 40 (.touch e.key e.state seen) d else d

/-- Send a mirror of an entry to the partner (07 R241). -/
def ctMirrorOut (op : Nat) (i : Nat) (d : Device) : Device :=
  match ctAt d i with
  | none => d
  | some e =>
    if d.asd.replicating then
      let n := d.fwl.mirrorNo + 1
      let d := setCt i { e with mirrorNo := n } { d with fwl := { d.fwl with mirrorNo := n } }
      conntrackMsg 128 (.ctMirror op (ctBytes i { e with mirrorNo := n } d)) d
    else if op = 1 then touchOut e false d
    else d

/-- Delete one entry (07 R217): the freed slot goes to FREE_HEAD; a chain head's successor moves into it. -/
def ctDelete1 (i : Nat) (d : Device) : Device :=
  match ctAt d i with
  | none => d
  | some e =>
    let d := { d with fwl := { d.fwl with ct := removeAt d.fwl.ct i } }
    match e.prev, e.next with
    | none, some n =>
      let d := modCt n (fun x => { x with prev := none }) d
      let d := moveCt n i d
      { d with fwl := { d.fwl with free := n :: d.fwl.free } }
    | some p, nx =>
      let d := modCt p (fun x => { x with next := nx }) d
      let d := match nx with | some n => modCt n (fun x => { x with prev := some p }) d | none => d
      { d with fwl := { d.fwl with free := i :: d.fwl.free } }
    | none, none => { d with fwl := { d.fwl with free := i :: d.fwl.free } }

/-! ### Flow cache (07 R229, R230, R233) -/

def cacheSet (d : Device) (s : Nat) : List (Option Way) := lookupD d.fwl.cache s [none, none, none, none]

def setCache (s : Nat) (ws : List (Option Way)) (d : Device) : Device :=
  let cache := if ws = [none, none, none, none] then removeAt d.fwl.cache s else insertAt d.fwl.cache s ws
  { d with fwl := { d.fwl with cache := cache } }

/-- A set with a way in a retired bank of the flow cache is bypassed: its lookups miss (21 Table FLT-1). (log entry 59: DEDUCED) -/
def bypassed (d : Device) (s : Nat) : Bool :=
  d.flt.ledger.any (fun x => decide (96 ≤ x.1) && decide (x.1 < 108) && decide (x.2.state ≠ .inService) && Config.cacheBank (x.1 - 96) s)

def wayOf (d : Device) (key : Bytes) : Option Way :=
  let s := setOf d.fwl.seed key
  if bypassed d s then none
  else ((cacheSet d s).find? (fun w => match w with | some w => w.key = key | none => false)).join

def modWay (key : Bytes) (g : Way → Way) (d : Device) : Device :=
  let s := setOf d.fwl.seed key
  setCache s ((cacheSet d s).map (fun w => w.map (fun w => if w.key = key then g w else w))) d

def clearWay (key : Bytes) (d : Device) : Device :=
  let s := setOf d.fwl.seed key
  setCache s ((cacheSet d s).map (fun w => match w with
    | some w => if w.key = key then none else some w
    | none => none)) d

/-- Write a way's halves back to conntrack as it leaves the cache (07 R233). -/
def writeBack (w : Way) (d : Device) : Device :=
  match ctFind d w.key with
  | some (i, e) =>
    let late := decide (e.seen.toNat < w.seen.toNat)
    let e := if w.dirtyT then { e with track := w.track } else e
    let e := if late then { e with seen := w.seen } else e
    let d := setCt i e d
    if late then touchOut e true d else d
  | none => d

/-- Evict a way, and with it the other entry of a NAPT flow (07 R229). -/
def evict (w : Way) (d : Device) : Device :=
  let d := if w.filled then writeBack w d else d
  let other := match ctFind d w.key with
    | some (_, e) => (e.link.bind (ctAt d)).map (fun x => x.key)
    | none => none
  let d := match other with
    | some k => (match wayOf d k with
      | some w2 => clearWay k (if w2.filled then writeBack w2 d else d)
      | none => d)
    | none => d
  clearWay w.key d

/-- Position of the least recently used slot (or pair) without a pending frame; empty slots first. -/
def victim (ws : List (Option Way)) (v6 : Bool) : Option Nat :=
  let age (i : Nat) : Option Nat := match ws.getD i none with
    | none => some 0
    | some w => if w.pend then none else some (w.used + 1)
  let cand : List (Nat × Nat) := if v6 then
      [0, 2].filterMap (fun i => match age i, age (i + 1) with
        | some a, some b => some (i, max a b)
        | _, _ => none)
    else (List.range 4).filterMap (fun i => (age i).map (fun a => (i, a)))
  (cand.foldl (fun best x => match best with
    | some b => if x.2 < b.2 then some x else some b
    | none => some x) none).map Prod.fst

/-- Give a key a way, evicting the least recently used that has no pending frame (07 R230). -/
def allocWay (w : Way) (d : Device) : Device :=
  let s := setOf d.fwl.seed w.key
  if bypassed d s then d
  else match victim (cacheSet d s) w.v6 with
  | none => d
  | some i =>
    let old := ((cacheSet d s).getD i none).toList ++
      (if w.v6 then ((cacheSet d s).getD (i + 1) none).toList else [])
    let d := old.foldl (fun d o => evict o d) d
    let w := { w with used := d.fwl.cacheTick }
    let ws := (cacheSet d s).set i (some w)
    let ws := if w.v6 then ws.set (i + 1) (some w) else ws
    setCache s ws { d with fwl := { d.fwl with cacheTick := d.fwl.cacheTick + 1 } }

/-- A bank of the flow cache retires: the ways of the sets it takes part in leave the cache (21 Table FLT-1). (log entry 59: DEDUCED) -/
def bypassBank (b : Nat) (d : Device) : Device :=
  d.fwl.cache.foldl (fun d x => if Config.cacheBank b x.1 then (x.2.filterMap id).foldl (fun d w => evict w d) d else d) d

/-- Delete an entry, its alias or primary with it, from conntrack and cache, and mirror the deletion (07 R226, R241). -/
def ctDelete (i : Nat) (d : Device) : Device :=
  match ctAt d i with
  | none => d
  | some e =>
    let d := ctMirrorOut 2 i d
    let d := clearWay e.key d
    let lk := (e.link.bind (ctAt d)).map (fun x => x.key)
    let d := ctDelete1 i d
    match lk with
    | some k => (match ctFind d k with
      | some (j, _) => ctDelete1 j (clearWay k (ctMirrorOut 2 j d))
      | none => d)
    | none => d

/-! ### TCP (07 R222, R223) -/

/-- Serial comparison a ≤ b of 32-bit sequence numbers. -/
def serialLe (a b : Word) : Bool := !(b - a).msb

/-- What a segment does to its entry. -/
inductive TcpAct where
  | goto (s : CtPhase)
  | stay
  | badState
  | badWindow
  | resetup
  deriving DecidableEq, Repr

/-- TCP flags of a parsed segment. -/
def tcpSyn (l : L4) : Bool := (l.flags / 2) % 2 == 1
def tcpFin (l : L4) : Bool := l.flags % 2 == 1
def tcpRst (l : L4) : Bool := (l.flags / 4) % 2 == 1
def tcpAckF (l : L4) : Bool := (l.flags / 16) % 2 == 1

/-- Table FWL-6, rows in order. `fromI`: from the initiator; `finOther`: the other side has sent a FIN and this one
has not; `inWin`: the segment passes R223. -/
def tcpNext (s : CtPhase) (fromI finOther inWin : Bool) (l : L4) : TcpAct :=
  let syn := tcpSyn l
  let ack := tcpAckF l
  match s with
  | .synSent =>
    if syn && !ack && fromI then .stay
    else if syn && ack && !fromI then .goto .synRecv
    else if syn && !ack then .badState
    else if tcpRst l then .goto .closed
    else .badState
  | .synRecv =>
    if tcpRst l then .goto .closed
    else if syn && ack && !fromI then .stay
    else if ack && !syn && fromI then .goto .established
    else .badState
  | .established =>
    if !inWin then .badWindow
    else if tcpRst l then .goto .closed
    else if tcpFin l then .goto .fin1
    else if !syn then .stay else .badState
  | .fin1 =>
    if !inWin then .badWindow
    else if tcpRst l then .goto .closed
    else if tcpFin l && finOther then .goto .fin2
    else if !syn then .stay else .badState
  | .fin2 =>
    if !inWin then .badWindow
    else if tcpRst l then .goto .closed
    else if ack && !syn then .goto .timeWait
    else if !syn then .stay else .badState
  | .timeWait =>
    if tcpRst l then .goto .closed
    else if syn && !ack && fromI then .resetup
    else if !syn then .stay else .badState
  | .closed => if syn && !ack && fromI then .resetup else .badState
  | _ => .stay

/-- Length of a segment in sequence space. -/
def segLen (ip : IpHdr) : Nat :=
  (ip.totLen - (ip.l4Off - ip.off) - ip.l4.dataOff) + (if tcpSyn ip.l4 then 1 else 0) + (if tcpFin ip.l4 then 1 else 0)

/-- The window scale option of a SYN (07 R223), from the option bytes. -/
def wscaleOpt (b : Bytes) : Nat → Nat → Nat → Nat
  | 0, _, _ => 0
  | n + 1, i, e =>
    if e ≤ i then 0
    else if byteAt b i = 0 then 0
    else if byteAt b i = 1 then wscaleOpt b n (i + 1) e
    else if byteAt b i = 3 then byteAt b (i + 2) % 16
    else if byteAt b (i + 1) < 2 then 0
    else wscaleOpt b n (i + byteAt b (i + 1)) e

/-- Track and state of an entry after a segment from endpoint 2 (`two`) or 1 (07 R222, R223). (log entry 31: DEDUCED) -/
def tcpTrack (b : Bytes) (ip : IpHdr) (two fromI : Bool) (e : Ct) (t : Track) : TcpAct × Ct × Track :=
  let l := ip.l4
  let seqEnd : Word := BitVec.ofNat 32 (l.tcpSeq + segLen ip)
  let ack : Word := BitVec.ofNat 32 l.tcpAck
  let myFin := if two then e.seen8.getLsbD 4 else e.seen8.getLsbD 5
  let otherFin := if two then e.seen8.getLsbD 5 else e.seen8.getLsbD 4
  let relearn := if two then e.seen8.getLsbD 2 else e.seen8.getLsbD 3
  let rightO := if two then t.right1 else t.right2
  let highO := if two then t.high1 else t.high2
  let unknown := e.picked && (if two then e.seen8.getLsbD 3 else e.seen8.getLsbD 2)
  let inWin := relearn || unknown || (serialLe seqEnd rightO && (!tcpAckF l || serialLe ack highO))
  let act := tcpNext e.state fromI (otherFin && !myFin) inWin l
  let ok := match act with | .goto _ => true | .stay => true | _ => false
  if ok then
    let ws : BitVec 4 := BitVec.ofNat 4 (wscaleOpt b 40 (ip.l4Off + 20) (ip.l4Off + l.dataOff))
    let e := if tcpSyn l then (if two then { e with ws2 := ws } else { e with ws1 := ws }) else e
    let scale := if tcpSyn l then 0 else (if two then e.ws2 else e.ws1).toNat
    let right : Word := if tcpAckF l then BitVec.ofNat 32 (l.tcpAck + l.window * 2 ^ scale) else if two then t.right2 else t.right1
    let t := if two then { t with high2 := seqEnd, right2 := right } else { t with high1 := seqEnd, right1 := right }
    let m : BitVec 8 := (if tcpSyn l then (if two then 0x40 else 0x80) else 0) |||
      (if tcpFin l then (if two then 0x10 else 0x20) else 0)
    let clr : BitVec 8 := if two then 0x04 else 0x08
    let e := { e with seen8 := (e.seen8 ||| m) &&& ~~~clr }
    let e := match act with | .goto s => { e with state := s } | _ => e
    (act, e, t)
  else (act, e, t)

/-- After a takeover or a warm reset both endpoints of every TCP entry are learned again; no one reads an entry's RELEARN bits before it is
first touched, so they are set at once (07 R242, R244). (log entry 31: DEDUCED) -/
def relearnAll (t : Tbl Ct) : Tbl Ct :=
  t.map (fun x => (x.1, if x.2.kind = .tcp ∧ !x.2.alias_ then { x.2 with seen8 := x.2.seen8 ||| 0x0C } else x.2))

/-! ### A frame that belongs to an entry -/

/-- What the hook says of a frame: pass with an edit and a next hop that replaces stage P4's, wait in the miss
queue under a key, or be discarded under a code. -/
inductive Hook where
  | pass (nat : Option (Bool × Nat × Option Nat)) (natInner : Option (Nat × Option Nat)) (nh : Option (Bool × Nat))
  | miss (key : Bytes)
  | drop (code : Nat)
  deriving DecidableEq, Repr

/-- Whether an IPv4 packet's layer 4 carries a port or identifier that NAPT rewrites (07 R237). -/
def hasPort (ip : IpHdr) : Bool :=
  ip.proto == 6 || ip.proto == 17 || (ip.proto == 1 && (ip.l4.icmpType == 8 || ip.l4.icmpType == 0))

/-- A non-TCP entry moves on the responder's first frame (07 R224). -/
def otherNext (s : CtPhase) (fromI : Bool) : CtPhase :=
  match s with
  | .oneWay => if fromI then .oneWay else .bothWays
  | .echoReq => if fromI then .echoReq else .echoReplied
  | s => s

/-- Apply a frame to the entry its key found: tracking, state, LAST_SEEN, translation (07 R222 to R224, R230,
R238). `apply = false` computes the verdict alone (08 R261). -/
def useEntry (h : Hdr) (b : Bytes) (swapped : Bool) (i : Nat) (e : Ct) (apply : Bool) (d : Device) : Hook × Device :=
  let pi := if e.alias_ then e.link.getD i else i
  match ctAt d pi with
  | none => (.drop 0x0712, d)
  | some p =>
    let fromI := if e.alias_ then false else swapped == p.dir
    let two := if fromI then p.dir else !p.dir
    let natOut : Option (Bool × Nat × Option Nat) := match h.ip with
      | some ip =>
        if e.alias_ then some (false, e.xaddr, if hasPort ip then some e.xport else none)
        else if p.napt && fromI then some (true, p.xaddr, if hasPort ip then some p.xport else none)
        else none
      | none => none
    let way := wayOf d p.key
    let t := match way with | some w => (if w.filled then w.track else p.track) | none => p.track
    let r : TcpAct × Ct × Track := match p.kind, h.ip with
      | .tcp, some ip => tcpTrack b ip two fromI p t
      | _, _ =>
        let s := otherNext p.state fromI
        (if s = p.state then .stay else .goto s, { p with state := s }, t)
    match r.1 with
    | .badState => (.drop 0x0712, d)
    | .badWindow => (.drop 0x0713, d)
    | .resetup => (.miss e.key, d)
    | _ =>
      let out := Hook.pass natOut none (if e.alias_ then e.nh else none)
      if !apply then (out, d)
      else
        let changed := decide (r.2.1.state ≠ p.state)
        let d := match way with
          | some w =>
            if w.filled then
              let sec := d.fwl.fwSec
              let tick := d.fwl.cacheTick
              let dirty := w.dirtyT || decide (p.kind = .tcp)
              let d := modWay p.key (fun w => { w with seen := sec, track := r.2.2, dirtyT := dirty, used := tick }) d
              { d with fwl := { d.fwl with cacheTick := d.fwl.cacheTick + 1 } }
            else d
          | none => d
        let cached := match way with | some w => w.filled | none => false
        let p' := if changed then { r.2.1 with seen := d.fwl.fwSec } else { r.2.1 with seen := p.seen }
        let p' := if cached then p' else { p' with track := r.2.2, seen := d.fwl.fwSec }
        let d := setCt pi p' d
        (out, if changed then ctMirrorOut 1 pi d else d)

/-! ### Setup of a flow (07 R212, R220, R227, R236, R237) -/

/-- KIND of a new entry. -/
def kindOf (h : Hdr) : CtKind :=
  match h.ip with
  | some ip => if ip.proto = 6 then .tcp else if ip.proto = 17 then .udp
      else if (ip.proto = 1 ∧ !ip.v6) ∨ (ip.proto = 58 ∧ ip.v6) then .icmp else .otherIp
  | none => .l2

def isEcho (ip : IpHdr) : Bool :=
  if ip.v6 then ip.l4.icmpType == 128 || ip.l4.icmpType == 129 else ip.l4.icmpType == 8 || ip.l4.icmpType == 0

/-- First STATE of a new entry (07 R221, R224); an ICMP flow other than echo starts in ONE_WAY. (log entry 88: DESIGN CHOICE) -/
def firstState (h : Hdr) (picked : Bool) : CtPhase :=
  match kindOf h, h.ip with
  | .tcp, _ => if picked then .established else .synSent
  | .icmp, some ip => if isEcho ip then .echoReq else .oneWay
  | _, _ => .oneWay

/-- The NAPT candidates p_k (07 R237). -/
def naptCand (inside k : Nat) : Nat :=
  let p0 := if 1024 ≤ inside then inside else 1024 + inside
  1024 + ((p0 - 1024 + k * 4099) % 64512)

/-- The profile of an entry (07 R225): profile 0 holds the defaults. -/
def profileOf (c : Cfg) (p : BitVec 3) : Profile := if p = 0 then {} else lookupD c.fwl.profiles p.toNat {}

def graceOn (d : Device) : Bool :=
  match d.fwl.graceEnd with
  | some t => decide (d.now < t)
  | none => false

/-- A setup that finds no entry (07 R220). -/
def ctFull (d : Device) : Device :=
  if oncePerSecond d.fwl.lastCtFull d.now then
    raise sqFWL 1 0x0701 0 { d with fwl := { d.fwl with lastCtFull := some d.now } }
  else d

/-- Every NAPT candidate is present (07 R237). -/
def naptExhausted (d : Device) : Device :=
  if oncePerSecond d.fwl.lastNapt d.now then
    raise sqFWL 2 0x0702 0 { d with fwl := { d.fwl with lastNapt := some d.now } }
  else d

/-- Zone of the destination for a CT key: an inside zone for a pool address (07 R216). -/
def ctZoneDst (c : Cfg) (h : Hdr) (zout : Nat) : Nat :=
  match h.ip with
  | some ip => if ip.v6 then zout else
    (match c.fwl.zones.find? (fun x => x.2.naptInside && x.2.pool.any (fun a => a.toNat = ip.dst)) with
     | some x => x.1
     | none => zout)
  | none => zout

/-- Create the entry of a new flow, with its alias for a NAPT flow. Answers the code of a failure. -/
def createFlow (c : Cfg) (v : FlowView) (r : Rule) (picked : Bool) (d : Device) : Option Nat × Device :=
  let t := tupleOf v.h v.zin (ctZoneDst c v.h v.zout)
  let k := ctKeyOf t
  let rel : BitVec 8 := if picked then 0x0C else 0
  let base : Ct :=
    { key := k.1, dir := k.2, picked := picked, kind := kindOf v.h, state := firstState v.h picked, initZone := v.zin,
      respZone := t.zdst, ruleId := r.ruleId, prof := r.toProf, created := d.fwl.fwSec, seen := d.fwl.fwSec,
      seen8 := rel }
  match r.action, v.h.ip with
  | .permitNapt, some ip =>
    let pool := (zoneCfg c v.zin).pool
    let pub := (pool.getD (ip.src % (max 1 pool.length)) 0).toNat
    let cands : List Nat := if hasPort ip then (List.range 8).map (naptCand t.w36) else [t.w36]
    let aliasKey (p : Nat) := ctKeyOf { t with src := pub, w36 := p }
    match cands.find? (fun p => (ctFind d (aliasKey p).1).isNone) with
    | none => (some 0x0718, naptExhausted d)
    | some p =>
      let ak := aliasKey p
      let rt := routeFor c v.zin false ip.src
      let prim := { base with napt := true, xaddr := pub, xport := if hasPort ip then p else 0 }
      let nh := rt.map (fun r => (r.ecmp, r.target))
      let xp := if hasPort ip then t.w36 else 0
      let al := { base with key := ak.1, dir := ak.2, alias_ := true, napt := true, xaddr := ip.src, xport := xp, nh := nh }
      match ctInsert prim d with
      | none => (some 0x0717, ctFull d)
      | some (_, d1) =>
        match ctInsert al d1 with
        | none => (match ctFind d1 prim.key with
            | some (i, _) => (some 0x0717, ctFull (ctDelete1 i d1))
            | none => (some 0x0717, ctFull d1))
        | some (_, d2) =>
          match ctFind d2 prim.key, ctFind d2 al.key with
          | some (i, _), some (j, _) =>
            let d3 := modCt j (fun x => { x with link := some i }) (modCt i (fun x => { x with link := some j }) d2)
            (none, ctMirrorOut 0 j (ctMirrorOut 0 i d3))
          | _, _ => (none, d2)
  | _, _ =>
    match ctInsert base d with
    | none => (some 0x0717, ctFull d)
    | some (i, d1) => (none, ctMirrorOut 0 i d1)

/-- A REJECT answers with a TCP RST or destination-unreachable, at most 1,000 a second (07 Table FWL-3). -/
def sendReject (port : Nat) (b : Bytes) (d : Device) : Device :=
  let sec := d.now / 1000000000000
  let n := if d.fwl.rejectSec = sec then d.fwl.rejectCount else 0
  if n < 1000 then
    emit (.reject port (b.take 128)) { d with fwl := { d.fwl with rejectSec := sec, rejectCount := n + 1 } }
  else { d with fwl := { d.fwl with rejectSec := sec, rejectCount := n } }

/-- LOG of a setup, at most 10,000 a second (07 R212). -/
def sendLog (b : Bytes) (d : Device) : Device :=
  let sec := d.now / 1000000000000
  let n := if d.fwl.logSec = sec then d.fwl.logCount else 0
  if n < 10000 then
    emit (.logSetup (b.take 128)) { d with fwl := { d.fwl with logSec := sec, logCount := n + 1 } }
  else { d with fwl := { d.fwl with logSec := sec, logCount := n } }

/-- The rule walk and setup of a new flow (07 R212, R222, R227, R231). Answers the code under which the frame and
the frames coalesced on it are discarded, or `none` when the entry exists now. -/
def setupFlow (c : Cfg) (port : Nat) (b : Bytes) (v : FlowView) (d : Device) : Option Nat × Device :=
  let tcp := kindOf v.h = .tcp
  let isSyn := match v.h.ip with | some ip => tcpSyn ip.l4 && !tcpAckF ip.l4 | none => false
  let rule := firstRule c.fwl.bank.rules v
  let permits := match rule with
    | some r => r.action = .permit || r.action = .permitNapt
    | none => false
  let pickup := tcp && !isSyn && permits &&
    (match v.h.ip with | some ip => !tcpSyn ip.l4 | none => false) &&
    (graceOn d || (match rule with | some r => (profileOf c r.toProf).pickup | none => false))
  if tcp && !isSyn && !pickup then (some 0x0712, d)
  else
    let tk := takeToken (zoneCfg c v.zin).setupRate d.now (lookup? d.fwl.setupBkt v.zin)
    let d := { d with fwl := { d.fwl with setupBkt := insertAt d.fwl.setupBkt v.zin tk.2 } }
    if !tk.1 then (some 0x0715, d)
    else
      match rule with
      | none => (some 0x0710, d)
      | some r =>
        let d := if r.log then sendLog b d else d
        match r.action with
        | .deny => (some 0x0710, d)
        | .reject => (some 0x0710, sendReject port b d)
        | _ =>
          let res := createFlow c v r pickup d
          match res.1 with
          | some code => (some code, res.2)
          | none =>
            let d := pairCount v.zin v.zout 0 res.2
            let d := if pickup then pairCount v.zin v.zout 6 d else d
            (none, if r.action = .permitNapt then pairCount v.zin v.zout 7 d else d)

/-- Timeout of an entry in seconds (07 R225, Tables FWL-5 and FWL-7). -/
def timeoutOf (c : Cfg) (e : Ct) : Nat :=
  let p := profileOf c e.prof
  match e.state with
  | .synSent | .synRecv => p.tcpSyn
  | .established => p.tcpEst
  | .fin1 | .fin2 | .timeWait => p.tcpClose
  | .closed => 10
  | .oneWay => if e.kind = .udp then p.udpOne else if e.kind = .icmp then p.icmp else p.other
  | .bothWays => if e.kind = .udp then p.udpBoth else if e.kind = .icmp then p.icmp else p.other
  | .echoReq | .echoReplied => p.icmp

end Sys2Proof.Machine
end

