-- ==== Sys2Proof/Machine/MacsecOps.lean ====
section
/-! DEFINITION. The operations of the MACsec engines (08): selection of SecY and receive SC, packet numbers,
lengths. -/

namespace Sys2Proof.Machine

/-- Count a MACsec discard (08 R281). -/
def mscCount (code : Nat) (d : Device) : Device := bump (0x480800 + (code - 0x0810) * 8) d

def txScCtr (n k : Nat) (d : Device) : Device := bump (0x484000 + n * 0x40 + k * 8) d

def rxScCtr (n k : Nat) (d : Device) : Device := bump (0x488000 + n * 0x80 + k * 8) d

/-- SecY counters of a port page wrap at 2^32 (08 R284): held as counters by address. -/
def prtMscCtr (p off : Nat) (d : Device) : Device := bump (0x800000 + p * 0x1000 + off) d

/-- SecYs of a port. -/
def secysOn (c : Cfg) (p : Nat) : List (Nat × SecyCfg) := c.msc.secys.filter (fun x => x.2.port = p)

/-- The SecY of a VID on a port (08 R253). -/
def secyFor (c : Cfg) (p vid : Nat) : Option (Nat × SecyCfg) :=
  (secysOn c p).find? (fun x => match x.2.vids with | none => true | some vs => vs.contains vid)

/-- Whether an EtherType belongs to the uncontrolled port (08 Table MSC-2): EAPOL always. -/
def unctrlType (c : Cfg) (p et : Nat) : Bool :=
  let u := lookupD c.msc.unctrl p {}
  et == 0x888E || (u.gptp && et == 0x88F7) || (u.lldp && et == 0x88CC)

/-- Bytes of protection (08 R256): SecTAG with or without the SCI, and the ICV. -/
def expansion (s : SecyCfg) : Nat := if s.includeSci then 32 else 24

/-- The AN of a SecTAG, its SCI where the SC bit is set, and whether the secure data are encrypted (802.1AE clause 9). -/
def tagAn (t : SecTag) : BitVec 2 := t.tci.setWidth 2
def tagSci (t : SecTag) : Option (BitVec 64) := if t.tci.getLsbD 5 then some t.sci else none
def tagEnc (t : SecTag) : Bool := t.tci.getLsbD 3

/-- Whether a SecTAG breaks clause 9 of 802.1AE-2018 (08 R259): a reserved bit set, an SCI beside ES or SCB, or, once the frame has ended, an SL
that is not 0 and does not match its secure data, or less than 2 bytes of them. `len`: bytes from DA on, `ended`: all have arrived.
(log entry 33: PRESUMED) -/
def badTag (t : SecTag) (len : Nat) (ended : Bool) : Bool :=
  t.tci.getLsbD 7 || decide (64 ≤ t.sl.toNat) || (t.tci.getLsbD 5 && (t.tci.getLsbD 6 || t.tci.getLsbD 4)) ||
    (ended && (decide (len < 14) || (t.sl != 0 && decide (t.sl.toNat + 12 ≠ len))))

/-- The receive SC a SecTAG selects on a port (08 R254). -/
def rxScFor (c : Cfg) (p : Nat) (t : SecTag) : Option (Nat × RxScCfg) :=
  c.msc.rxScs.find? (fun x =>
    (match lookup? c.msc.secys x.2.secy with | some s => decide (s.port = p) | none => false) &&
    (match tagSci t with | some sci => decide (x.2.sci = sci) | none => x.2.defaultRx))

/-- XPN recovery of the high 32 bits (08 Table MSC-1, clause 10.6.2). (log entry 33: PRESUMED) -/
def recoverPn (xpn : Bool) (lowest : Nat) (pn : BitVec 32) : Nat :=
  if !xpn then pn.toNat
  else
    let hi := lowest / 4294967296
    let lo := lowest % 4294967296
    if 2147483648 ≤ lo ∧ pn.toNat < 2147483648 then (hi + 1) * 4294967296 + pn.toNat else hi * 4294967296 + pn.toNat

def rxSas (d : Device) (sc : Nat) : List RxSa := lookupD d.msc.rx sc []

def rxSaOf (d : Device) (sc : Nat) (an : BitVec 2) : Option RxSa := (rxSas d sc).find? (fun a => a.an = an)

def setRxSas (sc : Nat) (l : List RxSa) (d : Device) : Device :=
  { d with msc := { d.msc with rx := if l = [] then removeAt d.msc.rx sc else insertAt d.msc.rx sc l } }

def txScOf (d : Device) (n : Nat) : TxSc := lookupD d.msc.tx n {}

def setTxSc (n : Nat) (x : TxSc) (d : Device) : Device := { d with msc := { d.msc with tx := insertAt d.msc.tx n x } }

/-- The encoding SA of a transmit SC. -/
def encSa (x : TxSc) : Option TxSa := x.enc.bind (fun an => x.sas.find? (fun a => a.an = an))

def modSa (x : TxSc) (an : BitVec 2) (g : TxSa → TxSa) : TxSc :=
  { x with sas := x.sas.map (fun a => if a.an = an then g a else a) }

/-- What ingress MACsec makes of a frame when its header enters arbitration (08 R254, R255, R259, R267): the
discard with its code and the device counted, or the frame's MACsec side. (log entry 33: PRESUMED) -/
def macIngress (c : Cfg) (p : Nat) (f : Frame) (h : Hdr) (d : Device) : (Option Nat × MacIn) × Device :=
  let clearVid := match h.tag1 with
    | some t => if t.vid = 0 then (cfgPort c p).pvid.toNat else t.vid
    | none => (cfgPort c p).pvid.toNat
  match f.tag with
  | some t =>
    if badTag t f.bytes.length f.ended then ((some 0x0814, .clear), prtMscCtr p 0x508 (mscCount 0x0814 d))
    else
      match rxScFor c p t with
      | none => ((some 0x0812, .clear), prtMscCtr p 0x50C (mscCount 0x0812 d))
      | some (sc, rc) =>
        match rxSaOf d sc (tagAn t) with
        | none => ((some 0x0812, .clear), rxScCtr sc 3 (mscCount 0x0812 d))
        | some sa =>
          let sy := lookupD c.msc.secys rc.secy { port := p }
          let pn := recoverPn sy.xpn sa.lowest t.pn
          if pn < sa.lowest then ((some 0x0811, .clear), rxScCtr sc 5 (mscCount 0x0811 d))
          else
            let inVids := match sy.vids with | none => true | some vs => vs.contains clearVid
            if !inVids then ((some 0x0819, .clear), rxScCtr sc 12 (mscCount 0x0819 d))
            else ((none, .pending sc (tagAn t) pn), d)
  | none =>
    if (secysOn c p).isEmpty || (portSt d p).clearMode then ((none, .clear), d)
    else if unctrlType c p h.etherType then ((none, .uncontrolled), prtMscCtr p 0x514 d)
    else
      match secyFor c p clearVid with
      | some (_, sy) =>
        if sy.validate = .strict then ((some 0x0813, .clear), prtMscCtr p 0x504 (mscCount 0x0813 d))
        else ((none, .clear), prtMscCtr p 0x500 d)
      | none => ((some 0x0813, .clear), prtMscCtr p 0x504 (mscCount 0x0813 d))

/-- What egress MACsec makes of a copy (08 R253, R257, R264, R265, R274). -/
inductive MacOut where
  | clear
  | protect (s : TxSec)
  | discard (code : Nat)
  | stall
  deriving DecidableEq, Repr

/-- Take the PN of a copy's frame as its encryption starts (08 R264 to R266, R274). -/
def takePn (n : Nat) (sy : SecyCfg) (x : TxSc) (sa : TxSa) (d : Device) : MacOut × Device :=
  if sa.spring ∧ sa.ckpt + 33554432 ≤ sa.pn then
    if x.stalled then (.stall, d) else (.stall, raise sqMSC 7 0x0808 n (setTxSc n { x with stalled := true } d))
  else
    let soft := !sa.softDone && decide (sy.soft ≤ sa.pn)
    let mark (a : TxSa) : Option Nat := if a.spring ∧ (a.pn + 1) % 16777216 = 0 then some (a.pn + 1) else a.ckptPend
    let x' := modSa x sa.an (fun a => { a with pn := a.pn + 1, softDone := a.softDone || soft, ckptPend := mark a })
    let d := setTxSc n x' d
    let d := if soft then raise sqMSC 0 0x0801 n d else d
    -- without MKA every session is told (08 R264)
    let d := if soft && !sa.mka then noticeRest 0x0801 n d else d
    (.protect { n := n, pn := sa.pn, an := sa.an, key := sa.key, ssci := sa.ssci, salt := sa.salt }, d)

/-- The SCI of a SecY: by default the port's MAC address, then the port number + 1 (08 Table MSC-2). -/
def sciOf (c : Cfg) (s : SecyCfg) : Nat :=
  match s.sci with
  | some v => v.toNat
  | none => (cfgPort c s.port).mac.toNat * 65536 + (s.port + 1)

/-- Bytes of the secure data that stay in clear (08 Table MSC-1). -/
def clearBytes (s : SecyCfg) (n : Nat) : Nat :=
  match s.conf with | .offset0 => 0 | .offset30 => min 30 n | .offset50 => min 50 n | .integrity => n

/-- The bytes of a copy on a wire, from DA to the last one before the FCS: under MACsec its addresses, the SecTAG, the secure data and the ICV
(08 R253, R256, Table MSC-1; the fields' places and the IVs as 802.1AE gives them). (log entry 33: PRESUMED) -/
def wireBytes (c : Cfg) (sec : Option TxSec) (b : Bytes) : Bytes :=
  match sec with
  | none => b
  | some t =>
    let s := lookupD c.msc.secys t.n { port := 0 }
    let data := b.drop 12
    let sci := sciOf c s
    let tci := bitN s.includeSci * 32 + (if s.conf = .integrity then 0 else 12) + t.an.toNat
    let tag := toBe 2 0x88E5 ++ toBe 1 tci ++ toBe 1 (if data.length < 48 then data.length else 0) ++ toBe 4 t.pn ++ (if s.includeSci then toBe 8 sci else [])
    let iv := if s.xpn then Nat.xor (t.ssci.toNat * 18446744073709551616 + t.pn) t.salt else sci * 4294967296 + t.pn
    let k := clearBytes s data.length
    let aad := b.take 12 ++ tag ++ data.take k
    aad ++ toBe (data.length - k) (Config.gcmText t.key iv aad (data.drop k)) ++ toBe 16 (Config.gcmIcv t.key iv aad (data.drop k))

/-- Egress MACsec of a copy (08 R253, R257, R264, R265). -/
def macEgress (c : Cfg) (p vid et len : Nat) (own : Bool) (d : Device) : MacOut × Device :=
  if (secysOn c p).isEmpty || (portSt d p).clearMode then (.clear, d)
  else if own && unctrlType c p et then (.clear, d)
  else
    match secyFor c p vid with
    | none => (.discard 0x0812, prtMscCtr p 0x510 (mscCount 0x0812 d))
    | some (n, sy) =>
      if 9216 < len + expansion sy then (.discard 0x0815, txScCtr n 4 (mscCount 0x0815 d))
      else
        let x := txScOf d n
        match encSa x with
        | none => (.discard 0x0816, txScCtr n 6 (mscCount 0x0816 d))
        | some sa =>
          if x.stopped then (.discard 0x0816, txScCtr n 6 (mscCount 0x0816 d))
          else if sy.hard < sa.pn then
            match sy.autoSwitch, x.sas.find? (fun a => decide (a.an ≠ sa.an) && decide (a.pn ≤ sy.hard)) with
            | true, some other =>
              let x := { x with enc := some other.an }
              takePn n sy x other (txScCtr n 5 (setTxSc n x d))
            | _, _ =>
              let d := raise sqMSC 1 0x0802 n (setTxSc n { x with stopped := true } d)
              (.discard 0x0816, txScCtr n 6 (mscCount 0x0816 d))
          else takePn n sy x sa d

end Sys2Proof.Machine
end

