-- ==== Sys2Proof/Machine/Pipeline.lean ====
section
/-! DEFINITION. The decision on one frame in the order of Table FWD-6 (02 R55), with the queue and buffer
admission of 03 R83. -/

namespace Sys2Proof.Machine

/-! ### Frame facts -/

/-- The frame's priority (02 R38, R44): PCP of the outer tag, or the port's default priority. What the gateway injects
takes the class GW_TC of its source (12 R359). (log entry 38: DESIGN CHOICE) -/
def framePrio (c : Cfg) (p : Nat) (h : Hdr) : Nat :=
  if 26 ≤ p ∧ p < 36 then lookupD c.gw.tc p 0
  else match h.tag1 with
  | some t => t.pcp
  | none => (cfgPort c p).defPrio.toNat

/-- VID after ingress VLAN processing (02 R44). -/
def ingressVid (c : Cfg) (p : Nat) (h : Hdr) : Nat :=
  match h.tag1 with
  | some t => if t.vid = 0 then (cfgPort c p).pvid.toNat else t.vid
  | none => (cfgPort c p).pvid.toNat

/-- Express: the priority maps to a Scheduled queue of the port (02 R38). -/
def isExpress (c : Cfg) (p : Nat) (h : Hdr) : Bool :=
  decide ((queueCfg c (p * 8 + tcOf c p (framePrio c p h))).cls = .scheduled)

/-- A field that is compared equals the frame's; one that is not matches every frame. (log entry 12: DESIGN CHOICE) -/
def cares (x : Option Nat) (v : Nat) : Bool := match x with | none => true | some y => decide (y = v)

/-- IP Stream identification (IEEE 802.1CB clause 6.7): a fragment other than the first shows no ports (02 R46). (log entry 12: DESIGN CHOICE) -/
def ipMatches (m : IpMatch) (h : Hdr) (vid : Nat) : Bool :=
  match h.ip with
  | some ip => cares (m.da.map (·.toNat)) h.da && cares (m.vid.map (·.toNat)) vid && decide (ip.v6 = m.v6) && decide (ip.dst = m.dst) &&
      cares m.src ip.src && cares m.dscp ip.dscp && cares m.proto ip.proto &&
      (m.sport.isNone && m.dport.isNone || decide (ip.fragOff = 0) && cares m.sport ip.l4.sport && cares m.dport ip.l4.dport)
  | none => false

/-- The first stream entry a frame matches (02 R46). (log entry 12: DESIGN CHOICE) -/
def streamFor (c : Cfg) (h : Hdr) (vid : Nat) : Option (Nat × StreamCfg) :=
  c.sch.streams.find? (fun x =>
    let inVlan (v : Option (BitVec 12)) : Bool := cares (v.map (·.toNat)) vid
    match x.2.ident with
    | .null da v => decide (h.da = da.toNat) && inVlan v
    | .source sa v => decide (h.sa = sa.toNat) && inVlan v
    | .activeDest da v _ _ => decide (h.da = da.toNat) && inVlan v
    | .ip m => ipMatches m h vid)

/-- Trapped to CP at step 3 of Table FWD-6. -/
def isLinkLocal (h : Hdr) : Bool :=
  decide (0x0180C2000000 ≤ h.da ∧ h.da ≤ 0x0180C200000F) ||
  h.etherType == 0x88F7 || h.etherType == 0x88CC || h.etherType == 0x0806

def isGroup (mac : Nat) : Bool := (mac / 1099511627776) % 2 == 1

/-- The frame is addressed to the device itself. (log entry 11: DEDUCED) -/
def isOwnMac (c : Cfg) (p : Nat) (h : Hdr) : Bool :=
  let m := if 26 ≤ p ∧ p < 36 then c.gw.mac.toNat else (cfgPort c p).mac.toNat
  decide (m ≠ 0 ∧ h.da = m)

/-- Key of a forwarding database entry (02 R47). (log entry 10: DESIGN CHOICE) -/
def fdbKey (fid mac : Nat) : Nat := fid * 281474976710656 + mac

/-- Destination port of a gateway address 02-00-00-C0-00-pp (12 R357), whose static entries Renioft installs. -/
def gwPort (mac : Nat) : Option Nat :=
  let p := mac % 256
  if mac / 256 = 0x020000C000 ∧ 26 ≤ p ∧ p ≤ 36 then some p else none

/-- Static entries of an address (02 R47); several for a group address. -/
def staticFor (c : Cfg) (fid mac : Nat) : List FdbStatic :=
  c.fwd.staticFdb.filter (fun x => decide (x.fid.toNat = fid ∧ x.mac.toNat = mac))

/-- Lookup in the forwarding database: static entries of the configuration, then learned ones that are 16 clocks
old (02 R47); with the host queue that the entry names (17 R490). (log entry 10: DESIGN CHOICE) -/
def fdbLookup (c : Cfg) (d : Device) (fid mac : Nat) : Option (Nat × Option Nat) :=
  match gwPort mac, (staticFor c fid mac).head? with
  | some p, _ => some (p, none)
  | none, some x => some (x.port, x.hostQ)
  | none, none => match lookup? d.fwd.fdb (fdbKey fid mac) with
    | some e => if e.created + 12800 ≤ d.now then some (e.port, none) else none
    | none => none

/-- Learn a source address (02 R47): a known address moves to its new port; without a free entry FDB_FULL. (log entry 10: DESIGN CHOICE) -/
def learn (fid mac port : Nat) (c : Cfg) (d : Device) : Device :=
  if isGroup mac || (gwPort mac).isSome || !(staticFor c fid mac).isEmpty then d
  else
    let k := fdbKey fid mac
    match lookup? d.fwd.fdb k with
    | some e =>
      let e' : FdbEntry := if e.port = port then { e with seen := d.now } else { e with port := port, seen := d.now }
      { d with fwd := { d.fwd with fdb := insertAt d.fwd.fdb k e' } }
    | none =>
      if d.fwd.fdb.length + c.fwd.staticFdb.length < 131072 then
        { d with fwd := { d.fwd with fdb := insertAt d.fwd.fdb k { port := port, created := d.now, seen := d.now } } }
      else raiseBit sqFWD 6 d

/-! ### Link groups (02 R51 to R54) -/

/-- H[31:24] of a flow key (02 R51). -/
def hashIndex (seed : Word) (key : Bytes) : Nat := ((crc32c key) ^^^ seed).toNat / 16777216

/-- The indirection table a frame sees (02 R66): the live one, unless a commit has rewritten the group since the frame's epoch. -/
def lgTable (d : Device) (c : Cfg) (g : Nat) : Tbl Nat :=
  match lookup? d.fwd.lg g, decide (lookup? c.fwd.groups g = lookup? d.cfg.fwd.groups g) with
  | some t, true => t
  | _, _ => (lookupD c.fwd.groups g {}).table

/-- Select a member (02 R51): the entry, and its member when V = 1. -/
def lgSelect (d : Device) (c : Cfg) (g : Nat) (key : Bytes) : Nat × Option Nat :=
  let i := hashIndex c.fwd.hashSeed key
  (i, lookup? (lgTable d c g) i)

def noteSelect (g i : Nat) (d : Device) : Device :=
  { d with fwd := { d.fwd with lastSel := insertAt d.fwd.lastSel (g * 256 + i) d.now } }

/-- The aggregation group a port belongs to. -/
def groupOfPort (c : Cfg) (p : Nat) : Option Nat :=
  (c.fwd.groups.find? (fun x => !x.2.ecmp && x.2.members.contains p)).map Prod.fst

/-! ### Meters (02 R50) -/

/-- The two-rate three-colour marker of RFC 2698 over `bits`: the colour and the buckets after. -/
def markMeter (m : MeterCfg) (st : Option MeterState) (now bits : Nat) (inC : Colour) : Colour × MeterState :=
  let capC := m.cbs * 8000000000
  let capP := m.pbs * 8000000000
  let s : MeterState := match st with
    | none => { tc := capC, tp := capP, at_ := now }
    | some s => { tc := min capC (s.tc + m.cir * (now - s.at_)), tp := min capP (s.tp + m.pir * (now - s.at_)), at_ := now }
  let need := bits * 1000000000
  let inC := if m.colourAware then inC else .green
  if inC = .red ∨ s.tp < need then (.red, s)
  else if inC = .yellow ∨ s.tc < need then (.yellow, { s with tp := s.tp - need })
  else (.green, { s with tp := s.tp - need, tc := s.tc - need })

/-- Run a meter of the pool; true when the frame is discarded as red. -/
def runMeter (c : Cfg) (n bits : Nat) (col : Colour) (d : Device) : Colour × Bool × Device :=
  match lookup? c.fwd.meters n with
  | none => (col, false, d)
  | some m =>
    let r := markMeter m (lookup? d.fwd.meters n) d.now bits col
    let d := { d with fwd := { d.fwd with meters := insertAt d.fwd.meters n r.2 } }
    (r.1, m.dropRed && decide (r.1 = .red), d)

/-! ### Cut-through stomps and discards -/

/-- End every cut-through copy of a frame with an invalid FCS, and count it (02 R58). -/
def stomp (id : Nat) (d : Device) : Device :=
  match frameOf d id with
  | none => d
  | some f =>
    if f.stomp then d
    else raiseBit sqFWD 2 (countCode 0x021A f.port (modFrame id (fun f => { f with stomp := true }) d))

/-- Take a frame's queued copies out of every queue that `where_` names; those being sent go on. -/
def removeFrom (where_ : Nat → Bool) (id : Nat) (d : Device) : Device :=
  ((d.buf.queues.map Prod.fst).filter where_).foldl (fun d q =>
    let r := takeOut q (fun c => decide (c.frame = id)) d
    r.1.foldl (fun d c => copyGone (queuePort q) c false (!c.written) d) r.2) d

/-- Remove every copy of a frame that is still queued and was not started. -/
def removeQueued (id : Nat) (d : Device) : Device := removeFrom (fun _ => true) id d

/-! ### Queue admission (03 R83) -/

/-- Descriptors a Scheduled stream holds on a port, until its copies have been transmitted (03 R70). -/
def streamDescUsed (d : Device) (h p : Nat) : Nat :=
  let own (l : List Copy) : Nat := (l.filter (fun c => decide (c.stream = some h))).length
  ((portQueues p).map (fun q => own (queueOf d q).copies)).sum + own (sending (portSt d p))

/-- The early-drop threshold P of a copy (03 R86), with A in 16 fractional bits. (log entry 19: DESIGN CHOICE) -/
def dropP (pr : RedProfile) (a : Nat) : Nat :=
  let lo := pr.minTh * 65536
  if a < lo then 0
  else if pr.maxTh * 65536 ≤ a then 65536
  else (pr.maxP.toNat + 1) * (a - lo) * 65536 / (256 * (pr.maxTh - pr.minTh) * 65536)

/-- D of a queue with the arriving copy, in 16 fractional bits (03 R85). -/
def depthWith (d : Device) (q : Nat) (c : Copy) : Nat := (depth d q + copyCells d c) * 65536

/-- The peak depth of a queue (03 Table BUF-9, counter 13). -/
def notePeak (q : Nat) (d : Device) : Device :=
  let dep := depth d q
  if (counter (queueCtr q 13) d).toNat < dep then setCounter (queueCtr q 13) (BitVec.ofNat 64 dep) d else d

/-- Link a copy at the on-chip tail or the spill section (03 R83 check 5, R91, R94); it takes a descriptor (03 R70). -/
def linkCopy (cfg : Cfg) (q : Nat) (c : Copy) (d : Device) : Device :=
  let d := bringQueue q d
  let x := queueOf d q
  let qc := queueCfg cfg q
  let desc := takeIndex d.buf.descFree d.buf.descNext
  let c := { c with desc := desc.1 }
  let d := { d with buf := { d.buf with descFree := desc.2.1, descNext := desc.2.2 } }
  let enter := decide (qc.cls = .bulk) && d.buf.spillReady && !x.inSpill && !d.buf.spillFull &&
    decide (qc.spillOn ≤ chipDepth d q)
  let x := if enter then { x with inSpill := true } else x
  let x := if x.inSpill then { x with spill := x.spill ++ [c] } else { x with copies := x.copies ++ [c] }
  -- the bytes of a frame that has not ended count as they arrive
  let len := match frameOf d c.frame with | some f => (if f.ended then storedLen f else f.bytes.length) | none => 0
  let d := setQueue q x d
  let d := modFrame c.frame (fun f => { f with
    refs := f.refs + 1, chip := f.chip + 1, late := if f.ended then f.late else q :: f.late }) d
  reviewAll (notePeak q (bumpBy (queueCtr q 1) len (bump (queueCtr q 0) d)))

/-- A copy is discarded at step 13 under a counter of its queue; a requested timestamp is answered DROPPED (04 R130). -/
def refuseCopy (q k : Nat) (c : Copy) (d : Device) : Device :=
  let d := bump (queueCtr q k) d
  match c.txId with
  | some id => pushTxts (queuePort q) (stampNone d) id 1 d
  | none => d

/-- The port is disabled; its link, or the path of the Wyusin link, is down (03 R83 check 1). -/
def portOff (d : Device) (p : Nat) : Bool := !(portCfg d p).enabled
def portDown (d : Device) (p : Nat) : Bool := isEth p && !(portSt d p).linkUp || decide (p = 37) && !d.pair.wyUp

/-- Queue and buffer admission of one copy (03 R83) under the configuration of its frame; check 1 looks at the port as it is now
(03 Table BUF-6). Answers whether the copy was admitted. (log entry 19: DESIGN CHOICE) -/
def admitCopy (cfg : Cfg) (q : Nat) (c : Copy) (d : Device) : Bool × Device :=
  let p := queuePort q
  let qc := queueCfg cfg q
  let refuse (k : Nat) (d : Device) : Bool × Device := (false, refuseCopy q k c d)
  if portOff d p then refuse 8 d
  else if portDown d p && decide (qc.cls ≠ .assured) then refuse 9 d
  else
    match qc.cls with
    | .scheduled =>
      (match c.stream with
       | none => refuse 15 (raiseBit sqBUF 2 d)
       | some h =>
         let r := lookupD d.sch.resv h {}
         if lookupD d.buf.resvCells h 0 ≤ r.cells ∧ streamDescUsed d h p < lookupD r.desc p 0 then
           (true, linkCopy cfg q c d)
         else refuse 15 (raiseBit sqBUF 2 d))
    | .assured | .reserved => (true, linkCopy cfg q c d)
    | _ =>
      if qc.qlimit ≤ depth d q then refuse 6 d
      else
        let x := queueOf d q
        let a := x.avg.getD (depthWith d q c)
        let d := setQueue q { x with avg := some a } d
        match qc.profiles with
        | none => (true, linkCopy cfg q c d)
        | some (g, y, r) =>
          let pr := match c.colour with | .green => g | .yellow => y | .red => r
          let k := match c.colour with | .green => 3 | .yellow => 4 | .red => 5
          let u := drawFree 65536 d
          if u.1 < dropP pr a then refuse k u.2 else (true, linkCopy cfg q c u.2)

/-- The tag edit of a copy (02 R44); `prio` is the priority of the ingress. Ports without a wire take the frame as it is. -/
def tagEdit (c : Cfg) (h : Hdr) (prio : Nat) (col : Colour) (p vid : Nat) : TagEdit :=
  if !isEth p then .keep
  else if (cfgPort c p).untag.contains vid then (if h.tag1.isSome then .strip else .keep)
  else match h.tag1 with
    | none => .push (cfgPort c p).svlan prio (decide (col ≠ .green)) vid
    | some t => if t.vid = vid then .keep else .setVid vid

/-- Queue of a copy on a port (03 R72, 17 R490). -/
def queueFor (c : Cfg) (p prio : Nat) (hostQ : Option Nat) : Nat := egressQueue p (tcOf c p prio) hostQ

/-- Cut through only under all conditions of 02 R56. -/
def cutsThrough (c : Cfg) (f : Frame) (cls : DClass) (p : Nat) : Bool :=
  decide (cls = .scheduled) && f.express && decide (f.port ≠ 37) && isEth p &&
  decide ((cfgPort c p).rate ≤ (cfgPort c f.port).rate)

/-! ### Step 7: per-stream filtering and policing (05 R155 to R158) -/

def setStream (hd : Nat) (x : StreamState) (d : Device) : Device :=
  { d with sch := { d.sch with streams := insertAt d.sch.streams hd x } }

/-- A frame over its filter's maximum SDU: a filter with StreamBlockedDueToOversizeFrame blocks its stream (05 R156). -/
def oversize (hd : Nat) (c : Cfg) (d : Device) : Device :=
  let d := bump (codeKey 0x0530 0) d
  match lookup? c.sch.streams hd with
  | some sc => if sc.filter.blockOversize then
      raise sqSCH 7 0x0508 hd (setStream hd { lookupD d.sch.streams hd {} with blocked := true } d) else d
  | none => d

/-- FRAMES per cycle of a Scheduled stream (05 R158), in the cycle of the list of its first egress port. (log entry 72: DESIGN CHOICE) -/
def framesCheck (c : Cfg) (hd : Nat) (sc : StreamCfg) (d : Device) : Bool × Device :=
  if sc.cls ≠ .scheduled then (true, d)
  else match sc.egress.head?.bind (fun p => lookup? c.sch.lists p) with
    | none => (true, d)
    | some g =>
      let cyc := cycleIdx g (localNs d)
      let st := lookupD d.sch.streams hd {}
      let n := if st.cycle = cyc then st.count else 0
      if n < sc.frames then (true, setStream hd { st with cycle := cyc, count := n + 1 } d)
      else (false, setStream hd { st with cycle := cyc, count := n } d)

/-- The stream gate of a filter: whether the frame passes, and the priority it takes. A gate that InvalidRx or OctetsExceeded has closed stays
so until a commit changes it; octets count in each entry. (log entry 71: DESIGN CHOICE) -/
def streamGate (c : Cfg) (gi len prio : Nat) (d : Device) : (Bool × Nat) × Device :=
  let gc := lookupD c.sch.gates gi {}
  let gs := lookupD d.sch.psfp gi {}
  let en := gc.entries.getD gs.entry (true, none, 0)
  let isOpen := en.1 && !gs.closed
  let tooMany := gc.closeOctets && decide (gc.maxOctets < gs.octets + len)
  let gs' := if !isOpen then { gs with closed := gs.closed || gc.closeInvalidRx }
    else if tooMany then { gs with closed := true }
    else { gs with octets := gs.octets + len }
  ((isOpen && !tooMany, match en.2.1 with | some v => v.toNat | none => prio),
    { d with sch := { d.sch with psfp := insertAt d.sch.psfp gi gs' } })

/-- Step 7 for a frame with a stream handle (05 R155 to R158): a discard code, or pass with the priority value that its gate gives. A frame
whose priority the filter does not name meets neither filter, gate nor meter. The flow meter of a frame that has not ended takes it at
step 11. (log entry 9: DESIGN CHOICE) -/
def psfp (c : Cfg) (hd : Nat) (sc : StreamCfg) (f : Frame) (col : Colour) (prio : Nat) (d : Device) :
    (Option Nat × Nat × Colour) × Device :=
  let frames (v : Nat) (col : Colour) (d : Device) : (Option Nat × Nat × Colour) × Device :=
    let r := framesCheck c hd sc d
    ((if r.1 then none else some 0x0534, v, col), r.2)
  if (lookupD d.sch.streams hd {}).blocked then ((some 0x0533, prio, col), d)
  else if (match sc.filter.prio with | some p => decide (p.toNat ≠ prio) | none => false) then frames prio col d
  else if sc.filter.maxSdu < storedLen f then ((some 0x0530, prio, col), oversize hd c d)
  else
    let gate : (Bool × Nat) × Device := match sc.filter.gate with
      | none => ((true, prio), d)
      | some gi => streamGate c gi (storedLen f) prio d
    if !gate.1.1 then ((some 0x0531, prio, col), gate.2)
    else
      let m : Colour × Bool × Device := match sc.filter.meter with
        | some n => if f.ended then runMeter c n (storedLen f * 8) col gate.2 else (col, false, gate.2)
        | none => (col, false, gate.2)
      if m.2.1 then ((some 0x0532, prio, col), m.2.2) else frames gate.1.2 m.1 m.2.2

/-! ### Step 9: where the frame goes -/

/-- The result of step 9: a decision, a trap to CP, or a discard with its code, whether CP gets a copy (02 R49), and where the frame would
have gone as (port, VID). -/
inductive Route9 where
  | go (x : Decision)
  | bad (code : Nat) (icmp : Bool) (dest : List (Nat × Nat))
  deriving DecidableEq, Repr

/-- The (port, VID) pairs that a frame goes to, or would have. -/
def Route9.dests : Route9 → List (Nat × Nat)
  | .go x => x.copies.map (fun cp => (cp.1, cp.2.1))
  | .bad _ _ dest => dest

/-- Whether a copy may leave on a port in a VLAN: configured, a member, not blocking (02 R44). -/
def canSend (c : Cfg) (p vid : Nat) : Bool :=
  let pc := cfgPort c p
  pc.configured && pc.vids.contains vid && !pc.blocked.contains vid

/-- A group or flooded frame that PL brings from the partner never leaves on BB0 or BB1 (09 R287). -/
def crossesLine (src p : Nat) : Bool := decide (src = 37) && decide (p < 2)

/-- The ports a flooded frame leaves on: one member of each aggregation group (02 R46, R51). -/
def floodPorts (d : Device) (c : Cfg) (src vid : Nat) (key : Bytes) : List Nat :=
  (List.range 38).filter (fun p =>
    decide (p ≠ src) && canSend c p vid && !(portSt d p).loopBlock && !crossesLine src p &&
    match groupOfPort c p with
    | none => true
    | some g => decide (groupOfPort c src ≠ some g) && decide ((lgSelect d c g key).2 = some p))

/-- Whether a routed frame must stop at its next hop: TTL, then the MTU of the port (02 R48, R49). -/
def hopStop (c : Cfg) (ip : IpHdr) (nh : NextHop) : Option (Nat × Bool) :=
  if ip.ttl ≤ 1 then some (0x0216, true)
  else if (cfgPort c nh.port).mtu < ip.totLen then some (0x0217, ip.v6 || ip.df)
  else none

/-- The edit of a copy routed to a next hop (02 R48). -/
def hopEdit (c : Cfg) (h : Hdr) (prio : Nat) (col : Colour) (nh : NextHop) : Edit :=
  { da := some nh.mac.toNat, sa := some (cfgPort c nh.port).mac.toNat, decTtl := true, tag := tagEdit c h prio col nh.port nh.vid.toNat }

/-- Forwarding database or route lookup, or the egress set of the stream entry (02 R46 to R49). (log entry 11: DEDUCED) -/
def lookup9 (c : Cfg) (d : Device) (f : Frame) (h : Hdr) (vid zin prio : Nat) (col : Colour)
    (stream : Option (Nat × StreamCfg)) : Route9 :=
  let base : Decision := { zin := zin, vid := vid, prio := prio, inPrio := prio, colour := col }
  let key := flowKey h vid
  match stream with
  | some (_, sc) =>
    let (da, ov) : Option Nat × Nat := match sc.ident with
      | .activeDest _ _ nd nv => (some nd.toNat, nv.toNat)
      | _ => (none, vid)
    .go { base with hostQ := sc.hostQ, copies := sc.egress.map (fun p => (p, ov, { da := da, tag := tagEdit c h prio col p ov })) }
  | none =>
    if isOwnMac c f.port h then
      match h.ip with
      | none => .go { base with copies := [(36, vid, {})] }
      | some ip =>
        match routeFor c zin ip.v6 ip.dst with
        | none => .bad 0x0215 false []
        | some r =>
          let ecmp := if r.ecmp then some r.target else none
          let hop : Option Nat := if r.ecmp then (lgSelect d c r.target key).2 else some r.target
          match hop.bind (fun n => lookup? c.fwd.nextHops n) with
          | none => if ip.ttl ≤ 1 then .bad 0x0216 true [] else .go { base with routed := true, ecmp := ecmp, copies := [] }
          | some nh =>
            match hopStop c ip nh with
            | some (code, icmp) => .bad code icmp [(nh.port, nh.vid.toNat)]
            | none =>
              .go { base with routed := true, ecmp := ecmp, hostQ := nh.hostQ,
                              copies := [(nh.port, nh.vid.toNat, hopEdit c h prio col nh)] }
    else
      let mk (p : Nat) : Nat × Nat × Edit := (p, vid, { tag := tagEdit c h prio col p vid })
      -- a port without a wire takes what a static entry sends there
      let may (p : Nat) : Bool := decide (p ≠ f.port) && (canSend c p vid || (decide (25 ≤ p) && decide (p < 37))) && !(portSt d p).loopBlock
      let st := staticFor c vid h.da
      if isGroup h.da && !st.isEmpty then
        .go { base with multi := true, hostQ := (st.find? (fun x => decide (x.port = 25))).bind (·.hostQ),
                        copies := ((st.map (·.port)).filter (fun p => may p && !crossesLine f.port p)).map mk }
      else if isGroup h.da then
        .go { base with multi := true, copies := (floodPorts d c f.port vid key).map mk }
      else match fdbLookup c d vid h.da with
        | some (p, hq) => .go { base with hostQ := hq, copies := if may p then [mk p] else [] }
        | none => .go { base with multi := true, copies := (floodPorts d c f.port vid key).map mk }

/-! ### Step 10: the firewall verdict (07 R209) -/

/-- Fragment table key (07 R228). (log entry 15: DESIGN CHOICE) -/
def fragKey (ip : IpHdr) (zin zout : Nat) : Bytes :=
  [BitVec.ofNat 8 zin, BitVec.ofNat 8 zout, BitVec.ofNat 8 ip.proto] ++ toBe 16 ip.src ++ toBe 16 ip.dst ++ toBe 4 ip.ident

/-- Record or refresh the fragment entry of a first fragment that passed (07 R228). -/
def putFrag (x : Frag) (d : Device) : Device :=
  { d with fwl := { d.fwl with frags := d.fwl.frags.filter (fun y => y.key ≠ x.key) ++ [{ x with last := d.now }] } }

/-- A frame enters the miss queue, or is discarded (07 R230, R231); a hit on a PEND way enters like a miss. (log entry 89: DESIGN CHOICE) -/
def enterMiss (c : Cfg) (id : Nat) (key : Bytes) (v6 : Bool) (zin zout : Nat) (d : Device) : Option Nat × Device :=
  let tk := takeToken (zoneCfg c zin).missRate d.now (lookup? d.fwl.missBkt zin)
  let d := { d with fwl := { d.fwl with missBkt := insertAt d.fwl.missBkt zin tk.2 } }
  let d := pairCount zin zout 5 d
  if !tk.1 then (some 0x0714, d)
  else if 8192 ≤ d.fwl.missQ.length then
    let d := if oncePerSecond d.fwl.lastMissSat d.now then
      raise sqFWL 3 0x0703 0 { d with fwl := { d.fwl with lastMissSat := some d.now } } else d
    (some 0x0716, d)
  else
    let d := if (wayOf d key).isSome then modWay key (fun w => { w with pend := true }) d
      else allocWay { key := key, v6 := v6 } d
    (none, { d with fwl := { d.fwl with missQ := d.fwl.missQ ++ [(id, key)] } })

/-- The CT key of a frame, DIR of the source, and the tuple of an embedded header for an ICMP error. (log entry 15: DESIGN CHOICE) -/
def frameCtKey (c : Cfg) (h : Hdr) (zin zout : Nat) : Bytes × Bool :=
  match h.ip, h.inner with
  | some ip, some i => if isIcmpError ip then ctKeyOf (innerTuple i zin (ctZoneDst c h zout)) else ctKeyOf (tupleOf h zin (ctZoneDst c h zout))
  | _, _ => ctKeyOf (tupleOf h zin (ctZoneDst c h zout))

/-- An ICMP error passes when the header it embeds matches an entry; inbound it is translated back (07 R224, R238). -/
def useError (h : Hdr) (e : Ct) : Hook :=
  if e.alias_ then .pass (some (false, e.xaddr, none)) (some (e.xaddr, h.inner.bind (fun i => if hasPort i then some e.xport else none))) e.nh
  else .pass (if e.napt then some (true, e.xaddr, none) else none) none none

/-- The stateful path for one frame (07 R228, R230): the hook's answer and the device after it. `done` holds what
the miss engine answered for a frame that re-enters. -/
def stateful (c : Cfg) (id : Nat) (f : Frame) (h : Hdr) (zin zout : Nat) (apply : Bool) (d : Device) :
    Hook × Device :=
  let whole := wholeHdr h
  let hairpin := match h.ip with
    | some ip => (zoneCfg c zin).naptInside && !ip.v6 && c.fwl.zones.any (fun x => x.2.naptInside && x.2.pool.any (fun a => a.toNat = ip.dst))
    | none => false
  let err := match h.ip with | some ip => isIcmpError ip | none => false
  if hairpin then (.drop 0x0710, d)
  else if err && h.inner.isNone then (.drop 0x0712, d)
  else
    let k := frameCtKey c whole zin zout
    let useHit (d : Device) : Hook × Device :=
      match ctFind d k.1 with
      | none => (.drop 0x0712, d)
      | some (i, e) => if err then (useError h e, d) else useEntry whole f.bytes k.2 i e apply d
    match lookup? d.fwl.verdicts id with
    | some (some code) =>
      (.drop code, { d with fwl := { d.fwl with verdicts := removeAt d.fwl.verdicts id } })
    | some none =>
      useHit { d with fwl := { d.fwl with verdicts := removeAt d.fwl.verdicts id } }
    | none =>
      match wayOf d k.1 with
      | some w =>
        if w.pend || !w.filled then (.miss k.1, d)
        else useHit (pairCount zin zout 4 d)
      | none => (.miss k.1, d)

/-- Fragments first (07 R228), then the stateful path. -/
def hook5 (c : Cfg) (id : Nat) (f : Frame) (h : Hdr) (zin zout : Nat) (apply : Bool) (d : Device) : Hook × Device :=
  match h.ip with
  | some ip =>
    if ip.isFrag then
      let fk := fragKey ip zin zout
      let put (x : Frag) (d : Device) : Device := if apply then putFrag x d else d
      if (zoneCfg c zin).fragDeny then (.drop 0x0719, d)
      else
        let entry := d.fwl.frags.find? (fun x => x.key = fk)
        if ip.fragOff ≠ 0 then
          match entry with
          | some x => (match x.code with
            | none => .pass (x.xlate.map (fun y => (y.1, y.2, none))) none x.nh
            | some code => .drop code, put x d)
          | none => (.drop 0x0719, d)
        else
          let l4len := ip.totLen - (ip.l4Off - ip.off)
          let min4 := if ip.proto = 6 then 20 else if ip.proto = 17 ∨ ip.proto = 1 ∨ ip.proto = 58 then 8 else 0
          if l4len < min4 then (.drop 0x0719, d)
          else if entry.isNone && decide (4096 ≤ d.fwl.frags.length) then (.drop 0x0719, d)
          else
            let r := stateful c id f h zin zout apply d
            match r.1 with
            | .pass nat inner nh =>
              let ct := (ctFind d (frameCtKey c (wholeHdr h) zin zout).1).map Prod.fst
              (.pass nat inner nh, put { key := fk, ct := ct, xlate := nat.map (fun y => (y.1, y.2.1)), nh := nh } r.2)
            | .drop code => (.drop code, put { key := fk, code := some code } r.2)
            | .miss k => (.miss k, r.2)
    else stateful c id f h zin zout apply d
  | none => stateful c id f h zin zout apply d

/-- Zone pair counter of a discard (07 R248). -/
def pairDrop (code zin zout : Nat) (d : Device) : Device :=
  if code = 0x0710 ∨ code = 0x0711 then pairCount zin zout 1 d
  else if code = 0x0712 ∨ code = 0x0713 then pairCount zin zout 2 d
  else if code = 0x0714 ∨ code = 0x0715 then pairCount zin zout 3 d
  else d

/-! ### The decision -/

/-- Hand a copy of a frame to CP (02 R49, Table FWD-6 step 3): as a copy of its own on CP's queue. (log entry 11: DEDUCED) -/
def toCp (id : Nat) (c : Cfg) (prio : Nat) (d : Device) : Device :=
  let q := queueFor c 36 prio none
  let f := frameOf d id
  match f with
  | none => d
  | some f =>
    (admitCopy c q { frame := id, age := f.ageStamp, itc := f.itc, cls := (queueCfg c q).cls } d).2

/-- ICMP copies to CP, at most 1,000 a second (02 R49). -/
def icmpCopy (id : Nat) (c : Cfg) (prio : Nat) (d : Device) : Device :=
  let sec := d.now / 1000000000000
  let n := if d.fwd.icmpSec = sec then d.fwd.icmpCount else 0
  if n < 1000 then
    toCp id c prio { d with fwd := { d.fwd with icmpSec := sec, icmpCount := n + 1 } }
  else { d with fwd := { d.fwd with icmpSec := sec, icmpCount := n } }

/-- Discard at a step of Table FWD-6, counted on the ingress port. -/
def discardAt (code : Nat) (id : Nat) (f : Frame) (d : Device) : Device := dropFrame id (countCode code f.port d)

/-- A frame that was decided: no copy admitted ends it; the frame's cells go with its last copy. (log entry 14: DEDUCED) -/
def finishDecision (id : Nat) (d : Device) : Device :=
  let d := modFrame id (fun f => { f with phase := .decided }) d
  match frameOf d id with
  | some f => if f.refs = 0 ∧ !(d.asd.waiting.contains id) then dropFrame id d else d
  | none => d

/-- A routed frame stops at its hop: counted on the ingress port, with a copy to CP for an ICMP reply (02 R49). -/
def stopRouted (id : Nat) (f : Frame) (c : Cfg) (prio code : Nat) (icmp : Bool) (d : Device) : Device :=
  let d := countCode code f.port d
  finishDecision id (if icmp then icmpCopy id c prio d else d)

/-- The colour a meter gave, in the tags pushed at egress (02 R44). -/
def recolour (col : Colour) (cp : Nat × Nat × Edit) : Nat × Nat × Edit :=
  match cp.2.2.tag with
  | .push s pcp _ vid => (cp.1, cp.2.1, { cp.2.2 with tag := .push s pcp (decide (col ≠ .green)) vid })
  | _ => cp

/-- The flow meter that has not yet taken a frame: its stream's, of a frame that had not ended at step 7. -/
def flowMeterDue (f : Frame) (c : Cfg) (x : Decision) : Option Nat :=
  if x.metered then none else f.stream.bind (fun hd => (lookup? c.sch.streams hd).bind (fun sc => sc.filter.meter))

/-- Whether a frame cuts through on some port of its decision (02 R56). -/
def cutsAny (c : Cfg) (f : Frame) (x : Decision) : Bool :=
  match f.stream.bind (fun hd => lookup? c.sch.streams hd) with
  | some sc => !f.ended && x.copies.any (fun cp => cutsThrough c f sc.cls cp.1)
  | none => false

/-- Bytes a meter takes for a frame: its stored length or, of one that cuts through before its end, MAX_SDU of its stream. (log entry 9: DESIGN CHOICE) -/
def meterLen (c : Cfg) (f : Frame) : Nat :=
  if f.ended then storedLen f
  else match f.stream.bind (fun hd => lookup? c.sch.streams hd) with
    | some sc => sc.maxSdu
    | none => storedLen f

/-- Steps 11 to 13 on the copies the firewall let pass. A metered frame that does not cut through waits there for its end.
(log entry 9: DESIGN CHOICE) -/
def step11 (id : Nat) (f : Frame) (h : Hdr) (c : Cfg) (x : Decision) (d : Device) : Device :=
  let port := (cfgPort c f.port).meter
  let flow := flowMeterDue f c x
  let run (n : Option Nat) (col : Colour) (d : Device) : Colour × Bool × Device := match n with
    | none => (col, false, d)
    | some n => runMeter c n (meterLen c f * 8) col d
  let m0 := run flow x.colour d
  let m := run port m0.1 m0.2.2
  if !f.ended && !cutsAny c f x && (flow.isSome || port.isSome) then
    modFrame id (fun f => { f with phase := .metering, dec := some x }) d
  else if m0.2.1 then dropFrame id (bump (codeKey 0x0532 0) m0.2.2)
  else if m.2.1 then dropFrame id (countCode 0x0218 (port.getD 0) m.2.2)
  else
    let x := if m.1 = x.colour then x else { x with copies := x.copies.map (recolour m.1) }
    let key := flowKey h x.vid
    let d := m.2.2
    -- step 12: a port of an aggregation group gives way to the selected member (02 R51, R52)
    let sel : List (Nat × Nat × Edit) × Option Nat × Device := x.copies.foldl (fun acc cp =>
      match f.stream, groupOfPort c cp.1 with
      | none, some g =>
        let r := lgSelect acc.2.2 c g key
        match r.2 with
        | some p => (acc.1 ++ [(p, cp.2)], acc.2.1, noteSelect g r.1 acc.2.2)
        | none => (acc.1, some g, acc.2.2)
      | _, _ => (acc.1 ++ [cp], acc.2.1, acc.2.2)) ([], none, d)
    let ecmpEmpty := match x.ecmp with
      | some g => (lgSelect sel.2.2 c g key).2.isNone
      | none => false
    let d := match x.ecmp with
      | some g => noteSelect g (lgSelect sel.2.2 c g key).1 sel.2.2
      | none => sel.2.2
    if ecmpEmpty then dropFrame id (countCode 0x0219 (x.ecmp.getD 0) d)
    else if sel.1.isEmpty && sel.2.1.isSome then
      dropFrame id (countCode 0x0219 (sel.2.1.getD 0) d)
    else
      let stream := f.stream.bind (fun hd => lookup? c.sch.streams hd)
      match stream with
      | some sc =>
        if sc.cls = .assured then
          -- step 13 of an Assured frame: to its sequence test (06 R185)
          let off := sel.1.filter (fun cp => portOff d cp.1)
          let open_ := sel.1.filter (fun cp => !portOff d cp.1)
          let d := off.foldl (fun d cp =>
            refuseCopy (egressQueue cp.1 sc.tc sc.hostQ) 8 { frame := id, txId := f.txId } d) d
          if open_.isEmpty then dropFrame id d
          else
            let d := modFrame id (fun f => { f with phase := .decided, dec := some { x with copies := open_, colour := m.1 } }) d
            { d with asd := { d.asd with waiting := d.asd.waiting ++ [id] } }
        else
          let d := sel.1.foldl (fun d cp =>
            let ct := cutsThrough c f sc.cls cp.1 && !f.ended
            let cpy : Copy :=
              { frame := id, edit := cp.2.2, vid := cp.2.1, age := f.ageStamp, itc := f.itc, colour := m.1, cls := sc.cls,
                ct := ct, stream := f.stream, txId := f.txId }
            (admitCopy c (egressQueue cp.1 sc.tc sc.hostQ) cpy d).2) d
          finishDecision id d
      | none =>
        let d := sel.1.foldl (fun d cp =>
          let q := queueFor c cp.1 x.prio x.hostQ
          let cpy : Copy :=
            { frame := id, edit := cp.2.2, vid := cp.2.1, age := f.ageStamp, itc := f.itc, colour := m.1,
              cls := (queueCfg c q).cls, txId := f.txId, routed := x.routed }
          (admitCopy c q cpy d).2) d
        finishDecision id d

/-- Step 10 and what follows (07 R209). -/
def step10 (id : Nat) (f : Frame) (h : Hdr) (c : Cfg) (x : Decision) (d : Device) : Device :=
  let zc (cp : Nat × Nat × Edit) := zoneOf c cp.1 cp.2.1
  let z1 := match x.copies with | cp :: _ => zc cp | [] => 15
  if x.zin = 15 then dropFrame id (pairDrop 0x0710 15 z1 (fwlCount 0x0710 d))
  else
    let bad := x.copies.filter (fun cp => zc cp = 15)
    let d := bad.foldl (fun d _ => pairDrop 0x0710 x.zin 15 (fwlCount 0x0710 d)) d
    let cps := x.copies.filter (fun cp => zc cp ≠ 15)
    if cps.isEmpty && !x.copies.isEmpty then dropFrame id d
    else
      match f.stream.bind (fun hd => lookup? c.sch.streams hd) with
      | some sc =>
        if sc.verdict = .deny then dropFrame id (pairDrop 0x0710 x.zin z1 (fwlCount 0x0710 d))
        else step11 id f h c { x with copies := cps } d
      | none =>
        let out := if x.multi then cps.filter (fun cp => zc cp ≠ x.zin) else []
        let d := out.foldl (fun d _ => fwlCount 0x071A d) d
        let cps := if x.multi then cps.filter (fun cp => zc cp = x.zin) else cps
        if cps.isEmpty && !out.isEmpty then dropFrame id d
        else
          let x := { x with copies := cps }
          let zout := match cps with | cp :: _ => zc cp | [] => x.zin
          if cps.all (fun cp => zc cp = x.zin) && !(zoneCfg c x.zin).intraPolicy then step11 id f h c x d
          else if d.fwl.spring then
            match springVerdict c.fwl.springRules h x.zin zout with
            | none => step11 id f h c x d
            | some code => dropFrame id (pairDrop code x.zin zout (fwlCount code d))
          else
            let pend := match f.mac with | .pending .. => true | _ => false
            let r := hook5 c id f h x.zin zout (!pend) d
            match r.1 with
            | .drop code => dropFrame id (pairDrop code x.zin zout (fwlCount code r.2))
            | .miss k =>
              let v6 := match h.ip with | some ip => ip.v6 | none => false
              let m := enterMiss c id k v6 x.zin zout r.2
              (match m.1 with
               | some code => dropFrame id (pairDrop code x.zin zout (fwlCount code m.2))
               | none => modFrame id (fun f => { f with phase := .missQ, dec := some x }) m.2)
            | .pass nat inner nh =>
              let d := if pend then modFrame id (fun f => { f with deferred := f.deferred ++ [.track] }) r.2 else r.2
              -- an alias sends the frame to its stored next hop (07 R238), which the frame must still fit (02 R49)
              match nh with
              | none =>
                step11 id f h c { x with copies := x.copies.map (fun cp => (cp.1, cp.2.1, { cp.2.2 with nat := nat, natInner := inner })) } d
              | some (grp, n) =>
                let ecmp := if grp then some n else none
                let hop := if grp then (lgSelect d c n (flowKey h x.vid)).2 else some n
                match hop.bind (fun n => lookup? c.fwd.nextHops n) with
                | none => step11 id f h c { x with ecmp := ecmp } d
                | some nhp =>
                  match h.ip.bind (fun ip => hopStop c ip nhp) with
                  | some (code, icmp) => stopRouted id f c x.inPrio code icmp d
                  | none =>
                    let e : Edit := { hopEdit c h x.inPrio x.colour nhp with nat := nat, natInner := inner }
                    step11 id f h c { x with
                      copies := [(nhp.port, nhp.vid.toNat, e)], ecmp := ecmp, routed := true, hostQ := nhp.hostQ } d

/-- The cells of a frame move to the reservation of its Scheduled stream or, of an express frame that has none, to its allotment (03 R75). -/
def settleCharge (id : Nat) (f : Frame) (sched : Option Nat) (d : Device) : Device :=
  match sched, f.charge with
  | some h, _ => reviewAll (moveCharge id (.stream h) d)
  | none, .express => reviewAll (moveCharge id (.allot (f.port * 8 + f.itc)) d)
  | none, _ => d

/-- Steps 9 and 10 of a frame that step 7 let pass: its source address is learned, the VID of an internal gateway message never leaves on a
wire (12 R358), and a frame with nowhere to go is discarded. -/
def step9 (id : Nat) (c : Cfg) (h : Hdr) (r : Route9) (prio : Nat) (d : Device) : Device :=
  match frameOf d id, r with
  | none, _ => d
  | some f, .bad code icmp _ => stopRouted id f c prio code icmp d
  | some f, .go x0 =>
    let pend := match f.mac with | .pending .. => true | _ => false
    let d := if pend then modFrame id (fun f => { f with deferred := f.deferred ++ [.learn x0.vid h.sa f.port] }) d
      else learn x0.vid h.sa f.port c d
    let wire (cp : Nat × Nat × Edit) : Bool := decide (h.etherType = 0x88B6) && (isEth cp.1 || cp.1 == 37)
    let wires := x0.copies.filter wire
    let x := { x0 with copies := x0.copies.filter (fun cp => !wire cp) }
    let d := wires.foldl (fun d _ => bump 0x5C2020 d) d
    if x.copies.isEmpty && !wires.isEmpty then dropFrame id d
    else if x.copies.isEmpty && x.ecmp.isNone then
      if x.routed then discardAt 0x0215 id f d else dropFrame id d
    else
      match frameOf d id with
      | some f => step10 id f h c { x with metered := f.ended } d
      | none => d

/-- Whether a port's acceptable frame types and ingress filter let a frame in (02 R44, step 5). -/
def vlanOk (pc : PortCfg) (h : Hdr) (vid : Nat) : Bool :=
  let tagged := match h.tag1 with | some t => t.vid != 0 | none => false
  (match pc.accept with | .all => true | .taggedOnly => tagged | .untaggedOnly => !tagged) && !(pc.ingressFilter && !pc.vids.contains vid)

/-- One header decided in the order of Table FWD-6 (02 R55), under the epoch of its entry (01 R11). (log entry 9: DESIGN CHOICE, 16: DEDUCED) -/
def decideHeader (id : Nat) (d : Device) : Device :=
  match frameOf d id with
  | none => d
  | some f =>
    let c := cfgAt d f.epoch
    let h := parse c.fwd.userTypes f.bytes
    match f.dec with
    | some x => step10 id f h c x (modFrame id (fun f => { f with phase := .inPipe }) d)   -- re-entry from the miss queue
    | none =>
      let pc := cfgPort c f.port
      let st := portSt d f.port
      let prio := f.hostTc.getD (framePrio c f.port h)
      let vid := ingressVid c f.port h
      if isEth f.port && !(pc.configured && st.ready) then discardAt 0x0211 id f d
      else if isLinkLocal h then finishDecision id (toCp id c prio (settleCharge id f none d))
      else if f.shut || isEth f.port && (st.loopBlock || pc.blocked.contains vid) then discardAt 0x0211 id f d
      else if isEth f.port && !vlanOk pc h vid then discardAt 0x0212 id f d
      else
        let col : Colour := match h.tag1 with | some t => if t.dei then .yellow else .green | none => .green
        let zin := zoneOf c f.port vid
        let stream := streamFor c h vid
        let crosses := (lookup9 c d f h vid zin prio col stream).dests.any (fun x => zoneOf c x.1 x.2 ≠ zin)
        if crosses && tooDeep h then discardAt 0x0213 id f (raiseBit sqFWD 3 d)
        else
          let r7 : (Option Nat × Nat × Colour) × Device := match stream with
            | some (hd, sc) => psfp c hd sc f col prio d
            | none => ((none, prio, col), d)
          match r7.1.1 with
          | some code => dropFrame id (if code = 0x0530 then r7.2 else bump (codeKey code 0) r7.2)
          | none =>
            if stream.isNone && isExpress c f.port h then discardAt 0x0214 id f (raiseBit sqFWD 1 r7.2)
            else
              let sched := stream.bind (fun x => if x.2.cls = .scheduled then some x.1 else none)
              let d := settleCharge id f sched (modFrame id (fun f => { f with stream := stream.map Prod.fst }) r7.2)
              match lookup9 c d f h vid zin prio r7.1.2.2 stream with
              | .go x => step9 id c h (.go { x with prio := r7.1.2.1 }) prio d
              | r => step9 id c h r prio d

/-! ### Decision records of compared streams (14 R428) -/

/-- The stored frame without its R-tag. -/
def withoutRtag (h : Hdr) (b : Bytes) : Bytes :=
  if h.rtag.isSome then b.take h.rtagOff ++ b.drop (h.rtagOff + 6) else b

/-- Ports a frame has copies for. -/
def egressOf (d : Device) (id : Nat) : List Nat :=
  let queued := (List.range 38).filter (fun p =>
    (portQueues p).any (fun q => let x := queueOf d q
      x.copies.any (fun c => c.frame = id) || x.spill.any (fun c => c.frame = id)))
  if queued.isEmpty && d.asd.waiting.contains id then
    (match (frameOf d id).bind (fun f => f.dec) with | some x => x.copies.map (·.1) | none => [])
  else queued

/-- The record of a compared stream's frame that an active or a ready standby has decided. -/
def noteCompare (id : Nat) (before : Device) (d : Device) : Device :=
  if (d.pair.role = .active ∨ d.pair.role = .standbyReady) ∧ !d.cfg.pair.compare.isEmpty then
    match frameOf before id with
    | none => d
    | some f =>
      let c := cfgAt before f.epoch
      let h := parse c.fwd.userTypes f.bytes
      match streamFor c h (ingressVid c f.port h), h.rtag with
      | some (hd, sc), some seq =>
        let held : Bool := match frameOf d id with | some g => decide (g.phase = .metering) | none => false
        if held || !d.cfg.pair.compare.contains hd then d
        else
          let e := egressOf d id
          let r : CmpRec :=
            { frame := id, handle := hd, seq := seq, epoch := f.epoch, egress := e, cls := sc.cls, discarded := e.isEmpty,
              fcrc := if f.ended then some (crc32c (withoutRtag h f.bytes)) else none, at_ := d.now }
          { d with pair := { d.pair with recs := d.pair.recs ++ [r] } }
      | _, _ => d
  else d

/-- The end of a frame that waits at step 11 for its meter. -/
def meterEnd (id : Nat) (d : Device) : Device :=
  match frameOf d id with
  | none => d
  | some f =>
    match f.phase, f.dec with
    | .metering, some x =>
      let c := cfgAt d f.epoch
      noteCompare id d (step11 id f (parse c.fwd.userTypes f.bytes) c x d)
    | _, _ => d

/-- The FCRC of a record whose frame has now ended. -/
def fillCompare (id : Nat) (d : Device) : Device :=
  match frameOf d id with
  | none => d
  | some f =>
    let v := crc32c (withoutRtag (parse (cfgAt d f.epoch).fwd.userTypes f.bytes) f.bytes)
    let fill (r : CmpRec) : CmpRec := if r.frame = id ∧ r.fcrc.isNone then { r with fcrc := some v } else r
    { d with pair := { d.pair with recs := d.pair.recs.map fill } }

/-- A header is decided, and its decision noted when its stream is compared (14 R428). -/
def decide60 (id : Nat) (d : Device) : Device := noteCompare id d (decideHeader id d)

end Sys2Proof.Machine
end

