-- ==== Sys2Proof/Machine/SchedOps.lean ====
section
/-! DEFINITION. Gates, shapers and the choice of the egress scheduler (05 R142 to R153, 03 R88). -/

namespace Sys2Proof.Machine

/-! ### Selection (03 R88, 05 R143, R152) -/

/-- PFC or PAUSE holds a queue unless it is Scheduled (03 R80). -/
def pfcHeld (d : Device) (p tc : Nat) : Bool :=
  if (queueCfg d.cfg (p * 8 + tc)).cls = .scheduled then false
  else
    let h := (portSt d p).hold
    (match h.pause with | some t => decide (d.now < t) | none => false) ||
    h.prios.any (fun x => decide (d.now < x.2) && decide (tcOf d.cfg p x.1 = tc))

/-- A copy may leave: its frame is whole and verified, or it cuts through with 64 bytes in the buffer and has not ended, since a frame that
has ended is stored and forwarded (02 R56, R57, 08 R260, R263). (log entry 14: DEDUCED) -/
def copyReady (d : Device) (p : Nat) (c : Copy) : Bool :=
  match frameOf d c.frame with
  | none => false
  | some f =>
    let pend := match f.mac with | .pending .. => true | _ => false
    (c.ct && !f.ended && decide (64 ≤ f.bytes.length)) || (f.ended && (!pend || p == 25 || p == 36))

/-- Express or preemptable class of a port (05 R150). -/
def isPreemptable (d : Device) (p tc : Nat) : Bool :=
  (portSt d p).preemptActive && (portCfg d p).preempt.preemptable.getLsbD tc

/-- Bytes of the present mPacket that have left so far, without preamble and SFD. -/
def mPacketBytes (d : Device) (p : Nat) (t : TxCur) : Nat := (d.now - t.began) * (portCfg d p).rate / 8000000 - 8

/-- Whether a copy in transmission may be broken off now (05 R150): its mPacket with the 4 bytes of its mCRC has the minimum of addFragSize,
and at least 64 bytes of the frame remain. (log entry 74: PRESUMED) -/
def breakable (d : Device) (p : Nat) (t : TxCur) : Bool :=
  let n := mPacketBytes d p t
  isPreemptable d p (t.q % 8) && decide (64 * (1 + (portCfg d p).preempt.addFragSize) ≤ n + 4) && decide (t.sent + n + 64 ≤ t.len)

/-- The copy in transmission is broken off: what was sent of it is a non-final mPacket (05 Table SCH-15). -/
def breakOff (p : Nat) (d : Device) : Device :=
  let n (t : TxCur) : TxCur := { t with sent := t.sent + mPacketBytes d p t }
  bump (0x80040C + p * 0x1000) (modPort p (fun s => { s with cur := none, preempted := s.cur.map n }) d)

/-- The MAC of a port begins to hold preemptable traffic: a preemptable copy in transmission stops as soon as it may be broken off
(05 R152, Table SCH-15). -/
def holdMac (p : Nat) (d : Device) : Device :=
  let s := portSt d p
  let cut : Bool := s.preempted.isNone && (match s.cur with | some t => breakable d p t | none => false)
  let d := bump (0x800418 + p * 0x1000) (modPort p (fun s => { s with macHold := true }) d)
  if cut then breakOff p d else d

/-- The hold of a port follows its list while preemption is active (05 R152). -/
def reviewHold (p : Nat) (d : Device) : Device :=
  let s := portSt d p
  let due := s.preemptActive && (match opList d p with
    | some g => holdSpan g (localNs d) (portCfg d p).holdAdvanceNs
    | none => false)
  if due && !s.macHold then holdMac p d
  else if !due && s.macHold then modPort p (fun s => { s with macHold := false }) d
  else d

/-- Length that the guard of 05 R143 takes for a copy: MAX_SDU and 32 bytes for one that cuts through, else the stored length and the
expansion of its SecY. -/
def guardLen (d : Device) (p : Nat) (c : Copy) : Nat :=
  match frameOf d c.frame with
  | none => 0
  | some f =>
    let sec := !(secysOn d.cfg p).isEmpty
    if c.ct && !f.ended then
      (match c.stream.bind (fun h => lookup? d.cfg.sch.streams h) with
       | some sc => sc.maxSdu
       | none => 9216) + (if sec then 32 else 0)
    else storedLen f + (match secyFor d.cfg p c.vid with
      | some (_, s) => if sec then expansion s else 0
      | none => 0)

/-- Whether a copy would finish before its gate closes (05 R143); the preamble and the SFD are not counted. (log entry 73: DESIGN CHOICE) -/
def fitsGate (d : Device) (p tc : Nat) (c : Copy) : Bool :=
  if isPreemptable d p tc then true
  else match untilClose d p tc with
    | none => true
    | some ns => decide (guardLen d p c * 8 * 1000 ≤ ns * max 1 (portCfg d p).rate)

def copyAge (d : Device) (c : Copy) : Nat := (d.buf.ageClock - c.age).toNat

/-- Whether the class may send its head now. `stop` is the Wyusin credit stop of a class of port PL. -/
def classOpen (d : Device) (p tc : Nat) (stop : Bool) : Bool :=
  gateOpen d p tc && !pfcHeld d p tc && creditOk d p tc && !stop &&
  !((portSt d p).macHold && isPreemptable d p tc)

/-- Copies past their residence limit at the head are discarded (03 R88). -/
def dropAged (q : Nat) : Nat → Device → Device
  | 0, d => d
  | n + 1, d =>
    match (queueOf d q).copies with
    | [] => d
    | c :: rest =>
      if limitTicks d.cfg q < copyAge d c then
        dropAged q n (ageDiscards q [c] (setQueue q { queueOf d q with copies := rest } d))
      else d

/-- Dequeue a queue's head copy when it may leave, once those past their limit have been discarded (03 R88, R100). -/
def popHead (q : Nat) (d : Device) : Option Copy × Device :=
  let d := dropAged q ((queueOf d q).copies.length) d
  let x := queueOf d q
  match x.copies with
  | c :: rest => if copyReady d (queuePort q) c then (some c, bump (queueCtr q 2) (setQueue q { x with copies := rest } d)) else (none, d)
  | [] => (none, d)

/-- Dequeue from the highest class of a port without a wire that holds a copy within its limit (03 R88). -/
def popPort (p : Nat) : List Nat → Device → Option Copy × Device
  | [], d => (none, d)
  | t :: rest, d =>
    match popHead (p * 8 + t) d with
    | (some c, d) => (some c, d)
    | (none, d) => popPort p rest d

/-- Start a copy on a port at an egress timestamp: pay the MACsec PN (08 R265), or discard, or stall. -/
def startCopy (p q : Nat) (c : Copy) (tick : Tick) (d : Device) : Option Bool × Device :=
  match frameOf d c.frame with
  | none => (none, d)
  | some f =>
    let out := copyBytes d f c
    let h := parse d.cfg.fwd.userTypes out
    let r : MacOut × Device := if isEth p || p = 37 then macEgress d.cfg p c.vid h.etherType (out.length + 4) (f.port = 36) d
      else (.clear, d)
    let go (len : Nat) (sec : Option TxSec) : Option Bool × Device :=
      let t : TxCur := { q := q, copy := c, len := len, ct := c.ct && !f.ended, began := d.now, tick := tick, sec := sec }
      (some true, modPort p (fun s => { s with cur := some t }) r.2)
    match r.1 with
    | .discard _ => (some false, r.2)
    | .stall => (none, r.2)
    | .clear => go (out.length + 4) none
    | .protect s => go (out.length + 4 + (match lookup? d.cfg.msc.secys s.n with | some y => expansion y | none => 0)) (some s)

/-- Serve one class: discard heads past their limit (03 R88), then start the head if it is ready and fits. (log entry 17: PRESUMED) -/
def serveClass (p q tc : Nat) (stop : Bool) (tick : Tick) : Nat → Device → Bool × Device
  | 0, d => (false, d)
  | n + 1, d =>
    if !classOpen d p tc stop then (false, d)
    else match (queueOf d q).copies with
      | [] => (false, d)
      | c :: rest =>
        if !copyReady d p c then (false, d)
        else if limitTicks d.cfg q < copyAge d c then
          let d := setQueue q { queueOf d q with copies := rest } d
          serveClass p q tc stop tick n (ageDiscards q [c] d)
        else if !fitsGate d p tc c then (false, d)
        else
          let r := startCopy p q c tick d
          match r.1 with
          | none => (false, r.2)
          | some true => (true, bump (queueCtr q 2) (setQueue q { queueOf r.2 q with copies := rest } r.2))
          | some false =>
            let d := setQueue q { queueOf r.2 q with copies := rest } r.2
            serveClass p q tc stop tick n (copyGone p c false true d)

/-- Serve the classes of a list in order until one starts. (log entry 17: PRESUMED) -/
def serveAll (p : Nat) (stop : Nat → Bool) (tick : Tick) : List Nat → Device → Bool × Device
  | [], d => (false, d)
  | tc :: rest, d =>
    let q := p * 8 + tc
    let r := serveClass p q tc (stop tc) tick ((queueOf d q).copies.length + 1) (bringQueue q d)
    if r.1 then r else serveAll p stop tick rest r.2

/-- The highest traffic class first (802.1Q strict priority; Reserved classes by credit, 05 R153). (log entry 17: PRESUMED) -/
def classOrder : List Nat := [7, 6, 5, 4, 3, 2, 1, 0]

end Sys2Proof.Machine
end

