-- ==== Sys2Proof/Machine/FramePath.lean ====
section
/-! DEFINITION. The steps of the frame path and the shared buffer (02, 03, 08): arrival, arbitration, decision,
verdicts, selection, transmission, links, averages, scrubbing and spill. -/

namespace Sys2Proof.Machine

/-! ### Arrival: CELL_ALLOCATE (03 R69, R75, R77, R78) -/

/-- What the cells of an arriving frame are charged to (03 R75): an express header waits for its stream. (log entry 15: DESIGN CHOICE) -/
def chargeFor (c : Cfg) (f : Frame) : Charge × Nat :=
  let h := parse c.fwd.userTypes f.bytes
  let tc := tcOf c f.port (framePrio c f.port h)
  match f.hostTc with
  | some t => (.allot (f.port * 8 + t), t)
  | none =>
    match f.stream, isExpress c f.port h with
    | none, true => (.express, tc)
    | _, _ => (.allot (f.port * 8 + tc), tc)

/-- Take one more cell for a frame, from its charge or, while its allotment is exhausted, from the port's headroom
(03 R69, R77, R78). Answers whether the headroom was full as well. (log entry 15: DESIGN CHOICE) -/
def takeCell (id : Nat) (d : Device) : Bool × Device :=
  match frameOf d id with
  | none => (false, d)
  | some f =>
    match f.charge with
    | .allot i =>
      if (allotOf d i).exhausted && isEth f.port then
        let used := lookupD d.buf.headroom f.port 0 + 1
        if used ≤ headroomOf d.cfg f.port then
          let d := { d with buf := { d.buf with headroom := insertAt d.buf.headroom f.port used } }
          let d := if (counter (allotCtr i 2) d).toNat < used then setCounter (allotCtr i 2) (BitVec.ofNat 64 used) d else d
          (false, modFrame id (fun f => { f with hr := f.hr + 1 }) (linkCell id d))
        else (true, raise sqBUF 3 0x0301 f.port (bump (allotCtr i 3) d))
      else (false, reviewAll (addCharge f.charge 1 (linkCell id d)))
    | ch => (false, addCharge ch 1 (linkCell id d))

/-- Take cells one by one until a frame holds `want`: an allotment that reaches its maximum between two of them leaves the
rest to the headroom (03 R76, R77). Answers whether the headroom was full. -/
def takeCells (id want : Nat) (d : Device) : Bool × Device :=
  let n := match frameOf d id with | some f => want - f.cells | none => 0
  (List.range n).foldl (fun r _ => if r.1 then r else takeCell id r.2) (false, d)

/-- `n` more bytes of a frame that queues already hold count there as enqueued, and the depth they reach as a peak
(03 Table BUF-9). (log entry 15: DESIGN CHOICE) -/
def noteLate (id n : Nat) (d : Device) : Device :=
  match frameOf d id with
  | none => d
  | some f => f.late.foldl (fun d q => notePeak q (bumpBy (queueCtr q 1) n d)) d

/-- A way becomes valid when the last queued frame of its key has re-entered or gone; one that no lookup filled is given up (07 R232). -/
def settleWay (key : Bytes) (d : Device) : Device :=
  if d.fwd.recirc.any (fun x => x.2 = key) || d.fwl.missQ.any (fun x => x.2 = key) then d
  else match wayOf d key with
    | some w => if w.filled then modWay key (fun w => { w with pend := false }) d else clearWay key d
    | none => d

/-- A frame leaves the miss path (07 R232). -/
def leaveMiss (id : Nat) (d : Device) : Device :=
  let keys := ((d.fwl.missQ ++ d.fwd.recirc).filter (fun x => x.1 = id)).map Prod.snd
  let fl := { d.fwl with missQ := d.fwl.missQ.filter (fun x => x.1 ≠ id), verdicts := removeAt d.fwl.verdicts id }
  keys.foldl (fun d k => settleWay k d) { d with fwl := fl, fwd := { d.fwd with recirc := d.fwd.recirc.filter (fun x => x.1 ≠ id) } }

/-- Forget every place that still names a frame, and give back all it held. -/
def purgeFrame (id : Nat) (d : Device) : Device :=
  let d := leaveMiss id (removeQueued id d)
  let fw := { d.fwd with arrivals := d.fwd.arrivals.filter (· ≠ id), pipe := d.fwd.pipe.filter (· ≠ id) }
  let d := { d with fwd := fw, asd := { d.asd with waiting := d.asd.waiting.filter (· ≠ id) } }
  retireFrame id (modFrame id (fun f => { f with phase := .dropped }) d)

/-- A copy of the frame that cut through is being sent. -/
def inTransmission (id : Nat) (d : Device) : Bool :=
  d.ports.any (fun x => (x.2.cur.toList ++ x.2.preempted.toList).any (fun t => t.ct && decide (t.copy.frame = id)))

/-- The frame in progress ends here, at `limit` bytes from DA to FCS where one is given: copies being sent end with an invalid FCS (02 R58,
05 R157), the rest is discarded. `tail`: more of it arrives. -/
def cutShort (id : Nat) (limit : Option Nat) (tail : Bool) (d : Device) : Device :=
  let d := if inTransmission id d then stomp id d else d
  purgeFrame id (modFrame id (fun f => { f with
    ended := true, tail := tail, bytes := match limit with | some n => f.bytes.take (n - 4) | none => f.bytes }) d)

/-- The header of a frame may enter arbitration: every byte that the parse graph needs has arrived, up to byte 127, or the frame has ended
(02 R36, R59, R415). -/
def headerReady (d : Device) (f : Frame) : Bool :=
  f.ended || (f.express && decide (f.port ≠ 37) && decide (min (parse d.cfg.fwd.userTypes f.bytes).need 128 ≤ f.bytes.length))

/-- A header that is ready enters arbitration behind those that have (02 R36, R38). -/
def enterArbitration (id : Nat) (d : Device) : Device :=
  match frameOf d id with
  | none => d
  | some f =>
    if f.phase = .arriving && !d.fwd.arrivals.contains id && headerReady d f then
      { d with fwd := { d.fwd with arrivals := d.fwd.arrivals ++ [id] } }
    else d

/-- The filter's maximum SDU that bounds a frame which step 7 let pass, with its stream's handle; a filter for another priority bounds
nothing (05 R156, R157). -/
def sduLimit (d : Device) (f : Frame) : Option (Nat × Nat) :=
  let c := cfgAt d f.epoch
  match f.stream.bind (fun hd => (lookup? c.sch.streams hd).map (fun sc => (hd, sc))) with
  | some (hd, sc) =>
    let prio := f.hostTc.getD (framePrio c f.port (parse c.fwd.userTypes f.bytes))
    if (match sc.filter.prio with | some v => decide (v.toNat = prio) | none => true) then some (hd, sc.filter.maxSdu) else none
  | none => none

/-- The frame has copies that cut through, queued or being sent. -/
def cuttingThrough (id : Nat) (d : Device) : Bool :=
  (d.buf.queues.any (fun x => x.2.copies.any (fun c => decide (c.frame = id) && c.ct))) || inTransmission id d

/-- A frame has grown past a limit: over 9,216 bytes it is RX_ERR, or a stomp where a copy is being sent (02 R58); one that cuts through
ends at its stream's maximum SDU (05 R157). -/
def lengthCheck (id : Nat) (d : Device) : Device :=
  match frameOf d id with
  | none => d
  | some f =>
    let b := storedLen f
    match sduLimit d f with
    | some (hd, n) =>
      if n < b && cuttingThrough id d then cutShort id (some n) true (oversize hd (cfgAt d f.epoch) d)
      else if 9216 < b && (isEth f.port || f.port == 37) then
        cutShort id (some 9216) true (if inTransmission id d then d else countCode 0x0210 f.port d)
      else d
    | none =>
      if 9216 < b && (isEth f.port || f.port == 37) then
        cutShort id (some 9216) true (if inTransmission id d then d else countCode 0x0210 f.port d)
      else d

/-- Whether firmware's transmit call on port CP answers BUSY to a new frame: the allotment of its class is exhausted (03 Table BUF-3). -/
def cpBusy (chunk : Bytes) (d : Device) : Bool :=
  (allotOf d (36 * 8 + tcOf d.cfg 36 (framePrio d.cfg 36 (parse d.cfg.fwd.userTypes chunk)))).exhausted

/-- A frame begins on a port: its age starts, its ingress timestamp is taken (04 R107), and whether ingress is off is settled for the whole of
it (02 R64). -/
def beginFrame (port id : Nat) (express : Bool) (tag : Option SecTag) (sub : Nat) (txId : Option (BitVec 16)) (d : Device) : Device :=
  let shut := if isEth port then !(portSt d port).ingressOn else portOff d port
  setFrame id { port := port, express := express, ageStamp := d.buf.ageClock, stamp := ingressStamp port sub d, tag := tag, txId := txId, shut := shut } d

/-- More bytes of a frame: its charge is settled, its cells are taken, its length judged, its header offered to arbitration. -/
def appendBytes (id : Nat) (chunk : Bytes) (d : Device) : Device :=
  match frameOf d id with
  | none => d
  | some f =>
    if f.ended ∨ f.phase = .dropped then d
    else
      let f := { f with bytes := f.bytes ++ chunk }
      let ch := if f.phase = .arriving then chargeFor d.cfg f else (f.charge, f.itc)
      -- cells taken before the header was readable move to the frame's own charge
      let d := moveCharge id ch.1 (setFrame id { f with itc := ch.2 } d)
      let r := takeCells id (ceilDiv (f.bytes.length + 32) 256) d
      if r.1 then cutShort id none true r.2
      else enterArbitration id (lengthCheck id (noteLate id chunk.length r.2))

/-- CELL_ALLOCATE: bytes of a received frame arrive on a port. The first bytes of an unknown identifier begin a
frame; the bytes are those stored, after ingress MACsec has removed the SecTAG (03 R68). -/
def cellAllocate (port id : Nat) (chunk : Bytes) (express : Bool) (tag : Option SecTag) (sub : Nat)
    (txId : Option (BitVec 16)) (d : Device) : Device :=
  if (frameOf d id).isSome then appendBytes id chunk d
  else if port = 36 ∧ cpBusy chunk d then emit .cpBusy d
  else appendBytes id chunk (beginFrame port id express tag sub txId d)

/-! ### PFC_REFRESH (03 Table BUF-3) -/

/-- PFC_REFRESH: every 0.5 ms the PFC or PAUSE of each exhausted allotment of a port is sent again. -/
def pfcRefresh (port : Nat) (d : Device) : Device :=
  let full := (List.range 8).filter (fun t => (allotOf d (port * 8 + t)).exhausted)
  if (portCfg d port).pfc then full.foldl (fun d t => backPressure (port * 8 + t) true d) d
  else if full.isEmpty then d else backPressure (port * 8) true d

/-! ### HEADER_ARBITRATION (02 R36 to R38) -/

/-- Owner of a calendar slot (02 Table FWD-1): a port, `some none` for recirculation, `none` for unassigned. (log entry 13: DEDUCED) -/
def slotOwner (i : Nat) : Option (Option Nat) :=
  if i < 32 then some (some (i / 4))
  else if i < 64 then some (some (8 + (i - 32) / 2))
  else if i < 72 then some (some 37)
  else if i < 80 then some (some 25)
  else if i = 80 then some (some 24)
  else if i < 91 then some (some (26 + (i - 81)))
  else if i = 91 then some (some 36)
  else if i < 105 then some none
  else none

/-- The oldest header of a port in arbitration (02 R38: only it competes). -/
def oldestHeader (d : Device) (p : Nat) : Option (Nat × Frame) :=
  (d.fwd.arrivals.find? (fun id => match frameOf d id with | some f => decide (f.port = p) | none => false)).bind
    (fun id => (frameOf d id).map (fun f => (id, f)))

/-- Round-robin: the first port after `last` that satisfies a condition. (log entry 13: DEDUCED) -/
def rrPick (ok : Nat → Bool) (last : Nat) : Option Nat :=
  ((List.range 38).map (fun k => (last + 1 + k) % 38)).find? ok

/-- A data frame without SecTAG switches a Spring port to clear operation (08 R276). -/
def springClear (p : Nat) (f : Frame) (h : Hdr) (d : Device) : Device :=
  let pc := portCfg d p
  let st := portSt d p
  let keys := (secysOn d.cfg p).any (fun x => (txScOf d x.1).sas.any (·.spring))
  if d.fwl.spring && pc.springClear && !st.clearMode && f.tag.isNone && keys && !unctrlType d.cfg p h.etherType then
    raise sqMSC 6 0x0807 p (modPort p (fun s => { s with clearMode := true, clearFrame := true }) d)
  else d

/-- A header takes its slot: ingress MACsec, then stages P1 to P8 (02 R35, 08 R254). -/
def enterPipe (id : Nat) (f : Frame) (d : Device) : Device :=
  let d := { d with fwd := { d.fwd with arrivals := d.fwd.arrivals.filter (· ≠ id) } }
  let h := parse d.cfg.fwd.userTypes f.bytes
  let d := if isEth f.port || f.port = 37 then springClear f.port f h d else d
  let r := if isEth f.port || f.port = 37 then macIngress d.cfg f.port f h d else ((none, .clear), d)
  match r.1.1 with
  | some _ => dropFrame id r.2
  | none =>
    let e := d.glb.cfgEpoch
    let m := r.1.2
    let d := modFrame id (fun f => { f with phase := .inPipe, epoch := e, mac := m }) r.2
    { d with fwd := { d.fwd with pipe := d.fwd.pipe ++ [id] } }

/-- The oldest answer of the miss path re-enters (02 R37, 07 R232); with the last frame of its key the way
becomes valid. -/
def enterRecirc (d : Device) : Device :=
  match d.fwd.recirc with
  | [] => d
  | (id, key) :: rest =>
    let fw := { d.fwd with recirc := rest, pipe := d.fwd.pipe ++ [id] }
    settleWay key { d with fwd := fw }

/-- HEADER_ARBITRATION: one slot of the input calendar (02 R37, R38). Express headers first, round-robin; then
the owner of the slot; then the next port in round-robin order. (log entry 13: DEDUCED) -/
def headerArbitration (d : Device) : Device :=
  let slot := d.fwd.calSlot
  let d := { d with fwd := { d.fwd with calSlot := (slot + 1) % 128 } }
  let expr (p : Nat) : Bool := match oldestHeader d p with
    | some (_, f) => isExpress d.cfg p (parse d.cfg.fwd.userTypes f.bytes)
    | none => false
  match rrPick expr d.fwd.rrExpress with
  | some p =>
    (match oldestHeader d p with
     | some (id, f) => enterPipe id f { d with fwd := { d.fwd with rrExpress := p } }
     | none => d)
  | none =>
    let any (p : Nat) : Bool := (oldestHeader d p).isSome
    let spare (d : Device) : Device := match rrPick any d.fwd.rr with
      | some p => (match oldestHeader d p with
        | some (id, f) => enterPipe id f { d with fwd := { d.fwd with rr := p } }
        | none => d)
      | none => d
    match slotOwner slot with
    | some none => if d.fwd.recirc.isEmpty then spare d else enterRecirc d
    | some (some p) => (match oldestHeader d p with
      | some (id, f) => enterPipe id f d
      | none => spare d)
    | none => spare d

/-! ### PIPELINE_DECISION -/

/-- Forget configurations no frame of the pipeline or the miss queue still needs (01 R11). -/
def pruneCfgs (d : Device) : Device :=
  let live (e : Nat) : Bool := d.buf.frames.any (fun x => decide (x.2.epoch.toNat = e))
  { d with oldCfgs := d.oldCfgs.filter (fun x => live x.1) }

/-- PIPELINE_DECISION: the oldest header in the pipeline leaves stage P8 (02 R39, R55). -/
def pipelineDecision (d : Device) : Device :=
  match d.fwd.pipe with
  | [] => d
  | id :: rest => pruneCfgs (decide60 id { d with fwd := { d.fwd with pipe := rest } })

/-- FDB_AGE_OUT: a learned entry older than the ageing time leaves (02 R47). -/
def fdbAgeOut (fid mac : Nat) (d : Device) : Device :=
  let k := fdbKey fid mac
  match lookup? d.fwd.fdb k with
  | some e => if e.learned ∧ e.seen + d.cfg.fwd.ageingS * 1000000000000 ≤ d.now then
      { d with fwd := { d.fwd with fdb := removeAt d.fwd.fdb k } } else d
  | none => d

/-! ### Link groups: MEMBER_DOWN, FLOWLET_MOVE -/

/-- REBAL_DONE when the last pending move of a group has gone (02 R54). (log entry 18: DEDUCED) -/
def rebalCheck (g before : Nat) (d : Device) : Device :=
  let left := (d.fwd.moves.filter (fun x => x.1 / 256 = g)).length
  if 0 < before ∧ left = 0 then raiseBit sqFWD 5 d else d

def movesOf (g : Nat) (d : Device) : Nat := (d.fwd.moves.filter (fun x => x.1 / 256 = g)).length

/-- A member of a group fails (02 R53): its entries take survivors, moves to it are cancelled (R54). -/
def memberFail (g m : Nat) (survivors : List Nat) (d : Device) : Device :=
  let t := lgTable d d.cfg g
  let n := survivors.length
  let hit := t.any (fun x => decide (x.2 = m))
  let t' := if n = 0 then []
    else t.map (fun x => if x.2 = m then (x.1, survivors.getD (x.1 % n) 0) else x)
  let before := movesOf g d
  let moves := d.fwd.moves.filter (fun x => !(decide (x.1 / 256 = g) && decide (x.2.1 = m)))
  let d := { d with fwd := { d.fwd with lg := insertAt d.fwd.lg g t', moves := moves } }
  let d := rebalCheck g before d
  let d := if hit then raiseBit sqFWD 4 d else d
  if n = 0 then raiseBit sqFWD 7 d else d

/-- Members of a group that stand on live links; next hops stand on the link of their port. -/
def liveMembers (d : Device) (g : LinkGroup) : List Nat :=
  sortNat (g.members.filter (fun m =>
    let p := if g.ecmp then (match lookup? d.cfg.fwd.nextHops m with | some nh => nh.port | none => 38) else m
    (portSt d p).linkUp && (portCfg d p).enabled))

/-- A port's link is gone for the groups it serves. -/
def groupsDown (p : Nat) (d : Device) : Device :=
  d.cfg.fwd.groups.foldl (fun d x =>
    let ms := x.2.members.filter (fun m =>
      if x.2.ecmp then (match lookup? d.cfg.fwd.nextHops m with | some nh => decide (nh.port = p) | none => false)
      else decide (m = p))
    ms.foldl (fun d m => memberFail x.1 m (liveMembers d x.2) d) d) d

/-- FLOWLET_MOVE: a pending move takes effect after its entry was idle for FLOWLET_TIME (02 R54). (log entry 18: DEDUCED) -/
def flowletMove (g i : Nat) (d : Device) : Device :=
  let k := g * 256 + i
  match lookup? d.fwd.moves k with
  | none => d
  | some (target, asked) =>
    let from_ := max asked (lookupD d.fwd.lastSel k 0)
    if from_ + d.cfg.fwd.flowletUs * 1000000 ≤ d.now then
      let before := movesOf g d
      let t := insertAt (lgTable d d.cfg g) i target
      let d := { d with fwd := { d.fwd with lg := insertAt d.fwd.lg g t, moves := removeAt d.fwd.moves k } }
      rebalCheck g before d
    else d

/-! ### Selection and transmission -/

/-- SCHEDULER_SELECT on a port: `stop` lists the classes of port PL under a Wyusin credit stop (14 R417). A copy that starts keeps the tick of its
timestamp (04 R107). An express copy, or a hold of the MAC, breaks off a preemptable one in
transmission (05 R150, R152). -/
def schedulerSelect (p : Nat) (stop : List Nat) (d : Device) : Device :=
  let st := portSt d p
  let up := !isEth p || (st.linkUp && st.txOn)
  let stopped (tc : Nat) : Bool := stop.contains tc
  let tick := egressTick p d
  let express := classOrder.filter (fun tc => !isPreemptable d p tc)
  if !up then d
  else match st.cur with
    | none =>
      let r := serveAll p stopped tick (if st.preempted.isSome then express else classOrder) d
      if r.1 then r.2
      else match (portSt r.2 p).preempted with
        | some t =>
          -- the preempted frame continues when nothing express is ready and the MAC does not hold it
          if st.macHold then r.2 else modPort p (fun s => { s with cur := some { t with began := d.now }, preempted := none }) r.2
        | none => r.2
    | some t =>
      if st.preempted.isNone && breakable d p t then
        let r := serveAll p stopped tick express (breakOff p d)
        if r.1 || st.macHold then r.2 else d
      else d

/-- Counters of an encrypted or integrity-only copy (08 R282). -/
def countOut (n len : Nat) (c : Cfg) (d : Device) : Device :=
  let enc : Bool := match lookup? c.msc.secys n with | some s => decide (s.conf ≠ .integrity) | none => true
  bumpBy (0x484000 + n * 0x40 + (if enc then 24 else 16)) len (txScCtr n (if enc then 1 else 0) d)

/-- The transmitter of a disabled port turns off when the frame in transmission has finished (02 R64), at the entry to Autumn that of every port
(13 Table SSN-7). -/
def txOffAtEnd (p : Nat) (d : Device) : Device :=
  if ((portCfg d p).configured && !(portCfg d p).enabled) || d.ssn.leaving.isSome then
    modPort p (fun s => { s with txOn := s.txOn && (s.cur.isSome || s.preempted.isSome) }) d
  else d

/-- The bytes of a copy toward CP: the R-tag of an Assured frame stays in the device (06 R179). -/
def cpBytes (d : Device) (f : Frame) (c : Copy) : Bytes :=
  copyBytes d f { c with edit := if c.asd.isSome then { c.edit with rtag := none } else c.edit }

/-- What a copy puts out when it has left: a frame on a port, or a frame with its descriptor into the receive queues of the control cores
(03 R622, 04 R112, 06 R179). -/
def putOut (p : Nat) (d : Device) (f : Frame) (c : Copy) (sec : Option TxSec) (good : Bool) : Output :=
  if p = 36 then .cpFrame (cpBytes d f c)
    { port := f.port, itc := c.itc, stamp := f.stamp, stream := c.stream, asd := c.asd, authFail := f.authFail }
  else .frame p (wireBytes d.cfg sec (copyBytes d f c)) good

/-- TRANSMIT_COMPLETE: the last bit of the copy on a port has left the balls; the first bit after its SFD left `sub` steps of 0.8 ns after the tick
at which it began (04 R107). -/
def transmitComplete (p sub : Nat) (d : Device) : Device :=
  match (portSt d p).cur with
  | none => d
  | some t =>
    match frameOf d t.copy.frame with
    | none => modPort p (fun s => { s with cur := none }) d
    | some f =>
      if !f.ended then d
      else
        let bad := f.stomp && t.ct || t.abort
        let o := putOut p d f t.copy t.sec (!bad)
        let d := bringQueue t.q d
        let d := emit o (modPort p (fun s => { s with cur := none }) d)
        let d := match t.sec with | some x => countOut x.n (copyBytes d f t.copy).length d.cfg d | none => d
        let d := match t.copy.txId with
          | some id => pushTxts p (stampOf (stampSub p sub) t.tick) id (if bad then 2 else 0) d
          | none => d
        let d := if isEth p then payCredit p (t.q % 8) ((t.len + 20) * 8) d else d
        -- a frame forwarded between two ports (13 R401)
        let d := if f.port ≠ 36 ∧ p ≠ 36 then { d with ssn := { d.ssn with lastForward := d.now } } else d
        let d := if isEth p && !gateOpen d p (t.q % 8) then
          raise sqSCH 5 0x0506 p (bump (0x800408 + p * 0x1000) d) else d
        txOffAtEnd p (copyGone p { t.copy with txId := none } true true d)

/-! ### Frame end and ICV verdict -/

/-- FRAME_END_RECEIVED: the last byte of a frame, its FCS checked (02 Table FWD-6 step 1, R58, R59). A frame that came in preemptable
mPackets brings how many were not its last and whether reassembly failed, which discards it as RX_ERR (05 Table SCH-15). (log entry 14: DEDUCED, 58: DESIGN CHOICE) -/
def frameEndReceived (id : Nat) (fcsOk codeErr : Bool) (frags : Nat) (assyErr : Bool) (d : Device) : Device :=
  match frameOf d id with
  | none => d
  | some f =>
    let split := !f.express && decide (f.port < 25)
    let d := if split && (!f.ended || f.tail) then
        let d := if frags = 0 then d else bumpBy (0x800410 + f.port * 0x1000) frags d
        if assyErr then bump (0x800414 + f.port * 0x1000) d else d
      else d
    if f.ended then (if f.tail then retireFrame id (modFrame id (fun f => { f with tail := false }) d) else d)
    else if f.phase = .dropped then
      retireFrame id (modFrame id (fun f => { f with ended := true }) d)
    else
      let b := storedLen f
      let bad := !fcsOk || codeErr || split && assyErr || decide (b < 64) || decide (9216 < b)
      let d := modFrame id (fun f => { f with late := [] }) (noteLate id 4 d)
      if bad && (isEth f.port || f.port == 37) then
        cutShort id none false (if inTransmission id d then d else countCode 0x0210 f.port d)
      else
        let r := takeCells id (cellsFor b) d
        if r.1 then cutShort id none false r.2
        else
          let d := fillCompare id (modFrame id (fun f => { f with ended := true }) r.2)
          -- a stored frame over its stream's maximum SDU (05 R156)
          match sduLimit d f with
          | some (hd, n) => if n < b && !inTransmission id d then purgeFrame id (oversize hd (cfgAt d f.epoch) d)
              else meterEnd id (enterArbitration id d)
          | none => meterEnd id (enterArbitration id d)

/-- A frame that a port without a wire, or the PL MAC, hands over whole: its bytes, its cells and its end at once. -/
def injectFrame (p : Nat) (hostTc : Option Nat) (txId : Option (BitVec 16)) (tag : Option SecTag) (fcsOk : Bool) (b : Bytes) (d : Device) : Device :=
  let id := 4294967296 + d.gw.made
  let d := beginFrame p id false tag 0 txId { d with gw := { d.gw with made := d.gw.made + 1 } }
  let d := appendBytes id b (modFrame id (fun f => { f with hostTc := hostTc }) d)
  frameEndReceived id fcsOk false 0 false d

/-- Apply what a good verdict releases (08 R261). -/
def applyDeferred (id : Nat) (d : Device) : Device :=
  match frameOf d id with
  | none => d
  | some f =>
    let c := cfgAt d f.epoch
    let d := modFrame id (fun f => { f with deferred := [] }) d
    f.deferred.foldl (fun d e => match e with
      | .learn fid mac port => learn fid mac port c d
      | .track =>
        let h := parse c.fwd.userTypes f.bytes
        match f.dec with
        | some x => (hook5 c id f h x.zin (match x.copies with | cp :: _ => zoneOf c cp.1 cp.2.1 | [] => x.zin) true d).2
        | none =>
          let vid := ingressVid c f.port h
          let zin := zoneOf c f.port vid
          match lookup9 c d f h vid zin (framePrio c f.port h) .green none with
          | .go x => (hook5 c id f h zin (match x.copies with | cp :: _ => zoneOf c cp.1 cp.2.1 | [] => zin) true d).2
          | .bad .. => d) d

/-- A frame fails in its ingress engine: copies being sent end with an invalid FCS (02 R58), those to HI and CP stay with AUTH_FAIL,
all others are discarded (08 R260, R262, R263). -/
def authFailFrame (id : Nat) (d : Device) : Device :=
  let d := if inTransmission id d then stomp id d else d
  let d := removeFrom (fun q => decide (queuePort q ≠ 25 ∧ queuePort q ≠ 36)) id d
  let d := modFrame id (fun f => { f with authFail := true, mac := .clear, deferred := [] }) d
  let keep : Bool := match frameOf d id with | some f => decide (0 < f.refs) | none => true
  if keep then
    let d := leaveMiss id d
    { d with asd := { d.asd with waiting := d.asd.waiting.filter (· ≠ id) } }
  else purgeFrame id d

/-- The receive SA after a good verdict (08 R261, R267): the lowest acceptable PN advances, and a receive Spring SA whose highest
accepted PN reaches a multiple of 2^24 begins a checkpoint write (08 R274). (log entry 34: DESIGN CHOICE) -/
def rxSaAccepted (replayWindow pn : Nat) (a : RxSa) : RxSa :=
  let low := max a.lowest (pn + 1 - replayWindow)
  let mark : Option Nat := if a.spring ∧ a.high / 16777216 < pn / 16777216 then some (pn / 16777216 * 16777216) else a.ckptPend
  { a with lowest := low, high := max a.high pn, ckptPend := mark }

/-- ICV_VERDICT: the ingress engine's verdict on a whole frame (08 R260 to R263, R267). (log entry 33: PRESUMED) -/
def icvVerdict (id : Nat) (ok : Bool) (d : Device) : Device :=
  match frameOf d id with
  | none => d
  | some f =>
    match f.mac with
    | .pending sc an pn =>
      let c := cfgAt d f.epoch
      let rc := lookup? c.msc.rxScs sc
      let sy := (rc.bind (fun r => lookup? c.msc.secys r.secy)).getD { port := f.port }
      let enc : Bool := match f.tag with | some t => tagEnc t | none => true
      -- a frame already in the engine finishes although its SA was erased (08 R271)
      let sa : RxSa := (rxSaOf d sc an).getD { an := an, lowest := 0 }
      if (match f.tag with | some t => badTag t f.bytes.length true | none => false) then
        authFailFrame id (prtMscCtr f.port 0x508 (mscCount 0x0814 d))
      else if sy.validate = .disabled then
        applyDeferred id (modFrame id (fun f => { f with mac := if ok then .good sc else .passed sc }) (rxScCtr sc 6 d))
      else if ok then
        if pn < sa.lowest then purgeFrame id (rxScCtr sc 5 (mscCount 0x0811 d))
        else
          let d := setRxSas sc ((rxSas d sc).map (fun a => if a.an = an then rxSaAccepted sy.replayWindow pn a else a)) d
          let d := rxScCtr sc 0 d
          let d := bumpBy (0x488000 + sc * 0x80 + (if enc then 72 else 64)) f.bytes.length d
          applyDeferred id (modFrame id (fun f => { f with mac := .good sc }) d)
      else if sy.validate = .check && !enc then
        -- delivered despite the failed check (08 R260), but never accepted as an Assured frame (01 R26)
        applyDeferred id (modFrame id (fun f => { f with mac := .passed sc }) (rxScCtr sc 1 d))
      else
        let d := rxScCtr sc 2 (mscCount 0x0810 d)
        let cutNow := inTransmission id d
        let d := if cutNow then rxScCtr sc 10 (raise sqMSC 2 0x0803 f.port d) else d
        authFailFrame id d
    | _ => d

/-! ### Links -/

/-- Flush the queues of a port under a counter (03 Table BUF-6), all classes or all but Assured. -/
def flushPort (p k : Nat) (all : Bool) (d : Device) : Device :=
  (portQueues p).foldl (fun d q =>
    if all || decide ((queueCfg d.cfg q).cls ≠ .assured) then flushQueue q k d else d) d

/-- A copy that a port was sending when its link went down: an Assured one goes back to the head of its queue and is held there to its limit
(01 R32, 03 R98); any other ends. (log entry 75: DEDUCED) -/
def linkLost (p : Nat) (t : TxCur) (d : Device) : Device :=
  if t.copy.cls = .assured then
    let x := queueOf d t.q
    setQueue t.q { x with copies := t.copy :: x.copies } d
  else copyGone p t.copy false true d

/-- LINK_DOWN: the port's link goes down (03 R98, 02 R53, 04 R126, R170, 05 R151, 18 R525). (log entry 28: DESIGN CHOICE, 66: DESIGN CHOICE) -/
def linkDown (p : Nat) (d : Device) : Device :=
  let st := portSt d p
  if !st.linkUp then d
  else
    let stop := st.preemptActive
    let d := modPort p (fun s => { s with
      linkUp := false, preemptActive := false, macHold := false, asCapable := false, hold := {}, cur := none, preempted := none }) d
    let d := (st.cur.toList ++ st.preempted.toList).foldl (fun d t => linkLost p t d) d
    let d := flushPort p 9 false (txOffAtEnd p d)
    let d := groupsDown p d
    let d := if stop then raise sqSCH 6 0x0507 p d else d
    raise (sqPRT p) 1 0x0221 p d

/-- LINK_UP: the port's link comes up (18 R525); peer-delay counts restart (04 R126) and the effective link-delay
bound returns to LINK_BOUND (05 R170). (log entry 28: DESIGN CHOICE) -/
def linkUp (p : Nat) (d : Device) : Device :=
  if (portSt d p).linkUp then d
  else
    let d := modPort p (fun s =>
      { s with linkUp := true, pdelayCount := 0, pdelayMaxPs := 0, pdelayLost := 0,
               preemptActive := (portCfg d p).preempt.enabled && (portCfg d p).preempt.verifyOff }) d
    let d := { d with sch := { d.sch with effBound := removeAt d.sch.effBound p } }
    raise (sqPRT p) 0 0x0220 p (reviewHold p d)

/-! ### Received PFC and PAUSE (03 R80) -/

/-- A received flow-control frame: PFC with (priority, quanta) pairs, or PAUSE with quanta. -/
inductive FlowCtl where
  | pfc (l : List (Nat × Nat))
  | pause (quanta : Nat)
  deriving DecidableEq, Repr

/-- One quantum is 512 bit times at the port's rate, in ps. (log entry 67: DESIGN CHOICE) -/
def quantumPs (d : Device) (p : Nat) : Nat := 512 * 1000000 / max 1 (portCfg d p).rate

def schedQueue (d : Device) (p tc : Nat) : Bool := decide ((queueCfg d.cfg (p * 8 + tc)).cls = .scheduled)

/-- PFC_RECEIVED: holds begin, are renewed, or end with quanta 0; PFC_IGNORED is counted once a frame. (log entry 67: DESIGN CHOICE) -/
def pfcReceived (p : Nat) (x : FlowCtl) (d : Device) : Device :=
  match x with
  | .pfc l =>
    let d := modPort p (fun s => { s with hold := { s.hold with prios := l.foldl (fun t y =>
        if y.2 = 0 then removeAt t y.1 else insertAt t y.1 (d.now + y.2 * quantumPs d p)) s.hold.prios } }) d
    if l.any (fun y => decide (y.2 ≠ 0) && schedQueue d p (tcOf d.cfg p y.1)) then countCode 0x0312 p d else d
  | .pause q =>
    let t := if q = 0 then none else some (d.now + q * quantumPs d p)
    let d := modPort p (fun s => { s with hold := { s.hold with pause := t } }) d
    if q ≠ 0 ∧ (List.range 8).any (schedQueue d p) then countCode 0x0312 p d else d

/-- PFC_HOLD_EXPIRY: the quanta of a hold have run out. `prio = none` names a PAUSE. (log entry 67: DESIGN CHOICE) -/
def pfcHoldExpiry (p : Nat) (prio : Option Nat) (d : Device) : Device :=
  match prio with
  | some k =>
    match lookup? (portSt d p).hold.prios k with
    | some t => if t ≤ d.now then
        modPort p (fun s => { s with hold := { s.hold with prios := removeAt s.hold.prios k } }) d else d
    | none => d
  | none =>
    match (portSt d p).hold.pause with
    | some t => if t ≤ d.now then modPort p (fun s => { s with hold := { s.hold with pause := none } }) d else d
    | none => d

/-! ### Averages and scrubbing (03 R85, R89) -/

/-- A ← A + (D − A) / 2^W as an arithmetic shift (03 R85), both with 16 fractional bits. (log entry 19: DESIGN CHOICE) -/
def nextAvg (a dep w : Nat) : Nat := ((a : Int) + (((dep * 65536 : Nat) : Int) - (a : Int)) / (2 ^ w : Nat)).toNat

/-- AVERAGE_UPDATE: every 409.6 ns, each Standard and Bulk queue whose A is defined. (log entry 19: DESIGN CHOICE) -/
def averageUpdate (d : Device) : Device :=
  let d0 := d
  { d with buf := { d.buf with queues := d.buf.queues.map (fun x =>
      let qc := queueCfg d0.cfg x.1
      if qc.cls = .standard ∨ qc.cls = .bulk then
        (x.1, { x.2 with avg := x.2.avg.map (fun a => nextAvg a (depth d0 x.1) qc.weight) })
      else x) } }

/-- Discard the head copies of a list that are past the limit. -/
def agedHeads (d : Device) (limit : Nat) : List Copy → List Copy
  | [] => []
  | c :: rest => if limit < copyAge d c then c :: agedHeads d limit rest else []

/-- AGE_SCRUB: every 1 ms the head of every queue (03 R89), and the pages of its spill section (R95). -/
def ageScrub (d : Device) : Device :=
  (d.buf.queues.map Prod.fst).foldl (fun d q =>
    let x := queueOf d q
    let limit := limitTicks d.cfg q
    let heads := agedHeads d limit (x.copies ++ x.spill)
    let r := takeOut q (fun c => heads.contains c || c.written && decide (limit < copyAge d c)) d
    ageDiscards q r.1 r.2) d

/-! ### Spill (03 R91 to R95, R99) -/

/-- Pages for the next `n` pages of a queue's spill section (03 R93). (log entry 69: DESIGN CHOICE) -/
def takePages (q : Nat) : Nat → Device → Device
  | 0, d => d
  | n + 1, d =>
    let r := takeIndex d.buf.pageFree d.buf.pageNext
    let x := queueOf d q
    takePages q n (setQueue q { x with pages := x.pages ++ [{ index := r.1, seq := d.buf.pageSeq }] }
      { d with buf := { d.buf with pageFree := r.2.1, pageNext := r.2.2, pageSeq := d.buf.pageSeq + 1, spillPages := d.buf.spillPages + 1 } })

/-- SPILL_WRITE_DONE: the oldest unwritten copy of a queue's spill section is in DRAM, behind the records before it; its cells and descriptor
are released (03 R92, R93). Only after its last byte has arrived, and only while the spill limits leave room (R94). (log entry 20: DEDUCED) -/
def spillWriteDone (q : Nat) (d : Device) : Device :=
  let x := queueOf d q
  let i := (x.spill.takeWhile (fun c => c.written)).length
  match x.spill[i]? with
  | none => d
  | some c =>
    match frameOf d c.frame with
    | none => d
    | some f =>
      let wpos := x.wpos + spillRecBytes f
      let newPages := ceilDiv wpos pageData - ceilDiv x.wpos pageData
      if !copyReady d (queuePort q) c || d.buf.spillFull || decide (spillPageLimit d < d.buf.spillPages + newPages) then d
      else
        let first := x.wpos / pageData
        let c' := { c with image := some (descImage f c ((x.spill[i + 1]?).map (·.desc))), first := first, page := (wpos - 1) / pageData }
        let d := takePages q newPages (setQueue q { x with spill := x.spill.set i c', wpos := wpos } d)
        let y := queueOf d q
        let d := setQueue q { y with pages := y.pages.modify (first - y.rpage) (fun g => { g with starts := g.starts + 1 }) } d
        let d := bump (queueCtr q 10) { d with buf := { d.buf with spillCopies := d.buf.spillCopies + 1, descFree := c.desc :: d.buf.descFree } }
        let d := modFrame c.frame (fun f => { f with chip := f.chip - 1 }) d
        let d := match frameOf d c.frame with
          | some f => if f.chip = 0 then freeCellsOf c.frame d else d
          | none => d
        reviewSpill (reviewAll d)

/-- A copy read back from its page takes a descriptor, and cells where its frame has none left on chip (03 R95). -/
def refillCopy (q : Nat) (c : Copy) (d : Device) : Device :=
  let r := takeIndex d.buf.descFree d.buf.descNext
  let x := queueOf d q
  let d := setQueue q { x with copies := x.copies ++ [{ c with image := none, desc := r.1 }] }
    { d with buf := { d.buf with descFree := r.2.1, descNext := r.2.2 } }
  let d := modFrame c.frame (fun f => { f with chip := f.chip + 1 }) d
  match frameOf d c.frame with
  | some f => if f.cells = 0 then addCharge f.charge (cellsFor (storedLen f)) (linkCells c.frame (cellsFor (storedLen f)) d) else d
  | none => d

/-- SPILL_REFILL: the next page of a queue in spill state is read into cells while fewer than 64 cells are on
chip (03 R95); records past their limit are discarded without taking cells. (log entry 20: DEDUCED) -/
def spillRefill (q : Nat) (d : Device) : Device :=
  let x := queueOf d q
  if !x.inSpill ∨ 64 ≤ (x.copies.map (copyCells d)).sum ∨ !(x.spill.any (fun c => c.written)) then d
  else
    let page := max x.rnext x.rpage
    let limit := limitTicks d.cfg q
    let r := takeOut q (fun c => c.written && decide (c.page ≤ page)) (setQueue q { x with rnext := page + 1 } d)
    let old (c : Copy) : Bool := decide (limit < copyAge d c)
    let d := ageDiscards q (r.1.filter old) r.2
    reviewAll ((r.1.filter (fun c => !old c)).foldl (fun d c => refillCopy q c d) d)

/-- SPILL_READY: MEM reports the end of DRAM training (03 R99). -/
def spillReadyStep (d : Device) : Device := { d with buf := { d.buf with spillReady := true } }

/-- The spilled copies of a queue are lost, and the queue leaves spill state (03 R97, Table BUF-6). -/
def loseSpill (q : Nat) (d : Device) : Device :=
  let r := takeOut q (fun c => c.written) d
  let x := queueOf r.2 q
  let d := reviewSpill (trimSpill q { x with copies := x.copies ++ x.spill, spill := [] } r.2)
  if r.1.isEmpty then d else raiseBit sqBUF 6 (discardCopies q 11 r.1 d)

/-- Every spilled copy is lost with its channel (03 R97). -/
def spillLost (d : Device) : Device := (d.buf.queues.map Prod.fst).foldl (fun d q => loseSpill q d) d

/-- Copies whose cells are in a packet-buffer bank that retires are discarded as AGE_DISCARD (21 Table FLT-1); `held`: the frames with cells there. -/
def dropHeld (held : List Nat) (d : Device) : Device :=
  (d.buf.queues.map Prod.fst).foldl (fun d q =>
    let r := takeOut q (fun c => !c.written && held.contains c.frame) d
    ageDiscards q r.1 r.2) d

end Sys2Proof.Machine
end

