-- ==== Sys2Proof/Machine/Time.lean ====
section
/-! DEFINITION. Time (04) and the gates that follow it (05 R142 to R152): the tick, the domains, steps, snapshots,
timestamps queues, gate events. -/

namespace Sys2Proof.Machine

/-! ### The tick of the 250 MHz time clock (04 R103, R105; 03 R87; 07 R225) -/

/-- The local clock after one tick: INCR added to nanoseconds and fraction (04 R103). -/
def tickTod (t : TimState) : TimState :=
  let sum := t.ns.toNat * 4294967296 + t.frac.toNat + t.incr.toNat
  let ns := sum / 4294967296
  let carry := 1000000000 ≤ ns
  { t with
    sec := if carry then t.sec + 1 else t.sec
    ns := BitVec.ofNat 30 (if carry then ns - 1000000000 else ns)
    frac := BitVec.ofNat 32 sum }

/-- One tick of a split that is slewed out (04 R122): what is left shrinks by the step, and INCR returns with the last. -/
def tickSlew (t : TimState) : TimState :=
  if t.slewLeft = 0 then t
  else
    let left := t.slewLeft - t.slewStep
    if left.natAbs < t.slewStep.natAbs then
      { t with incr := BitVec.ofInt 40 ((t.incr.toNat : Int) - t.slewStep), slewLeft := 0, slewStep := 0 }
    else { t with slewLeft := left }

/-- The main rails are up: Summer and Spring. (log entry 7: DEDUCED) -/
def powered (d : Device) : Bool := decide (d.ssn.season = .summer) || decide (d.ssn.season = .spring)

/-- The Keeper's time counter counts its 32.768 kHz crystal in every season (04 R106). -/
def tickKeeper (now : Nat) (k : KeeperState) : KeeperState :=
  if k.timeOk ∧ now * 32768 / 1000000000000 ≠ (now + 4000) * 32768 / 1000000000000 then
    { k with timeSub := k.timeSub + 1, timeSec := if k.timeSub = BitVec.allOnes 15 then k.timeSec + 1 else k.timeSec }
  else k

/-- One tick: 4 ns of the time clock, the age clock and FW_SEC (03 R87, 07 R225) while the main rails are up, and of the Keeper. (log entry 4: DESIGN CHOICE) -/
def tick (d : Device) : Device :=
  let k := tickKeeper d.now d.keeper
  if !powered d then { d with now := d.now + 4000, keeper := k }
  else
    let fp := d.fwl.fwSecPs + 4000
    let full := 1000000000000 ≤ fp
    let fw := if full then { d.fwl with fwSec := d.fwl.fwSec + 1, fwSecPs := fp - 1000000000000 } else { d.fwl with fwSecPs := fp }
    { d with now := d.now + 4000, tim := tickSlew (tickTod d.tim), buf := { d.buf with ageClock := d.buf.ageClock + 1 }, fwl := fw, keeper := k }

/-- Seconds as ps. -/
def secPs (n : Nat) : Nat := n * 1000000000000

/-- 2^l seconds in ps. -/
def logPs (l : Int) : Nat :=
  if 0 ≤ l then 1000000000000 * 2 ^ l.toNat else 1000000000000 / 2 ^ (-l).toNat

def domCfg (d : Device) (b : Bool) : DomainCfg := if b then d.cfg.tim.domB else d.cfg.tim.domA

def domOf (d : Device) (b : Bool) : Domain := if b then d.tim.domB else d.tim.domA

def setDom (b : Bool) (x : Domain) (d : Device) : Device :=
  if b then { d with tim := { d.tim with domB := x } } else { d with tim := { d.tim with domA := x } }

/-- The parameters of a port in a domain (04 Table TIM-2). -/
def portDom (d : Device) (b : Bool) (p : Nat) : PtpDom := if b then (portCfg d p).ptp.b else (portCfg d p).ptp.a

def absInt (x : Int) : Nat := x.natAbs

/-- Sync interval times syncReceiptTimeout of the port a domain is received on. -/
def syncTimeoutPs (d : Device) (b : Bool) : Nat :=
  let c := portDom d b ((domOf d b).slavePort.getD 0)
  logPs c.logSync * c.syncReceiptTimeout

def announceTimeoutPs (d : Device) (b : Bool) : Nat :=
  let c := portDom d b ((domOf d b).slavePort.getD 0)
  logPs c.logAnnounce * c.announceReceiptTimeout

/-- A Sync has arrived within syncReceiptTimeout. -/
def syncFresh (d : Device) (b : Bool) : Bool :=
  match (domOf d b).lastSync with
  | some t => decide (d.now < t + syncTimeoutPs d b)
  | none => false

/-- Usable (04 R121). -/
def usable (d : Device) (b : Bool) : Bool :=
  let x := domOf d b
  let c := domCfg d b
  x.gmValid && (!x.gmIsSelf || (c.gmCapable && d.glb.deviceId.isSome)) && syncFresh d b &&
  decide (x.gmSince + c.gmHoldMs * 1000000000 ≤ d.now) && decide (x.vec.getD 1 255 ≤ c.classMax)

/-- D in ns, time of B minus time of A, saturating (04 SPLIT_D). -/
def splitOf (d : Device) : Word :=
  let v := d.tim.domB.offsetNs - d.tim.domA.offsetNs
  BitVec.ofInt 32 (max (-2147483647) (min 2147483647 v))

/-! ### Gates -/

/-- The gate states of a list at the local clock, with MAC hold and cycle count (05 R142, R152). `count`: cycle
boundaries passed since the last entry are counted (05 CYCLE_COUNT, not for a repositioning after a step). -/
def applyGate (p : Nat) (count : Bool) (d : Device) : Device :=
  match opList d p with
  | none => d
  | some g =>
    let gs := gateSt d p
    let i := (listEntry g (localNs d)).1
    let n := cycleIdx g (localNs d)
    if i = gs.entry ∧ gatesOf g i = gs.gates ∧ n = gs.cycleNo then d
    else
      let d := (List.range 8).foldl (fun d tc =>
        if (queueCfg d.cfg (p * 8 + tc)).cls = .reserved then bringCredit p tc d else d) d
      let cyc := if count then gs.cycles + BitVec.ofInt 32 (n - gs.cycleNo) else gs.cycles
      let d := setGate p { gs with entry := i, gates := gatesOf g i, cycles := cyc, cycleNo := n } d
      reviewHold p d

/-- GATE_EVENT: the entry of a port's list that the local clock has reached takes effect (05 R142, R145). -/
def gateEvent (p : Nat) (d : Device) : Device := applyGate p true d

/-- HOLD_REQUEST: preemptable traffic is held from HOLD_ADVANCE before a Set-And-Hold-MAC entry (05 R152). -/
def holdRequest (p : Nat) (d : Device) : Device := reviewHold p d

/-- The entries of a stream gate as those of a list: they repeat from its base time with its cycle (05 Table SCH-4). -/
def gateList (g : StreamGate) : Gcl :=
  { baseSec := g.baseSec, baseNs := g.baseNs, cycleNs := g.cycleNs,
    entries := g.entries.map (fun e => { op := 0, gates := 0, intervalNs := e.2.2 }) }

/-- STREAM_GATE_EVENT: the entry of a stream gate that the local clock has reached takes effect, and its octets count from 0
(05 Table SCH-4). -/
def streamGateEvent (gi : Nat) (d : Device) : Device :=
  match lookup? d.cfg.sch.gates gi with
  | none => d
  | some g =>
    let gs := lookupD d.sch.psfp gi {}
    let i := (listEntry (gateList g) (localNs d)).1
    let n := cycleIdx (gateList g) (localNs d)
    if i = gs.entry ∧ n = gs.cycleNo then d
    else { d with sch := { d.sch with psfp := insertAt d.sch.psfp gi { gs with entry := i, cycleNo := n, octets := 0 } } }

/-- PREEMPT_VERIFY: the verification of a port ended (05 R151). -/
def preemptVerify (p : Nat) (ok : Bool) (d : Device) : Device :=
  let pc := (portCfg d p).preempt
  if !pc.enabled || pc.verifyOff then d
  else if ok then reviewHold p (modPort p (fun s => { s with preemptActive := true, verifyFail := false }) d)
  else raise sqSCH 6 0x0507 p (modPort p (fun s => { s with preemptActive := false, verifyFail := true, macHold := false }) d)

/-! ### Steps of the clock (04 R117, 05 R146, R149) -/

/-- The first cycle boundary of a list at or after a local time (05 R149). -/
def nextBoundary (g : Gcl) (ns : Nat) : Nat :=
  let pos := listPos g ns
  if pos = 0 then ns else ns + (g.cycleNs - pos)

/-- Lists that run are repositioned after a step (05 R146). -/
def gateStep (d : Device) : Device :=
  let ps := (d.sch.gates.filter (fun x => x.2.running)).map Prod.fst
  if ps.isEmpty then d else raise sqSCH 4 0x0504 0 (ps.foldl (fun d p => applyGate p false d) d)

/-- The operational list that a pending commit changes first, in the order of the ports: the "old list" of R149. (log entry 76: DESIGN CHOICE) -/
def changedList (d : Device) (s : PendingCommit) : Option Gcl :=
  (List.range 25).findSome? (fun p => match opList d p with
    | some g => if lookup? s.cfg.sch.lists p = some g then none else some g
    | none => none)

/-- A pending SWITCH_TIME that the clock has been stepped past moves to the first cycle boundary of the old list
after the step (05 R149). -/
def stepPending (d : Device) : Device :=
  match d.switching with
  | none => d
  | some s =>
    if s.sec * 1000000000 + s.ns < localNs d then
      let b := match changedList d s with
        | some g => nextBoundary g (localNs d)
        | none => localNs d
      { d with switching := some { s with sec := b / 1000000000, ns := b % 1000000000 } }
    else d

/-- A slew of a split ends before it is done; `back`: INCR returns to what it was before. -/
def endSlew (back : Bool) (d : Device) : Device :=
  { d with tim := { d.tim with
    incr := if back then BitVec.ofInt 40 ((d.tim.incr.toNat : Int) - d.tim.slewStep) else d.tim.incr, slewLeft := 0, slewStep := 0 } }

/-- Set the local clock (04 R117): STEP_COUNT, event 0x0402, gates, the pending switch. (log entry 23: DESIGN CHOICE) -/
def stepClock (ns : Nat) (d : Device) : Device :=
  let delta : Int := (ns : Int) - (localNs d : Int)
  let move (x : Domain) : Domain := { x with offsetNs := x.offsetNs - delta, measuredAt := x.measuredAt.map (· + delta) }
  let d := endSlew true d
  let t :=
    { d.tim with
      sec := BitVec.ofNat 48 (ns / 1000000000), ns := BitVec.ofNat 30 (ns % 1000000000), frac := 0
      step := d.tim.step + 1, domA := move d.tim.domA, domB := move d.tim.domB }
  stepPending (gateStep (raise sqTIM 0 0x0402 0 { d with tim := t }))

/-! ### Selection (04 R115, R116, R121 to R124) -/

/-- HOLDOVER: the clock runs at the last INCR (04 R116, R124). -/
def enterHoldover (d : Device) : Device :=
  if d.tim.mode = .holdover then d
  else raise sqTIM 3 0x0405 0 (endSlew false { d with tim := { d.tim with mode := .holdover } })

def beyond (d : Device) (off : Int) : Bool := decide (d.cfg.tim.slewWindowNs < absInt off)

/-- Clamp INCR to 4 ns ± 500 ppm (04 R104). (log entry 23: DESIGN CHOICE) -/
def setIncr (v : Int) (d : Device) : Device :=
  let lo : Int := 0x03FF7CED91
  let hi : Int := 0x040083126F
  let c := max lo (min hi v)
  let d := { d with tim := { d.tim with incr := BitVec.ofInt 40 c } }
  if v < lo ∨ hi < v then raise sqTIM 6 0x0409 0 d else d

/-- SLEW_MAX in units of INCR. -/
def slewLimit (d : Device) : Nat := 17179869184 * d.cfg.tim.slewMaxPpm / 1000000

/-- A slewing correction of INCR, at most SLEW_MAX (04 R116): `delta` in 2^-32 ns is what the time manager wants. It waits while a split is
slewed out. (log entry 23: DESIGN CHOICE) -/
def slew (delta : Int) (d : Device) : Device :=
  if d.tim.slewLeft ≠ 0 then d
  else setIncr ((d.tim.incr.toNat : Int) + max (-(slewLimit d : Int)) (min (slewLimit d : Int) delta)) d

/-- A split in ns begins to be slewed out at SLEW_MAX (04 R122). -/
def startSlew (split : Int) (d : Device) : Device :=
  if split = 0 then d
  else
    let d0 := endSlew true d
    let d := setIncr ((d0.tim.incr.toNat : Int) + (if 0 < split then (slewLimit d0 : Int) else -(slewLimit d0 : Int))) d0
    let step : Int := (d.tim.incr.toNat : Int) - (d0.tim.incr.toNat : Int)
    { d with tim := { d.tim with slewStep := step, slewLeft := if step = 0 then 0 else split * 4294967296 } }

/-- The selected domain's offset decides between LOCKED and HOLDOVER (04 R116). (log entry 23: DESIGN CHOICE) -/
def judgeOffset (d : Device) : Device :=
  let off := (domOf d d.tim.selB).offsetNs
  if beyond d off then
    if d.tim.mode = .locked then enterHoldover (raise sqTIM 2 0x0404 0 d) else d
  else { d with tim := { d.tim with mode := .locked } }

/-- Select the other domain (04 R122, R124). -/
def switchTo (b : Bool) (d : Device) : Device :=
  let split := (domOf d b).offsetNs - (domOf d (!b)).offsetNs
  let d := raise sqTIM 1 0x0403 0 { d with tim := { d.tim with selB := b } }
  let d := { d with tim := { d.tim with lost := false } }
  if d.tim.mode = .locked then
    if beyond d split then enterHoldover (raise sqTIM 2 0x0404 0 d) else startSlew split d
  else judgeOffset d

/-- Both engines run the same profile, so that the time manager selects between them (04 Table TIM-4). -/
def sameProfile (d : Device) : Bool := decide (d.cfg.tim.domA.profile = d.cfg.tim.domB.profile)

/-- Keep `usableSince` of a domain. -/
def noteUsable (b : Bool) (d : Device) : Device :=
  let x := domOf d b
  let u := usable d b
  let since := if u then (match x.usableSince with | some t => some t | none => some d.now) else none
  setDom b { x with usableSince := since } d

/-- After a change of a domain: switch, lose, or return (04 R122, R124). In FREE_RUN, and after a restart until a domain has been selected
again (R118), nothing is selected. -/
def reviewDomains (d : Device) : Device :=
  let d := noteUsable true (noteUsable false d)
  if d.tim.mode = .freeRun ∨ d.tim.unselected then d
  else
    let sel := d.tim.selB
    if usable d sel then
      if d.tim.lost then judgeOffset { d with tim := { d.tim with lost := false } } else d
    else if usable d (!sel) && sameProfile d then switchTo (!sel) d
    else if d.tim.lost then d
    else raise sqTIM 4 0x0406 0 (enterHoldover { d with tim := { d.tim with lost := true } })

/-- The domain that a lock takes: the one named when it is usable, otherwise the other (04 R117, R121). -/
def choose (d : Device) (b : Bool) : Option Bool :=
  if usable d b then some b else if usable d (!b) && sameProfile d then some (!b) else none

/-- The domain of the first lock (04 R121): PREFERRED when usable, otherwise the other. -/
def firstChoice (d : Device) : Option Bool := choose d d.cfg.tim.preferredB

/-- After a commanded step (04 R117): the domain that SEL names when it is usable, otherwise the other, and LOCKED; without a usable domain,
HOLDOVER. A LOCKED clock stays so. The next correction judges the offset. (log entry 23: DESIGN CHOICE) -/
def afterStep (d : Device) : Device :=
  let free := decide (d.tim.mode = .freeRun)
  match choose d (if free then d.cfg.tim.preferredB else d.tim.selB) with
  | some b =>
    let d := { d with tim := { d.tim with selB := b, mode := .locked, lost := false, unselected := false } }
    if free then raise sqTIM 8 0x0401 0 d else d
  | none => if d.tim.mode = .locked then d else enterHoldover d

/-- A correction from a domain whose offset has just been measured: the first one locks (04 R115), the first one after a restart selects
again (R118), and a later one slews the clock (R116). (log entry 23: DESIGN CHOICE) -/
def corrected (b : Bool) (delta : Int) (d : Device) : Device :=
  let off := (domOf d b).offsetNs
  if d.tim.mode = .freeRun then
    if firstChoice d ≠ some b then d
    else
      let d := { d with tim := { d.tim with selB := b, unselected := false } }
      let d := if beyond d off then stepClock ((localNs d : Int) + off).toNat d else slew delta d
      raise sqTIM 8 0x0401 0 { d with tim := { d.tim with mode := .locked } }
  else
    let d := if d.tim.unselected && decide (firstChoice d = some b) then
        { d with tim := { d.tim with selB := b, unselected := false, lost := false } } else d
    if d.tim.selB = b ∧ usable d b ∧ !d.tim.unselected then
      let d := judgeOffset d
      if d.tim.mode = .locked then slew delta d else d
    else d

/-! ### Best master clock and port roles (04 R120, R121, Table TIM-4) -/

/-- Priority vectors in the order of the best master clock algorithm. (log entry 22: PRESUMED) -/
def vecLess : List Nat → List Nat → Bool
  | [], _ => false
  | _, [] => true
  | a :: as, b :: bs => decide (a < b) || (decide (a = b) && vecLess as bs)

/-- The NV8's own grandmaster attributes in a domain (04 R121): priority1 255 when it cannot be grandmaster. (log entry 22: PRESUMED) -/
def ownVec (d : Device) (b : Bool) : List Nat :=
  let c := domCfg d b
  [if c.gmCapable && d.glb.deviceId.isSome then c.gmPriority1 else 255, 248, 254, 65535, c.gmPriority2, Config.uid.toNat]

/-- The NV8 can be grandmaster of a domain. (log entry 22: PRESUMED) -/
def canBeGm (d : Device) (b : Bool) : Bool := (domCfg d b).gmCapable && d.glb.deviceId.isSome

/-- Ports that can carry a domain: 0 to 24 and PL (04 Table TIM-4). -/
def ptpPort (p : Nat) : Bool := decide (p < 25) || decide (p = 37)

/-- A port takes part in a domain: its link is up and, for gPTP, its neighbour is asCapable (04 R134, R135). -/
def ptpLive (d : Device) (b : Bool) (p : Nat) : Bool :=
  ptpPort p && !portDown d p && ((portSt d p).asCapable || decide ((domCfg d b).profile ≠ .gptp))

/-- The role of a port in a domain (04 R120): what external port configuration gives, else that of the best master clock algorithm.
(log entry 22: PRESUMED) -/
def portRole (d : Device) (b : Bool) (p : Nat) : PtpRole :=
  let x := domOf d b
  if !ptpLive d b p then .disabled
  else match (portDom d b p).ext with
    | some r => r
    | none =>
      if x.gmValid && !x.gmIsSelf && decide (x.slavePort = some p) then .slave
      else if x.gmValid && !x.gmIsSelf && (match (domCfg d b).profile with | .ieee1588 _ bc => !bc | .gptp => false) then .passive
      else match lookup? x.heard p with
        | some (v, _) => if x.gmValid && !vecLess x.vec v then .passive else .master
        | none => .master

/-- Some port is the slave by external port configuration. -/
def extSlave (d : Device) (b : Bool) : Bool :=
  (List.range 38).any (fun p => ptpLive d b p && decide ((portDom d b p).ext = some .slave))

/-- The best Announce heard on a port that may become the slave: its port and vector. (log entry 22: PRESUMED) -/
def heardBest (d : Device) (b : Bool) : Option (Nat × List Nat) :=
  let may (p : Nat) : Bool := ptpLive d b p &&
    (if extSlave d b then decide ((portDom d b p).ext = some .slave) else decide ((portDom d b p).ext = none))
  ((domOf d b).heard.filter (fun x => may x.1)).foldl (fun acc x =>
    match acc with
    | none => some (x.1, x.2.1)
    | some y => if vecLess x.2.1 y.2 then some (x.1, x.2.1) else some y) none

/-- Take a grandmaster; a change of identity starts GM_HOLD (04 R121) and the measurement afresh. (log entry 22: PRESUMED) -/
def setGm (b : Bool) (gm : BitVec 64) (self : Bool) (vec : List Nat) (port : Option Nat) (d : Device) : Device :=
  let x := domOf d b
  let x := { x with gmIsSelf := self, vec := vec, slavePort := port }
  setDom b (if x.gmValid && decide (x.gm = gm) then x
    else { x with gm := gm, gmValid := true, gmSince := d.now, measuredAt := none, rate := 0, relay := none,
                  offsetNs := if self then 0 else x.offsetNs }) d

/-- The best master clock algorithm of a domain: the best heard, the NV8 itself where it can be grandmaster and is better or none is heard,
or none (04 R121). (log entry 22: PRESUMED) -/
def reselect (b : Bool) (d : Device) : Device :=
  let self := canBeGm d b && !extSlave d b
  reviewDomains (match heardBest d b with
    | some (p, v) =>
      if self && vecLess (ownVec d b) v then setGm b Config.uid true (ownVec d b) none d
      else setGm b (BitVec.ofNat 64 (v.getLastD 0)) false v (some p) d
    | none =>
      if self then setGm b Config.uid true (ownVec d b) none d
      else setDom b { domOf d b with gmValid := false, gmIsSelf := false, vec := [], slavePort := none, lastAnnounce := none, relay := none } d)

/-- A port leaves both domains at once: its link went down, or its neighbour lost asCapable (04 R135). -/
def leaveDomains (p : Nat) (d : Device) : Device :=
  [false, true].foldl (fun d b =>
    if (lookup? (domOf d b).heard p).isNone then d
    else reselect b (setDom b { domOf d b with heard := removeAt (domOf d b).heard p } d)) d

/-! ### gPTP messages -/

/-- A timestamp in 2^-16 ns. -/
def stampFine (s : Stamp) : Int := (((s.sec.toNat * 1000000000 + s.ns.toNat) * 65536 + s.frac.toNat : Nat) : Int)

/-- A message of a domain on a port (04 R111, Table TIM-4). -/
def ptpMsg (d : Device) (b : Bool) (kind : PtpKind) (p : Nat) : PtpMsg :=
  { kind := kind, port := p, dom := (domCfg d b).number.toNat, transport := (domCfg d b).transport, stamp := egressStamp p 0 d }

/-- Mean link delay of a port with its asymmetry (04 R120, Table TIM-2), in 2^-16 ns. -/
def linkDelayFine (d : Device) (p : Nat) : Int := (((portSt d p).pdelayPs : Int) + (portCfg d p).ptp.delayAsymPs) * 65536 / 1000

/-- The rate ratio from two measurements of the offset, minus 1, in 2^-41 (04 R120); without an earlier one, what it was. -/
def rateOf (x : Domain) (off at_ : Int) : Int :=
  match x.measuredAt with
  | some t => if t < at_ then (off - x.offsetNs) * 2199023255552 / (at_ - t) else x.rate
  | none => x.rate

/-- SYNC_RECEIVED: a Sync whose origin time is `origin` ns, with a correction in 2^-16 ns, arrives on the slave port of a domain; the engine
measures its grandmaster's offset and rate against the local clock (04 R120), and keeps it for the relay (R125). `delta` is the INCR
correction the time manager computes. With delay request-response the slave asks for its delay. (log entry 23: DESIGN CHOICE, 24: DESIGN CHOICE) -/
def syncReceived (b : Bool) (p : Nat) (m : SyncMsg) (delta : Int) (d : Device) : Device :=
  if portRole d b p ≠ .slave then d
  else
    let x := domOf d b
    let st := ingressStamp p 0 d
    let c := m.corr + linkDelayFine d p
    let off := ((m.origin : Int) * 65536 + c - stampFine st) / 65536
    let at_ := stampFine st / 65536
    let d := setDom b { x with
      lastSync := some d.now, offsetNs := off, rate := rateOf x off at_, measuredAt := some at_
      relay := if (domCfg d b).profile = .gptp then some { at_ := stampFine st, step := st.step, origin := m.origin, corr := c } else none } d
    let d := { d with tim := { d.tim with splitD := splitOf d } }
    let d := match (domCfg d b).profile with
      | .ieee1588 true _ => emit (.ptp (ptpMsg d b .delayReq p)) d
      | _ => d
    corrected b delta (reviewDomains d)

/-- ANNOUNCE_RECEIVED: the vector heard on a port, and the best master clock algorithm of its domain (04 R120, R121). (log entry 22: PRESUMED, 24: DESIGN CHOICE) -/
def announceReceived (b : Bool) (p : Nat) (gm : BitVec 64) (vec : List Nat) (d : Device) : Device :=
  if !ptpLive d b p then d
  else
    let d := reselect b (setDom b { domOf d b with heard := insertAt (domOf d b).heard p (vec ++ [gm.toNat], d.now) } d)
    let x := domOf d b
    if x.slavePort = some p then setDom b { x with lastAnnounce := some d.now } d else d

/-- SYNC_RECEIPT_TIMEOUT: no Sync for syncReceiptTimeout; the domain becomes unusable (04 R121, R122, R124). -/
def syncReceiptTimeout (b : Bool) (d : Device) : Device :=
  let x := domOf d b
  match x.lastSync with
  | some t => if t + syncTimeoutPs d b ≤ d.now then reviewDomains (setDom b { x with lastSync := none } d) else d
  | none => d

/-- ANNOUNCE_RECEIPT_TIMEOUT: what the slave port heard has aged; the best master clock algorithm runs without it (04 R121). -/
def announceReceiptTimeout (b : Bool) (d : Device) : Device :=
  let x := domOf d b
  match x.lastAnnounce, x.slavePort with
  | some t, some p =>
    if x.gmIsSelf ∨ d.now < t + announceTimeoutPs d b then d
    else reselect b (setDom b { x with heard := removeAt x.heard p, lastAnnounce := none } d)
  | _, _ => d

/-- GM_HOLD_EXPIRY: the grandmaster identity has not changed for GM_HOLD (04 R121, R124). -/
def gmHoldExpiry (b : Bool) (d : Device) : Device :=
  if usable d b then reviewDomains d else d

/-- REVERT_HOLD_EXPIRY: with REVERT on, PREFERRED has been usable for REVERT_HOLD (04 R123). -/
def revertHoldExpiry (d : Device) : Device :=
  let p := d.cfg.tim.preferredB
  match (domOf d p).usableSince with
  | some t =>
    if d.cfg.tim.revert && sameProfile d && decide (d.tim.mode ≠ .freeRun) && !d.tim.unselected && decide (d.tim.selB ≠ p) && usable d p &&
        decide (t + secPs d.cfg.tim.revertHoldS ≤ d.now) then switchTo p d
    else d
  | none => d

/-- A Sync and its follow-up leave (04 Table TIM-4: two-step transmit). -/
def sendSync (b : Bool) (p origin : Nat) (corr rate : Int) (d : Device) : Device :=
  emitAll [.ptp { ptpMsg d b .sync p with priority1 := (domOf d b).vec.getD 0 255 },
    .ptp { ptpMsg d b .followUp p with origin := origin, corr := corr, rate := rate }] d

/-- SYNC_SEND: on a master port, a Sync of the NV8's own where it is grandmaster (04 R121), the relay of the one received, with the residence
time between its timestamps in the domain's rate (R125) unless the clock was stepped between them (R117), or the Sync of a boundary clock
(Table TIM-4). Its own Sync measures an offset of 0. (log entry 24: DESIGN CHOICE) -/
def syncSend (b : Bool) (p : Nat) (d : Device) : Device :=
  let x := domOf d b
  let st := egressStamp p 0 d
  if portRole d b p ≠ .master then d
  else if x.gmIsSelf then
    if !canBeGm d b then d
    else
      let d := sendSync b p (localNs d) 0 0 d
      corrected b 0 (reviewDomains (setDom b { domOf d b with lastSync := some d.now, offsetNs := 0, rate := 0 } d))
  else match (domCfg d b).profile, x.relay with
    | .gptp, some r =>
      if r.step ≠ st.step then setDom b { x with relay := none } d
      else if r.sent.contains p then d
      else
        let residence := (stampFine st - r.at_) * (2199023255552 + x.rate) / 2199023255552
        setDom b { x with relay := some { r with sent := p :: r.sent } } (sendSync b p r.origin (r.corr + residence) x.rate d)
    | .ieee1588 _ true, _ =>
      if x.gmValid && x.lastSync.isSome then sendSync b p ((localNs d : Int) + x.offsetNs).toNat 0 0 d else d
    | _, _ => d

/-- ANNOUNCE_SEND: a master port announces the grandmaster that the NV8 follows or, following none, its own attributes: priority1 255 unless
it is grandmaster-capable with a device ID (04 R121). -/
def announceSend (b : Bool) (p : Nat) (d : Device) : Device :=
  let d := if canBeGm d b && !(domOf d b).gmValid then reselect b d else d
  let x := domOf d b
  if portRole d b p ≠ .master then d
  else
    let v := if x.gmValid then x.vec else ownVec d b
    emit (.ptp { ptpMsg d b .announce p with priority1 := v.getD 0 255 }) d

/-! ### Peer delay (04 R126, R134; 05 R170, R171) -/

/-- Effective link-delay bound of a port in ps (05 R170). (log entry 28: DESIGN CHOICE) -/
def effectiveBound (d : Device) (p : Nat) : Nat :=
  let lb := (portCfg d p).linkBoundNs * 1000
  let st := portSt d p
  if 16 ≤ st.pdelayCount then max lb st.pdelayMaxPs else lb

/-- Flag the admitted streams that come in on a port (05 R171). -/
def flagStreams (p : Nat) (d : Device) : Device :=
  (d.cfg.sch.streams.filter (fun x => (x.2.cls = .scheduled ∨ x.2.cls = .reserved) ∧ x.2.ingress = p)).foldl
    (fun d x => setStream x.1 { lookupD d.sch.streams x.1 {} with flagged := true } d) d

/-- PDELAY_MEASUREMENT: a new peer-delay value reaches the admission manager (04 R126); when the effective bound of
the port rises, its streams are flagged and checked again (05 R171). (log entry 28: DESIGN CHOICE) -/
def pdelayMeasurement (p ps : Nat) (d : Device) : Device :=
  if portDown d p then d
  else
    let old := effectiveBound d p
    let ok := decide (ps ≤ (portCfg d p).ptp.propThreshPs)
    let d := modPort p (fun s => { s with
      pdelayPs := ps, pdelayCount := s.pdelayCount + 1, pdelayMaxPs := max s.pdelayMaxPs ps, pdelayLost := 0, asCapable := ok }) d
    let d := if ok then d else leaveDomains p d
    let new := effectiveBound d p
    if old < new then raise sqSCH 2 0x0502 p (flagStreams p { d with sch := { d.sch with effBound := insertAt d.sch.effBound p new, recheck := true } }) else d

/-- PDELAY_REQ_SEND: a peer-delay request leaves; it counts as unanswered until a measurement (04 R120). -/
def pdelayReqSend (p : Nat) (d : Device) : Device :=
  if portDown d p then d
  else emit (.ptp (ptpMsg d false .pdelayReq p)) (modPort p (fun s => { s with pdelayLost := s.pdelayLost + 1 }) d)

/-- PDELAY_REQ_RECEIVED: a response and its follow-up leave by the same port, while its link is up (04 R135). (log entry 24: DESIGN CHOICE) -/
def pdelayReqReceived (p : Nat) (d : Device) : Device :=
  if portDown d p then d
  else emitAll [.ptp (ptpMsg d false .pdelayResp p), .ptp (ptpMsg d false .pdelayRespFollowUp p)] d

/-- PDELAY_FAIL: more than allowedLostResponses requests went unanswered (04 Table TIM-5). -/
def pdelayFail (p : Nat) (d : Device) : Device :=
  let st := portSt d p
  if (portCfg d p).ptp.allowedLost < st.pdelayLost ∧ st.asCapable then
    raise sqTIM 5 0x0408 p (leaveDomains p (modPort p (fun s => { s with asCapable := false }) d))
  else d

/-! ### Registers of TIM -/

/-- TIM_SNAP: a write of 1 to bit 0 latches the clock (04 R137). -/
def timSnap (w : Word) (d : Device) : Device :=
  if w.getLsbD 0 then
    let s : Snap := { sec := d.tim.sec, ns := d.tim.ns, frac := d.tim.frac, ts32 := ts32 d, step := d.tim.step }
    { d with tim := { d.tim with snap := s } }
  else d

/-- TXTS_POP: release the min(N, TXTS_LEVEL) oldest entries of a port's queue (04 R132). -/
def txtsPop (p n : Nat) (d : Device) : Device :=
  modPort p (fun s => { s with txts := s.txts.drop n, txtsFull := s.txtsFull && decide (64 ≤ (s.txts.drop n).length) }) d

/-- KEEPER_TIME_WRITE: while LOCKED, the local clock goes to the Keeper's counter (04 R106). (log entry 25: DEDUCED) -/
def keeperTimeWrite (d : Device) : Device :=
  if d.tim.mode = .locked then
    let k := { d.keeper with timeSec := d.tim.sec, timeSub := BitVec.ofNat 15 (d.tim.ns.toNat * 32768 / 1000000000), timeOk := true }
    { d with keeper := k }
  else d

/-- Load the local clock from the Keeper (04 R106): FREE_RUN; 0 s and KEEPER_INVALID when the counter is invalid. (log entry 25: DEDUCED) -/
def loadClock (d : Device) : Device :=
  let t := d.tim
  if d.keeper.timeOk then
    { d with tim := { t with sec := d.keeper.timeSec, ns := BitVec.ofNat 30 (d.keeper.timeSub.toNat * 1000000000 / 32768), frac := 0, mode := .freeRun, selB := d.cfg.tim.preferredB, keeperInvalid := false } }
  else
    { d with tim := { t with sec := 0, ns := 0, frac := 0, mode := .freeRun, selB := d.cfg.tim.preferredB, keeperInvalid := true } }

end Sys2Proof.Machine
end

