-- ==== Sys2Proof/Machine/FaultOps.lean ====
section
/-! DEFINITION. The fault ledger (21 R580 to R588), the protection state (01 R33) and late error records of routes,
commands and DMA (21 R594). The effect of a retirement is the caller's: its unit hands it over. -/

namespace Sys2Proof.Machine

/-- Kinds of Table FLT-1 in its order. -/
def ledgerKind (i : Nat) : Nat :=
  if i < 32 then 0 else if i < 40 then 1 else if i < 48 then 2 else if i < 64 then 3
  else if i < 128 then 4 else if i < 144 then 5 else if i < 152 then 6 else if i < 156 then 7 else 8

/-- Indices that are channels (21 Table FLT-1). -/
def ledgerValid (i : Nat) : Bool :=
  decide (i < 30) || (decide (32 ≤ i) && decide (i < 34)) || (decide (40 ≤ i) && decide (i < 50)) || (decide (64 ≤ i) && decide (i < 116)) ||
  (decide (128 ≤ i) && decide (i < 138)) || (decide (144 ≤ i) && decide (i < 148)) || decide (i = 152) || decide (i = 156)

/-- Event ID of a kind's ledger codes. -/
def ledgerId (k : Nat) : Nat :=
  ([0x15, 0x14, 0x0A, 0x0B, 0x01, 0x02, 0x0F, 0x12, 0x0E] : List Nat).getD k 0

/-- Channel number within its kind. -/
def ledgerChan (i : Nat) : Nat := i - ([0, 32, 40, 48, 64, 128, 144, 152, 156] : List Nat).getD (ledgerKind i) 0

def ledgerCfg (d : Device) (i : Nat) : LedgerCfg := lookupD d.cfg.flt (ledgerKind i) {}

def ledgerOf (d : Device) (i : Nat) : Ledger := lookupD d.flt.ledger i {}

def setLedger (i : Nat) (x : Ledger) (d : Device) : Device :=
  { d with flt := { d.flt with ledger := insertAt d.flt.ledger i x } }

/-- A channel in service. -/
def inService (d : Device) (i : Nat) : Bool := decide ((ledgerOf d i).state = .inService)

/-- The event code of a ledger entry: its kind's event ID and the low byte (21 R582). (log entry 59: DEDUCED) -/
def ledgerCode (i low : Nat) : BitVec 16 := BitVec.ofNat 16 (ledgerId (ledgerKind i) * 256 + low)

/-- Saturating increment. -/
def satInc {w : Nat} (v : BitVec w) : BitVec w := if v = BitVec.allOnes w then v else v + 1

/-- A channel retires (21 R585): the unit's effect first, then the entry and code 0xF1. -/
def retire (i : Nat) (hard : Bool) (effect : Device → Device) (d : Device) : Device :=
  let d := effect d
  let e := ledgerOf d i
  let d := setLedger i { e with state := .retired, lastHard := hard, retirements := satInc e.retirements } d
  raise sqFLT 1 (ledgerCode i 0xF1) (ledgerChan i) d

/-- A transient (21 R582, R584): the sliding window of the newest TRANSIENT_LIMIT transients. -/
def transient (i : Nat) (code : BitVec 16) (effect : Device → Device) (d : Device) : Device :=
  let c := ledgerCfg d i
  let e := ledgerOf d i
  let times := (d.now :: e.times).take c.limit
  let e := { e with times := times, transients := e.transients + 1, lastCode := code, faulted := true }
  let d := setLedger i e d
  let full := decide (times.length = c.limit) && decide (d.now - times.getLastD 0 ≤ c.windowMs * 1000000000)
  if e.state = .inService ∧ full then retire i false effect d else d

/-- A hard fault (21 R584, R585): code 0xF4, then retirement. -/
def hardFault (i : Nat) (code : BitVec 16) (effect : Device → Device) (d : Device) : Device :=
  let e := ledgerOf d i
  let d := setLedger i { e with hard := satInc e.hard, lastCode := code, faulted := true } d
  let d := raise sqFLT 0 (ledgerCode i 0xF4) (ledgerChan i) d
  if e.state ≠ .inService then d else retire i true effect d

/-- A channel returns to service with a cleared window (21 R586). -/
def restored (i : Nat) (d : Device) : Device :=
  let e := ledgerOf d i
  raise sqFLT 2 (ledgerCode i 0xF2) (ledgerChan i) (setLedger i { e with state := .inService, times := [] } d)

/-- Transients in the current window (21 LED_STATE). -/
def windowCount (d : Device) (i : Nat) : Nat :=
  ((ledgerOf d i).times.filter (fun t => d.now - t ≤ (ledgerCfg d i).windowMs * 1000000000)).length

/-! ### Protection state (01 Table ARC-9, R33) -/

/-- The partner replicates and both journal copies are in service, one of them, or none; a ready standby stands in the replicating pair
(01 Table ARC-10). (log entry 95: DESIGN CHOICE) -/
def protOf (d : Device) : BitVec 2 :=
  let a := d.asd.replicating || (decide (d.pair.role = .standbyReady) && d.pair.wyUp)
  let b := decide (d.asd.copiesIn = 3)
  if a && b then 0 else if a || b then 1 else 2

/-- The admission manager enters the state and raises the event of each change. (log entry 95: DESIGN CHOICE) -/
def reviewProt (d : Device) : Device :=
  let p := protOf d
  if p = d.glb.prot then d
  else raise sqASD 0 (BitVec.ofNat 16 (0x0600 + p.toNat)) 0 { d with glb := { d.glb with prot := p } }

/-! ### Renioft -/

/-- Renioft executes: it has been started, the complex runs and no debugger holds the running core (15 Table CCR-3, R458). -/
def renioftRuns (d : Device) : Bool :=
  d.ssn.renioft && (decide (d.ccr.mode = .compared) || decide (d.ccr.mode = .uncompared) || decide (d.ccr.mode = .split)) &&
  !d.ccr.reloading && !(if d.ccr.onCore1 then d.ccr.core1.halted else d.ccr.core0.halted)

/-- The device is IMPAIRED (21 R590). -/
def impairedNow (d : Device) : Bool :=
  d.flt.ledger.any (fun x => decide (x.2.state ≠ .inService) &&
    ((decide (128 ≤ x.1) && decide (x.1 < 138)) || decide (x.1 = 114) || decide (x.1 = 115) || decide (x.1 = 152))) ||
  decide (d.ccr.mode = .uncompared) || decide (d.ccr.mode = .halted)

/-- HLTH_N is driven low, meaning healthy (21 R591). -/
def healthy (d : Device) : Bool :=
  let strict := d.cfg.flt.any (fun x => x.2.strict)
  decide (d.ssn.season = .summer) && d.ssn.leaving.isNone && !d.boot.recovery && !d.boot.inReset &&
  (decide (d.ccr.mode = .compared) || decide (d.ccr.mode = .split)) &&
  !(decide (d.pair.role = .failed) || decide (d.pair.role = .electing)) && !impairedNow d && !d.sec.tampered &&
  (!strict || (d.flt.ledger.all (fun x => decide (x.2.state ≠ .retired) || !(ledgerCfg d x.1).strict) &&
    (decide (d.glb.prot = 0) || decide (d.pair.role = .unpaired))))

/-- HLTH_N follows its conditions, released in reset and without power (21 R591). -/
def reviewHealth (d : Device) : Device :=
  let h := healthy d
  if d.flt.hlthLow = h then d else emit (.pin .hlthN (!h)) { d with flt := { d.flt with hlthLow := h } }

/-! ### Lanes (21 Table FLT-1) -/

/-- An Ethernet lane retires: transmitter off, PRT_LINK retired bit, link groups move (02 R53). -/
def laneRetired (p : Nat) (d : Device) : Device :=
  linkDown p (modPort p (fun s => { s with retired := true, txOn := false }) d)

end Sys2Proof.Machine
end

