-- ==== Sys2Proof/Machine/FlashOps.lean ====
section
/-! DEFINITION. Image slots in flash and the open update (20 R555, R556, R564, R565); stored replies on a retired DRAM channel
(16 R482). -/

namespace Sys2Proof.Machine

/-- A byte of the staged package, where it has arrived. -/
def updByte (u : Update) (i : Nat) : Option Byte :=
  (u.blocks.find? (fun b => decide (b.1 ≤ i ∧ i < b.1 + b.2.length))).bind (fun b => b.2[i - b.1]?)

/-- Image kind 0 to 4 of the package, once byte 4 of its header is known. -/
def updKind (u : Update) : Option Nat := (updByte u 4).map (fun b => b.toNat - 1)

def imageKind (d : Device) (k : Nat) : KindSlots := lookupD d.flash k {}

def slotAtB (x : KindSlots) (b : Bool) : FlashSlot := if b then x.b else x.a

def setSlotB (x : KindSlots) (b : Bool) (s : FlashSlot) : KindSlots := if b then { x with b := s } else { x with a := s }

/-- A directory change writes the other copy with DSEQ + 1 (20 R556). -/
def setKind (k : Nat) (x : KindSlots) (d : Device) : Device := { d with flash := insertAt d.flash k x, dseq := d.dseq + 1 }

def freeSlot (x : KindSlots) : FlashSlot := slotAtB x (!x.ptrB)

/-- The update closes; a rebuild that had begun leaves the free slot EMPTY (20 R565). -/
def closeUpdate (d : Device) : Device :=
  match d.boot.update with
  | none => d
  | some u =>
    let d := reviewSpill { d with boot := { d.boot with update := none } }
    match u.rebuilding, updKind u with
    | true, some k => let x := imageKind d k
      setKind k (setSlotB x (!x.ptrB) {}) d
    | _, _ => d

/-! ### Stored replies (16 R480, R482) -/

def setSession (s : Nat) (x : Session) (d : Device) : Device := { d with ncp := { d.ncp with sessions := insertAt d.ncp.sessions s x } }

def sessionOf (d : Device) (s : Nat) : Session := lookupD d.ncp.sessions s {}

/-- The reply slot of a number lies on DRAM channel `ch`: slots of 2 KiB lie on the channels in turn (01 R23, 16 R480; log entry 3). -/
def slotOn (ch s q : Nat) : Bool := decide ((s * 4096 + q % 4096 + Config.replyChannel) % 2 = ch)

/-- A stored reply of number `q` of session `s`, if its slot lay on the retired channel. -/
def loseReply (ch s q : Nat) (x : NcpRec) (d : Device) : NcpRec × Device :=
  match x.reply with
  | none => (x, d)
  | some r =>
    if r.lost || !slotOn ch s q then (x, d)
    else ({ x with reply := some { r with lost := true, body := [] } }, bump (0x81000 + 7 * 8) d)

def loseRecs (ch s : Nat) : Tbl NcpRec → Device → Tbl NcpRec × Device
  | [], d => ([], d)
  | (k, x) :: rest, d =>
    let (x', d) := loseReply ch s k x d
    let (rest', d) := loseRecs ch s rest d
    ((k, x') :: rest', d)

/-- Replies on retired DRAM channel `ch` are reloaded from a ready partner, or lost (16 R482). -/
def repliesLost (ch : Nat) (d : Device) : Device :=
  if d.pair.partnerReady then d
  else
    let before := counter (0x81000 + 7 * 8) d
    let d := d.ncp.sessions.foldl (fun d x =>
      let (recs, d) := loseRecs ch x.1 x.2.recs d
      setSession x.1 { x.2 with recs := recs } d) d
    if counter (0x81000 + 7 * 8) d = before then d else raise sqNCP 4 0x1005 0 d

end Sys2Proof.Machine
end

