-- ==== Sys2Proof/Machine/HifOps.lean ====
section
/-! DEFINITION. Shared operations of the host interface (17): channels, translation, faults. -/

namespace Sys2Proof

/-! ### Fields of the descriptors (17 Table HIF-2, Table HIF-3), in little-endian words (00 R5) -/

/-- Word n of a descriptor. -/
def TxDesc.word (t : TxDesc) (n : Nat) : Nat := leAt t.bytes (4 * n) 4
def RxDesc.word (t : RxDesc) (n : Nat) : Nat := leAt t.bytes (4 * n) 4

def TxDesc.addr (t : TxDesc) : Nat := t.word 0 + t.word 1 % 65536 * 4294967296
def TxDesc.len (t : TxDesc) : Nat := t.word 2 % 16384
def TxDesc.tc (t : TxDesc) : Nat := t.word 2 / 65536 % 8
def TxDesc.tsReq (t : TxDesc) : Bool := decide (t.word 2 / 524288 % 2 = 1)
def TxDesc.gw (t : TxDesc) : Bool := decide (t.word 2 / 1048576 % 2 = 1)
def TxDesc.tsId (t : TxDesc) : BitVec 16 := BitVec.ofNat 16 (t.word 3)

/-- A reserved bit is set (17 R492); DD and RESULT of word 7 are the NV8's own. -/
def TxDesc.rsv (t : TxDesc) : Bool :=
  decide (t.word 1 / 65536 ≠ 0) || decide (t.word 2 / 16384 % 4 ≠ 0) || decide (t.word 2 / 2097152 ≠ 0) || decide (t.word 3 / 65536 ≠ 0) ||
  decide (t.word 4 ≠ 0) || decide (t.word 5 ≠ 0) || decide (t.word 6 ≠ 0) || decide (t.word 7 / 16 % 134217728 ≠ 0)

def RxDesc.addr (t : RxDesc) : Nat := t.word 0 + t.word 1 * 4294967296
def RxDesc.bufLen (t : RxDesc) : Nat := t.word 2 % 16384

end Sys2Proof

namespace Sys2Proof.Machine

def modHif (g : HifState → HifState) (d : Device) : Device := { d with hif := g d.hif }

def hifPage (d : Device) (q : Nat) : HifPage := lookupD d.hif.pages q {}

def setPage (q : Nat) (x : HifPage) (d : Device) : Device := modHif (fun h => { h with pages := insertAt h.pages q x }) d

def chOf (p : HifPage) (rx : Bool) : HostCh := if rx then p.rx else p.tx

def setCh (rx : Bool) (c : HostCh) (p : HifPage) : HifPage := if rx then { p with rx := c } else { p with tx := c }

def channel (d : Device) (q : Nat) (rx : Bool) : HostCh := chOf (hifPage d q) rx

def setChannel (q : Nat) (rx : Bool) (c : HostCh) (d : Device) : Device := setPage q (setCh rx c (hifPage d q)) d

def isRunning (d : Device) (q : Nat) (rx : Bool) : Bool := decide ((channel d q rx).st = .running)

/-- Counter k of queue q (17 R510). -/
def hifCtr (q k n : Nat) (d : Device) : Device := if q < 64 then bumpBy (0x688000 + q * 0x40 + k * 8) n d else d

def pointNo : StallAt → Nat
  | .txDesc | .txData | .txDd => 0
  | .rxDesc | .rxWrite => 1
  | .cmdRead => 2
  | .rplWrite => 3

/-- A fault stalls its channel (17 R503). `ref`: descriptor index, or SEQ of a reply write. -/
def hifFault (q : Nat) (at_ : StallAt) (ty : Nat) (walk write : Bool) (idx iova : Nat) (ref : Word) (d : Device) : Device :=
  let rx := decide (pointNo at_ ≠ 0)
  let info := 2147483648 + (idx % 4096) * 65536 + pointNo at_ * 64 + (if walk then 32 else 0) + (if write then 16 else 0) + ty
  let p := { hifPage d q with faultInfo := BitVec.ofNat 32 info, faultIova := BitVec.ofNat 64 iova }
  let d := hifCtr q 4 1 (setPage q (setCh rx { st := .stalled, stall := some at_ } p) d)
  let d := if 6 ≤ ty then raise sqHIF 1 0x1102 q d else raise sqHIF 0 0x1101 q d
  let org : BitVec 2 := if q < 64 then 2 else 1
  lateRecord { reason := BitVec.ofNat 16 (0x111F + ty), origin := org, who := BitVec.ofNat 6 (if q < 64 then q else q - 64), ref := ref } d

/-- A command that is ignored (17 R489, R504). -/
def cmdIgnored (q : Nat) (d : Device) : Device := raise sqHIF 5 0x1106 q d

/-! ### Translation (17 R499 to R501) -/

/-- Result of an access: a bus address, or a fault type of Table HIF-4 and whether a walk met it. -/
inductive Xlate where
  | ok (bus : Nat)
  | fault (ty : Nat) (walk : Bool)
  deriving DecidableEq, Repr

/-- A leaf found by a walk: its shift, its bus page and the permissions along the walk. -/
inductive Walk where
  | leaf (shift frame : Nat) (r w : Bool)
  | fault (ty : Nat)
  deriving DecidableEq, Repr

/-- Bits of an entry that must be 0 (17 R500). -/
def pteRsv (e level : Nat) : Bool :=
  decide (e / 8 % 16 ≠ 0) || decide (e / 256 % 16 ≠ 0) || decide (e / 2 ^ 52 ≠ 0) ||
  (decide (e / 128 % 2 = 1) && (decide (level ≠ 2) || decide (e / 4096 % 512 ≠ 0)))

/-- The walk from a table; `level` 4 is the root, 2 the level of 2 MiB leaves. -/
def walkTable (read : Nat → Nat) (iova : Nat) : Nat → Nat → Bool → Bool → Walk
  | 0, _, _, _ => .fault 2
  | n + 1, base, r, w =>
    let e := read (base + 8 * (iova / 2 ^ (12 + 9 * n) % 512))
    if e % 2 = 0 then .fault 2
    else if pteRsv e (n + 1) then .fault 4
    else
      let r := r && decide (e / 2 % 2 = 1)
      let w := w && decide (e / 4 % 2 = 1)
      if n = 0 then .leaf 12 (e / 4096 % 2 ^ 40) r w
      else if e / 128 % 2 = 1 then .leaf 21 (e / 2 ^ 21 % 2 ^ 31) r w
      else walkTable read iova n (e / 4096 % 2 ^ 40 * 4096) r w

def tlbFind (d : Device) (space iova : Nat) : Option TlbEntry :=
  d.hif.tlb.find? (fun t => decide (t.space = space ∧ t.page = iova / 2 ^ t.shift))

def allowed (r w write : Bool) : Bool := if write then w else r

/-- One access of a space (17 R499, R500); a new translation enters the cache (R501). -/
def translate (space iova : Nat) (write : Bool) (v : HostView) (d : Device) : Xlate × Device :=
  let s := lookupD d.hif.spaces space {}
  if s.mode = 0 ∨ s.mode = 3 then (.fault 1 false, d)
  else if 2 ^ 48 ≤ iova then (.fault 5 false, d)
  else if s.mode = 1 then (.ok iova, d)
  else
    match tlbFind d space iova with
    | some t =>
      if allowed t.r t.w write then (.ok (t.frame * 2 ^ t.shift + iova % 2 ^ t.shift), d) else (.fault 3 false, d)
    | none =>
      match walkTable (fun a => leAt (lookupD v.tables a []) 0 8) iova 4 s.root.toNat true true with
      | .fault ty => (.fault ty true, d)
      | .leaf sh fr r w =>
        if allowed r w write then
          let t : TlbEntry := { space := space, shift := sh, page := iova / 2 ^ sh, frame := fr, r := r, w := w }
          (.ok (fr * 2 ^ sh + iova % 2 ^ sh), modHif (fun h => { h with tlb := (t :: h.tlb).take 2048 }) d)
        else (.fault 3 true, d)

/-- Every 4 KiB page of a range is translated in address order; the first fault ends it, with its address. -/
def translatePages (space : Nat) (write : Bool) (v : HostView) : Nat → Nat → Nat → Device → Option (Nat × Nat × Bool) × Device
  | 0, _, _, d => (none, d)
  | n + 1, a, stop, d =>
    if stop ≤ a then (none, d)
    else
      match translate space a write v d with
      | (.fault ty w, d) => (some (a, ty, w), d)
      | (.ok _, d) => translatePages space write v n ((a / 4096 + 1) * 4096) stop d

def translateRange (space a len : Nat) (write : Bool) (v : HostView) (d : Device) : Option (Nat × Nat × Bool) × Device :=
  translatePages space write v (len / 4096 + 2) a (a + len) d

end Sys2Proof.Machine
end

