-- ==== Sys2Proof/Machine/NcpOps.lean ====
section
/-! DEFINITION. Records and replies of the command protocol (16): sequence order, the reply store and its delivery. -/

namespace Sys2Proof

/-! ### Fields of a packet (16 R462, R463) -/

/-- Bit of FLAGS (16 Table NCP-1). -/
def Packet.flag (p : Packet) (n : Nat) : Bool := (p.bytes.getD 1 0).getLsbD n

def Packet.session (p : Packet) : Nat := (p.bytes.getD 2 0).toNat % 4
def Packet.seq (p : Packet) : BitVec 32 := BitVec.ofNat 32 (beAt p.bytes 8 4)
def Packet.timeoutMs (p : Packet) : Nat := beAt p.bytes 12 2
def Packet.length (p : Packet) : Nat := beAt p.bytes 14 2
def Packet.epoch (p : Packet) : BitVec 32 := BitVec.ofNat 32 (beAt p.bytes 20 4)

/-- The parameter area, and the bytes the MAC covers and the trailer (16 R462, R465). -/
def Packet.area (p : Packet) : Bytes := (p.bytes.drop 24).take p.length
def Packet.covered (p : Packet) : Bytes := p.bytes.take (24 + p.length)
def Packet.trailer (p : Packet) : Bytes := (p.bytes.drop (24 + p.length)).take 16

/-- VERSION, LENGTH, reserved bits and REPLY are as a command's should be (16 Table NCP-1, status BAD_HEADER). (log entry 92: DESIGN CHOICE) -/
def Packet.headerOk (p : Packet) : Bool :=
  let size := 24 + p.length + (if p.flag 3 then 16 else 0)
  decide (24 ≤ p.bytes.length) && decide (size ≤ p.bytes.length) && decide (size ≤ 2048) && decide (p.bytes.getD 0 0 = 1) &&
  !p.flag 7 && !p.flag 2 && !p.flag 1 && !p.flag 0 && decide ((p.bytes.getD 2 0).toNat < 4) && decide (p.bytes.getD 3 0 = 0) &&
  decide (beAt p.bytes 18 2 = 0)

/-- No TLV overruns its area, each padded to a multiple of 4 bytes (16 R463). -/
def tlvsFit : Nat → Bytes → Bool
  | 0, b => b.isEmpty
  | n + 1, b =>
    if b.isEmpty then true
    else
      let size := 4 + 4 * ceilDiv (beAt b 2 2) 4
      decide (4 ≤ b.length) && decide (size ≤ b.length) && tlvsFit n (b.drop size)

/-- Answered with BAD_TLV (16 R463). -/
def Packet.badTlv (p : Packet) : Bool := p.badType || !tlvsFit 512 p.area

/-- The packet of an operation with its number, as a client of session `s` sends it without EPOCH and TIMEOUT; its parameter area is left out. -/
def commandPacket (s : Nat) (q : BitVec 32) (op : NcpOp) : Packet :=
  { bytes := [1, 0, BitVec.ofNat 8 s, 0] ++ toBe 2 op.code ++ toBe 2 0 ++ toBe 4 q.toNat ++ toBe 12 0, op := some op }

end Sys2Proof

namespace Sys2Proof.Machine

def modSession (s : Nat) (g : Session → Session) (d : Device) : Device := setSession s (g (sessionOf d s)) d

def modNcp (g : NcpState → NcpState) (d : Device) : Device := { d with ncp := g d.ncp }

/-- NCP counter k (16 R483). -/
def ncpCtr (k : Nat) (d : Device) : Device := bump (0x81000 + k * 8) d

/-! ### Keys of an HMAC session (16 R465, R467; 19 R540, R542) -/

def cpkDesc : SlotDesc :=
  { type_ := 1, use := 1, masters := 9, internal := true, client := true, lc := 6 }

/-- A key slot; slot 0 is the CPK in OTP, as far as its read path is there. -/
def keySlot (d : Device) (n : Nat) : Option KeySlot :=
  if n = 0 then (if d.otp.cpkGone then none else d.otp.cpk.map (fun k => { st := .written, desc := cpkDesc, key := k }))
  else lookup? d.sec.slots n

/-- A derived key: the first L bits of K(1) ‖ K(2) ‖ …, each an HMAC over counter, label, 0x00, context and L (19 R542). -/
def deriveKey (key : Nat) (label ctx : Bytes) (bits : Nat) : Nat :=
  let n := ceilDiv bits 256
  let k (i : Nat) : Nat := (Config.hmacSha256 key (toBe 4 (i + 1) ++ label ++ [0] ++ ctx ++ toBe 4 bits)).toNat
  (List.range n).foldl (fun acc i => acc * 2 ^ 256 + k i) 0 / 2 ^ (256 * n - bits)

def labelNcp : Bytes := [0x4E, 0x43, 0x50]

/-- The session key (16 R467, 19 Table SEC-8), while its slot holds a key. -/
def sessionKey (d : Device) (x : Session) : Option Nat :=
  (keySlot d x.slot).map (fun k => deriveKey k.key labelNcp (x.ctx ++ toBe 16 x.cnonce ++ toBe 16 x.dnonce) 256)

/-- The trailer under a key: the first 16 bytes of the HMAC (16 R465). -/
def macOf (key : Nat) (b : Bytes) : Bytes := (toBe 32 (Config.hmacSha256 key b).toNat).take 16

/-! ### The command journal (16 R479) -/

/-- The kind and reply fields of a record (16 Table NCP-6). -/
def NcpBody.kind : NcpBody → Nat
  | .session _ => 1 | .answer .. => 2 | .command _ => 3 | .exec => 4 | .done .. => 5 | .skip => 6

def NcpBody.reply : NcpBody → Option Reply
  | .answer _ r => some r
  | .done _ r => some r
  | _ => none

def authNo : AuthMode → Nat
  | .transport => 0 | .macsec => 1 | .hmac => 2

def transportNo : Option Transport → Nat
  | none => 0 | some .pcie => 1 | some .ethernet => 2 | some .wyusin => 3 | some .split => 4

/-- What follows a record's header: the whole packet of a COMMAND, the content of a SESSION record in the order in which R479 names it. (log entry 92: DESIGN CHOICE) -/
def ncpRecBody (x : NcpBody) : Bytes :=
  match x with
  | .command p => p.bytes
  | .session y => toBe 1 (if y.open_ then 1 else 0) ++ toBe 1 (transportNo y.transport) ++ toBe 1 (authNo y.auth) ++ toBe 1 y.slot ++ toBe 2 y.secys.length ++
      y.secys.flatMap (toBe 2) ++ toBe 16 y.cnonce ++ toBe 16 y.dnonce ++ toBe 2 y.gapMs ++ toBe 4 y.next.toNat ++ y.ctx
  | _ => []

/-- Length of a reply's packet, trailer included where its session has one (16 R462). -/
def replyLen (mac : Bool) (r : Reply) : Nat := 24 + r.body.length + (if mac then 16 else 0)

/-- Bytes 0 to 27 of a record's header (16 Table NCP-6). -/
def ncpRecHead (r : NcpJRec) : Bytes :=
  toBe 8 r.no ++ toBe 1 r.body.kind ++ toBe 1 ((r.who.map Prod.fst).getD 0) ++ toBe 2 (ncpRecBody r.body).length ++ toBe 4 ((r.who.map (fun w => w.2.toNat)).getD 0) ++
  toBe 4 r.target.toNat ++ (match r.body.reply with | some a => toBe 2 a.status.toNat ++ toBe 2 a.reason.toNat | none => toBe 4 0) ++ toBe 4 r.ts.toNat

/-- Bytes a record takes: its header and what follows, to a multiple of 64 (16 R479). -/
def ncpRecSize (r : NcpJRec) : Nat := 64 + 64 * ceilDiv (ncpRecBody r.body).length 64

/-- Records that a new one releases: a DONE record its COMMAND and EXEC, the SESSION record of a closed session what its window held; a newer SESSION
record the one before (16 R467, R479). (log entry 92: DESIGN CHOICE) -/
def releasedBy (n x : NcpJRec) : Bool :=
  match n.body, x.body with
  | .done .., .command _ | .done .., .exec => decide (n.who = x.who)
  | .session y, b => decide (n.who.map Prod.fst = x.who.map Prod.fst) && (match b with | .session _ => true | .command _ | .exec => false | _ => !y.open_)
  | _, _ => false

/-- A journal with a new record; an operation outside the sessions has no window that would keep its answer. -/
def putRecord (r : NcpJRec) (j : List NcpJRec) : List NcpJRec :=
  let kept := j.filter (fun x => !releasedBy r x)
  match r.who, r.body with
  | none, .answer .. | none, .done .. => kept
  | _, _ => kept ++ [r]

/-- A record enters the command journal; the partner gets it while it replicates (16 R479, R480). Recovery mode has no journal (20 R576). -/
def newRecord (who : Option (Nat × Word)) (x : NcpBody) (target : Word) (whole : Bool) (d : Device) : Device :=
  if d.boot.recovery then d else
  let no := d.ncp.recordNo + 1
  let r : NcpJRec := { no := no, who := who, body := x, target := target, ts := (match x with | .command _ => ts32 d | _ => 0), whole := whole }
  let r := { r with crc := crc32c (ncpRecHead r ++ ncpRecBody x) }
  let away := d.asd.replicating
  let d := modNcp (fun n => { n with
    recordNo := no, journal := putRecord r n.journal, unmirrored := if away then n.unmirrored ++ [no] else n.unmirrored }) d
  if away then postControl 6 (ncpRecSize r + (match x.reply with | some a => replyLen false a | none => 0)) (.ncpRecord r) d else d

/-- The records that the active holds go to a partner that begins to replicate. (log entry 93: DEDUCED) -/
def mirrorJournal (d : Device) : Device :=
  d.ncp.journal.foldl (fun d r =>
    postControl 6 (ncpRecSize r + (match r.body.reply with | some a => replyLen false a | none => 0)) (.ncpRecord r) d) d

/-- A standby keeps a record that channel 6 brings (16 R480). -/
def keepMirror (r : NcpJRec) (d : Device) : Device :=
  if decide (d.pair.role = .standbySyncing) || decide (d.pair.role = .standbyReady) then modNcp (fun n => { n with mirror := putRecord r n.mirror }) d else d

/-- ANSWER, DONE and SKIP records whose number has left the window of 4,096 (16 R479). -/
def leavesWindow (s : Nat) (high : Word) (r : NcpJRec) : Bool :=
  match r.body, r.who with
  | .answer .., some (a, q) | .done .., some (a, q) | .skip, some (a, q) => decide (a = s) && decide (4096 ≤ (high - q).toNat)
  | _, _ => false

def recAt (d : Device) (s : Nat) (q : Word) : Option NcpRec := lookup? (sessionOf d s).recs q.toNat

def setNcpRec (s : Nat) (q : Word) (r : NcpRec) (d : Device) : Device :=
  modSession s (fun x => { x with recs := insertAt x.recs q.toNat r }) d

def isFinal (r : NcpRec) : Bool := decide (r.stage = .final) || decide (r.stage = .skipped)

/-- Order of a sequence number in 32-bit serial arithmetic, seen from 8,192 below NEXT (16 R470). -/
def serialKey (x : Session) (q : Nat) : Nat := (BitVec.ofNat 32 q - (x.next - 8192)).toNat

/-- Sequence numbers of a session that satisfy a test, in serial order. -/
def numbers (x : Session) (p : NcpRec → Bool) : List Word :=
  (sortNat ((x.recs.filter (fun r => p r.2)).map (fun r => serialKey x r.1))).map (fun k => BitVec.ofNat 32 k + (x.next - 8192))

/-- LOW (16 R470): the oldest number without a final reply, at the latest the next expected one, which has not come. -/
def lowOf (x : Session) : Word :=
  match (numbers x (fun r => !isFinal r)).head? with
  | some q => if (x.next - q).toNat < 2147483648 then q else x.next
  | none => x.next

/-! ### Replies (16 R462, R468, R472, R480) -/

/-- Stages of an accepted command. -/
def isAccepted (r : NcpRec) : Bool := decide (r.stage = .accepted) || decide (r.stage = .executing)

/-- OPCODE, TIMEOUT and EPOCH of a reply to a packet, built now (16 Table NCP-1). -/
def replyTo (p : Packet) (r : Reply) (d : Device) : Reply :=
  { r with opcode := p.opcode, timeoutMs := p.timeoutMs, epoch := d.glb.cfgEpoch }

/-- The reply that the store holds for a number; while the command is not final, REPLAYED (16 R472). -/
def replyOf (d : Device) (s : Nat) (q : Word) : Reply :=
  match recAt d s q with
  | some r => r.reply.getD (replyTo r.packet { status := 0x0002, acc := isAccepted r, isLast := false } d)
  | none => { status := 0x0002, acc := false, isLast := false, epoch := d.glb.cfgEpoch }

/-- Header and parameter area of a reply's packet (16 Table NCP-1). -/
def replyHead (s : Nat) (q : Word) (replay mac : Bool) (r : Reply) : Bytes :=
  let bit (b : Bool) (n : Nat) : Nat := if b then 2 ^ n else 0
  toBe 1 1 ++ toBe 1 (128 + bit r.isLast 6 + bit replay 5 + bit r.lost 4 + bit mac 3 + bit r.acc 2) ++ toBe 1 s ++ toBe 1 0 ++ toBe 2 r.opcode ++
  toBe 2 r.status.toNat ++ toBe 4 q.toNat ++ toBe 2 r.timeoutMs ++ toBe 2 r.body.length ++ toBe 2 r.reason.toNat ++ toBe 2 0 ++ toBe 4 r.epoch.toNat ++ r.body

/-- A reply leaves the block: its packet, with the trailer of an HMAC session (16 R462, R465). -/
def sendOut (who : Option (Nat × Word)) (replay : Bool) (r : Reply) (d : Device) : Device :=
  let s := (who.map Prod.fst).getD 0
  let q := (who.map Prod.snd).getD 0
  let x := sessionOf d s
  let key : Option Nat := if who.isSome ∧ x.open_ ∧ x.auth = .hmac then sessionKey d x else none
  let head := replyHead s q replay key.isSome r
  let peer : Option NcpPeer := if who.isSome ∧ x.transport = some .ethernet then some x.peer else none
  emit (.reply who replay r (head ++ (match key with | some k => macOf k head | none => [])) peer) d

/-- NCP is served: Renioft runs, or the ROM in recovery mode (20 R576). -/
def ncpRuns (d : Device) : Bool := renioftRuns d || d.boot.recovery

/-- A write of a mailbox's space. Where the cache misses and the host's tables are not at hand, the page counts as mapped. (log entry 55: DESIGN CHOICE) -/
def mailboxWrite (s a : Nat) (v : Option HostView) (d : Device) : Xlate × Device :=
  match v with
  | some v => translate (64 + s) a true v d
  | none =>
    if (lookupD d.hif.spaces (64 + s) {}).mode = 2 ∧ a < 2 ^ 48 ∧ (tlbFind d (64 + s) a).isNone then (.ok a, d)
    else translate (64 + s) a true {} d

/-- Waiting replies enter the reply ring while it has entries (16 R468); a fault stalls the mailbox (17 R503). -/
def writeReplies (s : Nat) (v : Option HostView) : Nat → Device → Device
  | 0, d => d
  | n + 1, d =>
    let x := sessionOf d s
    match x.rings.waiting with
    | [] => d
    | (q, rep, r) :: rest =>
      let full := decide ((x.rings.rplPi + 1) % 256 = x.rings.rplCi)
      if full ∨ !isRunning d (64 + s) true ∨ !d.hif.bme ∨ !d.hif.linkUp ∨ !ncpRuns d then d
      else
        let a := x.rings.rplBase.toNat + x.rings.rplPi * 2048
        match mailboxWrite s a v d with
        | (.fault ty w, d) => hifFault (64 + s) .rplWrite ty w true x.rings.rplPi a q d
        | (.ok _, d) =>
          let d := sendOut (some (s, q)) rep (r.getD (replyOf d s q)) d
          let d := modSession s (fun x => { x with rings := { x.rings with rplPi := (x.rings.rplPi + 1) % 256, waiting := rest } }) d
          writeReplies s v n (emit (.msix (64 + s)) d)

/-- A reply leaves by a transport: through the reply ring of a PCIe mailbox, at once elsewhere; without transport it stays in the reply
store (16 R468, R480). -/
def sendVia (t : Option Transport) (s : Nat) (q : Word) (replay : Bool) (r : Option Reply) (d : Device) : Device :=
  match t with
  | some .pcie =>
    writeReplies s none 256 (modSession s (fun x => { x with rings := { x.rings with waiting := x.rings.waiting ++ [(q, replay, r)] } }) d)
  | some _ => sendOut (some (s, q)) replay (r.getD (replyOf d s q)) d
  | none => d

/-- A stored reply goes to its session's transport. -/
def sendReply (s : Nat) (q : Word) (replay : Bool) (d : Device) : Device := sendVia (sessionOf d s).transport s q replay none d

/-- A reply that no record keeps: stage 1 failures. -/
def sendBare (t : Transport) (s : Nat) (p : Packet) (status : BitVec 16) (d : Device) : Device :=
  sendVia (some t) s p.seq false (some (replyTo p { status := status, acc := false } d)) d

/-- A final reply or an answer is stored whole and sent (16 R480); LATE and EXPIRED replies are counted (R483). -/
def storeReply (s : Nat) (q : Word) (r : NcpRec) (rep : Reply) (d : Device) : Device :=
  let rep := replyTo r.packet rep d
  let d := setNcpRec s q { r with stage := .final, reply := some rep } d
  let d := newRecord (some (s, q)) (if rep.acc then .done r.packet rep else .answer r.packet rep) 0 true d
  let d := if rep.status = 0x0003 then ncpCtr 5 d else if rep.status = 0x020A then ncpCtr 4 d else d
  sendReply s q false d

/-- The final reply of an accepted command; after its TIMEOUT it is LATE with the lower level's result (16 R474). An operation outside the sessions is
done with the reply that its row sends. -/
def finish (who : Option (Nat × Word)) (status reason : BitVec 16) (body : Bytes) (d : Device) : Device :=
  match who with
  | none => d
  | some (s, q) =>
    match recAt d s q with
    | none => d
    | some r =>
      if isFinal r then d
      else storeReply s q r { status := if r.late then 0x0003 else status, reason := reason, acc := true, body := body } d

/-- The answer of stage 3 (16 R469). -/
def answer (s : Nat) (q : Word) (status reason : BitVec 16) (body : Bytes) (d : Device) : Device :=
  match recAt d s q with
  | none => d
  | some r => ncpCtr 1 (storeReply s q r { status := status, reason := reason, acc := false, body := body } d)

/-- What an operation ends with: status, reason and reply body. -/
structure Res where
  status : BitVec 16 := 0
  reason : BitVec 16 := 0
  body : Bytes := []
  deriving DecidableEq, Repr

/-- A command still waits for its final reply. -/
def isOpen (d : Device) (s : Nat) (q : Word) : Bool := match recAt d s q with | some r => decide (r.stage = .executing) | none => false

/-- A session closes: its window and stored replies end with it (16 R467); event SESSION_CLOSED. -/
def closeSession (s : Nat) (d : Device) : Device :=
  let x := sessionOf d s
  if x.open_ then
    let r := { x.rings with waiting := x.rings.waiting.map (fun (w : Word × Bool × Option Reply) => (w.1, w.2.1, some (w.2.2.getD (replyOf d s w.1)))) }
    let left : List (Option Transport × NcpRec) := (numbers x (fun r => decide (r.stage = .accepted))).filterMap (fun q =>
      (lookup? x.recs q.toNat).map (fun r => (x.transport, r)))
    let d := newRecord (some (s, x.high)) (.session { open_ := false, transport := x.transport, next := x.next }) 0 true d
    raise sqNCP 1 0x1002 s (setSession s { rings := r, orphans := x.orphans ++ left } { d with flt := { d.flt with notify := removeAt d.flt.notify s } })
  else d

/-- The open HMAC sessions that satisfy a test close. -/
def closeHmac (p : Session → Bool) (d : Device) : Device :=
  d.ncp.sessions.foldl (fun d x => if x.2.open_ && decide (x.2.auth = .hmac) && p x.2 then closeSession x.1 d else d) d

/-! ### The order of class C (16 R475) -/

def isConfig (r : NcpRec) : Bool := decide (opcodeCls r.packet.opcode = some .config)

/-- A commit is being prepared: a class C command of some session is accepted and has not passed its epoch boundary, or an exchange with the partner runs. -/
def configBusy (d : Device) : Bool :=
  d.ncp.waitCommit.isSome || d.top.routeWait.isSome ||
  d.ncp.sessions.any (fun x =>
    x.2.recs.any (fun r => isConfig r.2 && (decide (r.2.stage = .accepting) || isAccepted r.2)) || x.2.orphans.any (fun r => isConfig r.2))

end Sys2Proof.Machine
end

