-- ==== Sys2Proof/Machine/TopOps.lean ====
section
/-! DEFINITION. Shared operations of the topology unit (09): the bypass relay, the merged view, the node list. -/

namespace Sys2Proof.Machine

def setLine (l : LineState) (d : Device) : Device := { d with top := { d.top with line := l, since := d.now } }

/-- Drive BYPASS_EN (09 R299). -/
def driveBypass (on : Bool) (d : Device) : Device :=
  if d.top.bypassEn = on then d else emit (.pin .bypassEn on) { d with top := { d.top with bypassEn := on } }

/-- The line enters BYPASSED with the relay at rest (09 Table TOP-2). -/
def enterBypassed (d : Device) : Device := driveBypass false (setLine .bypassed d)

/-- BYPASSED is left when TOP, BB0 and BB1 are configured, no bypass is commanded and the watchdog has not fired (09 R290, R299). -/
def tryInsert (d : Device) : Device :=
  if d.top.line = .bypassed ∧ d.cfg.top.configured ∧ (portCfg d 0).configured ∧ (portCfg d 1).configured ∧ !d.top.bypassCmd ∧ !d.top.wdReleased then
    driveBypass true (setLine .inserting { d with top := { d.top with lastRefresh := d.now } })
  else d

/-- Commands a bypass of the own line, or ends it (09 R299). -/
def bypassOrder (on : Bool) (d : Device) : Device :=
  let d := { d with top := { d.top with bypassCmd := on } }
  if on then enterBypassed d else tryInsert d

/-- A contradiction of the orders the two lines report (09 R295). -/
def contradicts (a b : List TopNode) : Bool :=
  let ia : List Nat := a.map (·.id)
  let ib : List Nat := b.map (·.id)
  decide (ia.filter (fun x => ib.contains x) ≠ ib.filter (fun x => ia.contains x))

/-- Insert a node that only the second line shows after its predecessor there. -/
def insertAfter (prev : Option Nat) (x : TopNode) (l : List TopNode) : List TopNode :=
  match prev with
  | none => x :: l
  | some p => (l.takeWhile (fun y => decide (y.id ≠ p))) ++
    (match l.dropWhile (fun y => decide (y.id ≠ p)) with
     | [] => [x]
     | y :: rest => y :: x :: rest)

/-- The merged view of two lines (09 R290, R295): line A decides on a contradiction. -/
def mergeViews : Option (List TopNode) → Option (List TopNode) → List TopNode
  | none, none => []
  | some a, none => a
  | none, some b => b
  | some a, some b =>
    let a' := a.map (fun x => match b.find? (fun y => y.id = x.id) with
      | some y => { x with lineB := y.lineB, devB := y.devB, nv8 := x.nv8 || y.nv8, inhibit := x.inhibit || y.inhibit }
      | none => { x with lineB := false, devB := none })
    if contradicts a b then a'
    else (b.foldl (fun (acc : List TopNode × Option Nat) y =>
      if a'.any (fun x => decide (x.id = y.id)) then (acc.1, some y.id)
      else (insertAfter acc.2 { y with lineA := false, devA := none } acc.1, some y.id)) (a', none)).1

/-- The ring as both directions together show it (09). (log entry 44: DESIGN CHOICE) -/
def mergedView (d : Device) : List TopNode := mergeViews d.top.viewA d.top.viewB

/-- What of a view counts as its topology: who is there, in which order and orientation (09 R290). -/
def viewKey (l : List TopNode) : List (Nat × Bool) := (l.filter (·.present)).map (fun x => (x.id, x.reversed))

/-- Inhibition is in force (09 R294). -/
def inhibited (d : Device) : Bool := d.top.inhibit || (mergedView d).any (fun x => x.inhibit && x.present)

def devWord (x : Option (BitVec 12)) : Nat := match x with | some v => 32768 + v.toNat | none => 0

/-- Entry of a position (09 Table TOP-4). (log entry 44: DESIGN CHOICE) -/
def nodeEntry (pos : Nat) (x : TopNode) : Bytes :=
  let flags := (if x.present then 128 else 0) + (if x.lineA then 64 else 0) + (if x.lineB then 32 else 0) +
    (if x.reversed then 16 else 0) + (if x.nv8 then 8 else 0)
  toBe 1 pos ++ toBe 1 flags ++ toBe 1 x.consist ++ toBe 1 x.car ++ toBe 2 (devWord x.devA) ++ toBe 2 (devWord x.devB)

/-- Consist and car numbers of a list in order of position (09 R296): consists from 1 in order of their lowest position, cars from 1 along the
positions, ETBNs that announce one place in one consist sharing a car. (log entry 44: DESIGN CHOICE) -/
def numbered (l : List TopNode) : List TopNode :=
  let consists := (l.map (·.consistId)).eraseDups
  let cars := (l.map (fun x => (x.consistId, x.carPos))).eraseDups
  l.map (fun x => { x with consist := consists.idxOf x.consistId + 1, car := cars.idxOf (x.consistId, x.carPos) + 1 })

def nodeEntries (l : List TopNode) : Bytes := (l.zipIdx.map (fun x => nodeEntry (x.2 + 1) x.1)).flatten

/-- Own position, 0 while the list does not name this ETBN. -/
def ownPos (l : List TopNode) : Nat := match l.findIdx? (·.self) with | some i => i + 1 | none => 0

/-- The Equinox ring (09 R298): valid and present device IDs in ascending position, line A before B. -/
def ring (d : Device) : List (BitVec 12) :=
  d.top.list.flatMap (fun x => if x.present then
    (match x.devA with | some v => [v] | none => []) ++ (match x.devB with | some v => [v] | none => []) else [])

end Sys2Proof.Machine
end

