-- ==== Sys2Proof/Machine/PairOps.lean ====
section
/-! DEFINITION. Shared operations of the pair unit (14): who owns the functions of Table PAIR-1, the lease, the
Wyusin path and its credit, failure of a device, impairment (21 R590). -/

namespace Sys2Proof.Machine

/-- The device performs the functions of Table PAIR-1 (14 R412). -/
def isOwner (d : Device) : Bool := decide (d.pair.role = .active) || decide (d.pair.role = .unpaired)

def isStandby (d : Device) : Bool := decide (d.pair.role = .standbySyncing) || decide (d.pair.role = .standbyReady)

/-- The device's position, resolved after a conflict (14 R413). -/
def position (d : Device) : Bool := d.pair.posOverride.getD d.cfg.pair.position

/-- A pending SWITCH_TIME commit is forgotten; streams only it held give up their reservations. -/
def clearSwitch (d : Device) : Device :=
  { d with
    switching := none, sch := { d.sch with resv := d.sch.resv.filter (fun x => (lookup? d.cfg.sch.streams x.1).isSome) } }

/-- A device that is active no longer discards the commits it had prepared and not switched (14 R433); a command whose exchange was running ends without its
effect. (log entry 48: DEDUCED) -/
def dropPrepared (d : Device) : Device :=
  let w := d.ncp.waitCommit
  let d := clearSwitch { d with
    ncp := { d.ncp with waitCommit := none }, top := { d.top with routeWait := none }, pair := { d.pair with exchange := none } }
  match w with
  | some (_, who) => finish who 0x0205 0 [] d
  | none => d

/-- A role is taken; a device that begins to synchronise has no record of its active yet (14 R434). -/
def setRole (r : Role) (d : Device) : Device :=
  let d := if d.pair.role = .active ∧ r ≠ .active then dropPrepared d else d
  let d := if r = .standbySyncing ∧ d.pair.role ≠ .standbySyncing then { d with ncp := { d.ncp with mirror := [] } } else d
  { d with pair := { d.pair with role := r } }

/-- PAIR counter k (14 R438). -/
def pairCtr (k : Nat) (d : Device) : Device := bump (0x601000 + k * 8) d

/-- Discards 0x0E20 and 0x0E21 (14 R437). -/
def pairDiscard (code : Nat) (d : Device) : Device := bump (0x602000 + (code - 0x0E20) * 8) d

/-- LEASE_OUT goes low where the sender gives no edges (14 Table PAIR-4). -/
def leaseLow (d : Device) : Device :=
  if d.pair.leaseOut then emit (.pin .leaseOut false) { d with pair := { d.pair with leaseOut := false } } else d

def leaseEdge (d : Device) : Device :=
  emit (.pin .leaseOut (!d.pair.leaseOut)) { d with pair := { d.pair with leaseOut := !d.pair.leaseOut } }

/-- The device fails (14 R430): FAILED, and with PORTS_OFF its Ethernet transmitters off and its line in bypass. -/
def becomeFailed (d : Device) : Device :=
  let d := leaseLow (setRole .failed { d with pair := { d.pair with armed := false } })
  let d := reviewProt d
  if d.cfg.pair.portsOff then
    bypassOrder true ((List.range 25).foldl (fun d p => modPort p (fun s => { s with txOn := false }) d) d)
  else d

/-- The partner stops replicating (06 R187, 14 R411); records that waited only for it are completed by the caller. -/
def stopReplicating (d : Device) : Device :=
  let d := { d with
    pair := { d.pair with partnerReady := false }, asd := { d.asd with replicating := false }, ncp := { d.ncp with unmirrored := [] } }
  reviewProt { d with fwl := { d.fwl with ctSync := false, reload := false } }

/-- The active gives up the lease (14 R421, R425): its owned functions stop with the role. `announce`: YIELD is sent. -/
def yieldLease (announce : Bool) (next : Role) (d : Device) : Device :=
  if d.pair.role ≠ .active then d
  else
    let d := { d with pair := { d.pair with armed := false } }
    let d := if announce then sendPartner 1 .yield_ d.pair.epoch.toNat 0 d else d
    let d := raise sqPAIR 1 0x0E02 0 d
    if next = .failed then becomeFailed d else leaseLow (setRole next d)

/-- A renewal leaves on both paths (14 R421 to R423). -/
def sendRenewal (d : Device) : Device :=
  let p := { d.pair with armed := false, renewNo := d.pair.renewNo + 1, lastSent := some d.now }
  pairCtr 0 (leaseEdge (sendPartner 1 .renewal p.epoch.toNat p.renewNo.toNat { d with pair := p }))

/-- The Wyusin path goes down (14 R419): queued frames of PL are discarded. -/
def wyusinDown (d : Device) : Device :=
  if d.pair.wyUp then
    let d := { d with pair := { d.pair with wyUp := false, rx := [], testing := d.pair.testing && d.pair.ownVerdict.isNone }, wy := [] }
    reviewProt (raise sqPAIR 5 0x0E06 0 (flushPort 37 9 true d))
  else d

/-- N of 14 R417 for the head copy of a class of PL, and whether the credit stops it. -/
def plStopped (d : Device) (tc : Nat) : Bool :=
  match (queueOf d (37 * 8 + tc)).copies with
  | [] => false
  | c :: _ =>
    let n : Word := BitVec.ofNat 32 (copyCells d c)
    (lookupD d.pair.limRx tc 0 - lookupD d.pair.sent tc 0 - n).msb

/-- SCHEDULER_SELECT: the scheduler of a port picks a copy (03 R88, 05 R143); on PL under Wyusin credit, and cells of
a started frame count as sent (14 R417), and none while FAILED (14 Table PAIR-10). HI and the channels are served by their units (03 R622). -/
def selectOn (p : Nat) (d : Device) : Device :=
  if 25 ≤ p ∧ p < 36 then d
  else if p = 37 then
    if !d.pair.wyUp ∨ d.pair.role = .failed then d
    else
      let d' := schedulerSelect 37 ((List.range 8).filter (plStopped d)) d
      match (portSt d 37).cur, (portSt d' 37).cur with
      | none, some t =>
        let tc := t.q % 8
        { d' with pair := { d'.pair with sent := insertAt d'.pair.sent tc (lookupD d'.pair.sent tc 0 + BitVec.ofNat 32 (copyCells d' t.copy)) } }
      | _, _ => d'
  else schedulerSelect p [] d

/-- The device becomes IMPAIRED, or is no longer (21 R590): the bit is set once. -/
def noteImpaired (d : Device) : Device :=
  if impairedNow d then
    if d.flt.impaired then d else raiseBit sqFLT 5 { d with flt := { d.flt with impaired := true } }
  else { d with flt := { d.flt with impaired := false } }

/-- Take the lease (14 R424 to R426): one epoch higher, event LEASE_TAKEN; a takeover from the standby begins. -/
def takeLease (fromStandby : Bool) (d : Device) : Device :=
  let p := { d.pair with
    role := .active, epoch := d.pair.epoch + 1, electEnd := none, takeover := fromStandby,
    partnerReady := false, armed := true, recs := [] }
  let d := { d with pair := p, asd := { d.asd with replicating := false } }
  let d := raise sqPAIR 0 0x0E01 0 (sendRenewal d)
  if fromStandby then d else reviewProt d

end Sys2Proof.Machine
end

