-- ==== Sys2Proof/Machine/Assured.lean ====
section
/-! DEFINITION. Assured delivery (06): the sequence test, the journal, in-order release, mirrors, marks, replay and
the standby's side. -/

namespace Sys2Proof.Machine

/-! ### Slots and records -/

/-- Counter k of a slot (06 R206). -/
def asdCtrBy (n k v : Nat) (d : Device) : Device := bumpBy (0x384000 + n * 0x40 + k * 8) v d

def asdCtr (n k : Nat) (d : Device) : Device := asdCtrBy n k 1 d

def slotOf (d : Device) (h : Nat) : Option (Nat × AsdSlot) := d.asd.slots.find? (fun x => x.2.handle = h)

def slotAt (d : Device) (n : Nat) : Option AsdSlot := lookup? d.asd.slots n

def setSlot (n : Nat) (x : AsdSlot) (d : Device) : Device :=
  { d with asd := { d.asd with slots := insertAt d.asd.slots n x } }

def modSlot (n : Nat) (g : AsdSlot → AsdSlot) (d : Device) : Device :=
  match slotAt d n with
  | some x => setSlot n (g x) d
  | none => d

/-- Distance from a to b in 16-bit serial arithmetic. -/
def seqDist (a b : Nat) : Nat := (b + 65536 - a % 65536) % 65536

/-- Space of a record in 64-byte units (06 R188). -/
def recUnits (r : JRec) : Nat :=
  match r.kind with
  | .frame => 1 + ceilDiv (r.bytes.length + 4) 64
  | .mirror => 1
  | .mark => 1 + ceilDiv (4 * r.marks.length) 64

/-- JOURNAL_FILL: the space of every unreleased record (06 R189). -/
def journalFill (d : Device) : Nat := (d.asd.journal.map recUnits).sum

/-- The journal is circular, 256 MiB in units of 64 bytes: its tail stands at the oldest unreleased record (06 R189). -/
def journalRoom (units : Nat) (d : Device) : Bool :=
  let tail := match d.asd.journal with | r :: _ => r.start | [] => d.asd.head
  decide (d.asd.head + units ≤ tail + 4194304)

/-- Bytes 0 to 27 of a record's header (06 Table ASD-3). -/
def recHeader (r : JRec) : Bytes :=
  let set := (List.range 38).foldl (fun n p => if r.egress.contains p then n + 2 ^ p else n) 0
  let flags := (if r.device then 128 else 0) + (if r.kind = .mirror then 64 else 0) + (if r.kind = .mark then 32 else 0) + (if r.replica then 16 else 0)
  let len := match r.kind with | .frame => r.bytes.length + 4 | .mirror => 0 | .mark => r.marks.length
  toBe 2 r.slot ++ toBe 2 r.seq ++ toBe 4 r.acceptTs.toNat ++ toBe 8 r.no ++ toBe 5 set ++ toBe 1 flags ++ toBe 2 len ++ toBe 4 r.epoch.toNat

/-- The bytes behind a record's header: the frame as stored, with its FCS, or the entries of a mark, padded to 64 bytes (06 R188, R189).
(log entry 85: DESIGN CHOICE) -/
def recBody (r : JRec) : Bytes :=
  let b := match r.kind with
    | .frame => r.bytes ++ (toBe 4 (crc32 r.bytes).toNat).reverse
    | .mirror => []
    | .mark => r.marks.flatMap (fun x => toBe 2 x.1 ++ toBe 2 x.2)
  b ++ List.replicate (64 * ceilDiv b.length 64 - b.length) 0

/-- A record takes the next RECORD_NO, its CRC and its place at the journal's head (06 R188, R189). -/
def appendRecord (r : JRec) (d : Device) : Device :=
  let r := { r with no := d.asd.nextNo, start := d.asd.head }
  let r := { r with crc := crc32c (recHeader r ++ recBody r) }
  { d with asd := { d.asd with journal := d.asd.journal ++ [r], nextNo := d.asd.nextNo + 1, head := d.asd.head + recUnits r } }

/-- A record is written to the in-service journal copies and, while the partner replicates, sent to it (06 R186). One that finds no free
space completes nowhere (06 R189). (log entry 85: DESIGN CHOICE) -/
def writeRecord (r : JRec) (d : Device) : Device :=
  if !journalRoom (recUnits r) d then d
  else
    let k : WyKind := match r.kind with | .frame => .record | .mirror => .mirror | .mark => .mark
    let no := d.asd.nextNo
    let d := appendRecord { r with
      acceptTs := ts32 d, wrote := d.now, acked := !d.asd.replicating,
      copy0 := !d.asd.copiesIn.getLsbD 0, copy1 := !d.asd.copiesIn.getLsbD 1 } d
    if d.asd.replicating then postControl 3 (64 * recUnits r) (.wyusin 3 k no r.seq) d else d

/-- A counter mirror (06 R182). -/
def writeMirror (n v : Nat) (d : Device) : Device := writeRecord { no := 0, kind := .mirror, slot := n, seq := v } d

/-- Bytes of a frame with its sequence number's R-tag (06 R179). -/
def withRtag (c : Cfg) (seq : Nat) (b : Bytes) : Bytes := applyEdit c.fwd.userTypes { rtag := some seq } b

/-! ### Release (06 R191, R193) -/

/-- One copy of a frame to each egress port (06 R191); the R-tag goes on Ethernet and PL only (R179). -/
def enqueueAssured (n seq id : Nat) (d : Device) : Device :=
  match frameOf d id with
  | none => d
  | some f =>
    let c := cfgAt d f.epoch
    match f.stream.bind (fun h => lookup? c.sch.streams h), f.dec with
    | some sc, some x =>
      let d := x.copies.foldl (fun d cp =>
        let e : Edit := if cp.1 = 25 ∨ cp.1 = 36 then cp.2.2 else { cp.2.2 with rtag := some seq }
        let cpy : Copy :=
          { frame := id, edit := e, vid := cp.2.1, age := f.ageStamp, itc := f.itc, colour := x.colour, cls := .assured,
            stream := f.stream, asd := some (n, seq), txId := f.txId }
        (admitCopy c (egressQueue cp.1 sc.tc sc.hostQ) cpy d).2) (asdCtr n 1 d)
      let refs := match frameOf d id with | some f => f.refs | none => 0
      if refs = 0 then
        let j := d.asd.journal.map (fun r => if r.kind = .frame ∧ r.slot = n ∧ r.seq = seq then { r with finished := true } else r)
        dropFrame id { d with asd := { d.asd with journal := j } }
      else d
    | _, _ => dropFrame id d

/-- One number leaves the window: into the history, and its frame to the queues (a standby keeps only the record). -/
def releaseOne (n : Nat) (id : Nat) (d : Device) : Device :=
  match slotAt d n with
  | none => d
  | some s =>
    let seq := s.next
    let nx := (seq + 1) % 65536
    let hist := (seq :: s.hist).filter (fun x => seqDist x nx ≤ 1024)
    let d := setSlot n { s with win := removeAt s.win seq, hist := hist, next := nx } d
    if isStandby d then dropFrame id d else enqueueAssured n seq id d

/-- release(st) (06 R193); the window holds at most 64 numbers. -/
def releaseRun (n : Nat) : Nat → Device → Device
  | 0, d => d
  | k + 1, d =>
    match slotAt d n with
    | none => d
    | some s =>
      match lookup? s.win s.next with
      | some (id, true, _) => releaseRun n k (releaseOne n id d)
      | _ => d

/-- Distance of the lowest occupied window bit. -/
def lowestBit (s : AsdSlot) : Option Nat :=
  (s.win.map (fun x => seqDist s.next x.1)).foldl (fun m v => match m with | none => some v | some w => some (min v w)) none

/-- Skip the gap below the lowest occupied bit: the numbers count as lost (06 R194). -/
def skipGap (n : Nat) (d : Device) : Device :=
  match slotAt d n with
  | none => d
  | some s =>
    match lowestBit s with
    | none => d
    | some 0 => d
    | some k =>
      let nx := (s.next + k) % 65536
      let d := setSlot n { s with next := nx, hist := s.hist.filter (fun x => seqDist x nx ≤ 1024) } d
      asdCtrBy n 5 k d

/-- flush_window (06 R193, R194) of a window without pending records. -/
def flushRun (n : Nat) : Nat → Device → Device
  | 0, d => d
  | k + 1, d =>
    match slotAt d n with
    | none => d
    | some s => if s.win.isEmpty then d else flushRun n k (releaseRun n 64 (skipGap n d))

def flushWindow (n : Nat) (d : Device) : Device := flushRun n 64 d

/-! ### Completion (06 R186, R189) -/

def setRec (no : Nat) (g : JRec → JRec) (d : Device) : Device :=
  { d with asd := { d.asd with journal := d.asd.journal.map (fun r => if r.no = no then g r else r) } }

def recOf (d : Device) (no : Nat) : Option JRec := d.asd.journal.find? (fun r => r.no = no)

/-- A mark covers a number of a slot (06 R189). -/
def covers (marks : Tbl Nat) (slot seq : Nat) : Bool :=
  match lookup? marks slot with
  | some h => decide (seqDist seq h < 32768)
  | none => false

/-- Records whose frame has ended and that a later complete mark covers leave the journal; so do older marks. -/
def dropCovered (m : JRec) (j : List JRec) : List JRec :=
  j.filter (fun r => match r.kind with
    | .frame => !(decide (r.no < m.no) && r.finished && r.complete && covers m.marks r.slot r.seq)
    | .mark => !(decide (r.no < m.no) && r.complete)
    | .mirror => true)

/-- A record becomes complete when every in-service copy holds it and the partner, if it replicates, has
acknowledged it: the frame is accepted, the mirror counts, the mark releases. -/
def tryComplete (no : Nat) (d : Device) : Device :=
  match recOf d no with
  | none => d
  | some r =>
    if r.complete || !(r.copy0 && r.copy1) || !(r.acked || !d.asd.replicating) then d
    else
      let d := setRec no (fun r => { r with complete := true }) d
      match r.kind with
      | .frame =>
        if r.replica then d
        else
          let d := modSlot r.slot (fun s =>
            { s with win := s.win.map (fun x => if x.1 = r.seq then (x.1, (x.2.1, true, d.now)) else x), lastAccept := d.now,
                     accepted := insertAt s.accepted r.srcPort d.now }) d
          releaseRun r.slot 64 (asdCtr r.slot 0 d)
      | .mirror =>
        let d := modSlot r.slot (fun s => { s with mirror := r.seq, stalled := false }) d
        { d with asd := { d.asd with journal := d.asd.journal.filter (fun x => !(decide (x.kind = .mirror) && decide (x.slot = r.slot) && decide (x.no < no))) } }
      | .mark => { d with asd := { d.asd with journal := dropCovered r d.asd.journal } }

def completeAll (d : Device) : Device := (d.asd.journal.map (·.no)).foldl (fun d no => tryComplete no d) d

/-- RECORD_COMPLETE: every in-service journal copy holds the record (06 R186). -/
def recordComplete (no : Nat) (d : Device) : Device :=
  match recOf d no with
  | some r => if r.kind = .mirror then d else tryComplete no (setRec no (fun r => { r with copy0 := true, copy1 := true }) d)
  | none => d

/-- MIRROR_COMPLETE: every in-service journal copy holds the counter mirror (06 R182). -/
def mirrorComplete (no : Nat) (d : Device) : Device :=
  match recOf d no with
  | some r => if r.kind = .mirror then tryComplete no (setRec no (fun r => { r with copy0 := true, copy1 := true }) d) else d
  | none => d

/-- PARTNER_ACK: the partner acknowledges a record, mirror or mark (06 R186). -/
def partnerAck (no : Nat) (d : Device) : Device :=
  tryComplete no (setRec no (fun r => { r with acked := true }) { d with asd := { d.asd with lastAck := d.now } })

/-- This device is replicated no more, as its own role ends: what waited only for the partner completes. -/
def replicationLost (d : Device) : Device := completeAll (stopReplicating d)

/-- The partner no longer replicates: REPL_LOST, and what waited only for it completes (06 R187). (log entry 86: DESIGN CHOICE) -/
def partnerStops (d : Device) : Device :=
  if d.asd.replicating then completeAll (stopReplicating (raise sqASD 1 0x0608 0 d)) else replicationLost d

/-- REPL_LOST: a record has waited 1 ms without any acknowledgement (06 R187). -/
def replLost (d : Device) : Device :=
  let late := d.asd.journal.any (fun r => !r.acked && !r.replica && decide (max r.wrote d.asd.lastAck + 1000000000 ≤ d.now))
  if d.asd.replicating ∧ late then partnerStops d else d

/-! ### The sequence test (06 R180 to R185, R193) -/

/-- The first waiting frame that may be tested: whole, verified, and the oldest of its stream (06 R192). -/
def nextForTest (d : Device) : Option Nat :=
  (d.asd.waiting.foldl (fun (acc : Option Nat × List Nat) id =>
    match acc.1, frameOf d id with
    | some _, _ => acc
    | none, none => acc
    | none, some f =>
      let hd := f.stream.getD 0
      let pend := match f.mac with | .pending .. => true | _ => false
      let free : Bool := match slotOf d hd with
        | some (_, s) => !s.stalled
        | none => true
      if acc.2.contains hd then acc
      else if f.ended && !pend && free then (some id, acc.2)
      else (none, hd :: acc.2)) (none, [])).1

/-- The meter of an Assured stream (06 R180), kept at the slot's own key. (log entry 29: DEDUCED) -/
def asdMeter (n : Nat) (a : AsdCfg) (bits : Nat) (d : Device) : Bool × Device :=
  let m : MeterCfg :=
    { cir := a.rateMbps * 1000, cbs := a.burstKiB * 1024, pir := a.rateMbps * 1000, pbs := a.burstKiB * 1024, colourAware := false, dropRed := true }
  let r := markMeter m (lookup? d.fwd.meters (8192 + n)) d.now bits .green
  (decide (r.1 = .red), { d with fwd := { d.fwd with meters := insertAt d.fwd.meters (8192 + n) r.2 } })

def notWaiting (id : Nat) (d : Device) : Device :=
  { d with asd := { d.asd with waiting := d.asd.waiting.filter (· ≠ id) } }

/-- The member port of a stream contributed a frame (06 R196). -/
def noteMember (n p : Nat) (d : Device) : Device :=
  modSlot n (fun s => { s with members := insertAt s.members p d.now, silent := s.silent.filter (· ≠ p) }) d

/-- Discard at the sequence test: counter k of the slot, or none. -/
def asdDiscard (n : Nat) (k : Option Nat) (code id : Nat) (d : Device) : Device :=
  let d := match k with | some k => asdCtr n k d | none => d
  dropFrame id (notWaiting id (bump (codeKey code n) d))

/-- The R-tag the device inserts is stored with the frame, whose length grows by it (06 R179). -/
def storeRtag (id : Nat) (bytes : Bytes) (d : Device) : Device :=
  match frameOf d id with
  | none => d
  | some f =>
    let more := cellsFor (bytes.length + 4) - f.cells
    let d := setFrame id { f with bytes := bytes } d
    if more = 0 then d else reviewAll (addCharge f.charge more (linkCells id more d))

/-- The frame of a number enters the window and its record is written (06 R193 write_record). (log entry 29: DEDUCED) -/
def passTest (n seq id : Nat) (c : Cfg) (sc : StreamCfg) (f : Frame) (d : Device) : Device :=
  let d := notWaiting id (noteMember n f.port d)
  let d := modSlot n (fun s => { s with win := insertAt s.win seq (id, false, 0) }) d
  let ports := (match f.dec with | some x => x.copies.map (·.1) | none => sc.egress)
  let bytes := withRtag c seq f.bytes
  let d := if sc.asd.device then storeRtag id bytes d else d
  writeRecord
    { no := 0, kind := .frame, slot := n, seq := seq, egress := ports, device := sc.asd.device, bytes := bytes,
      epoch := f.epoch, ageStamp := f.ageStamp, stamp := f.stamp, srcPort := f.port, itc := f.itc, frame := id } d

/-- The window test of a frame with its number (06 R193). A forward jump waits while records of the window are
pending. (log entry 29: DEDUCED) -/
def windowTest (n seq id : Nat) (c : Cfg) (sc : StreamCfg) (f : Frame) (d : Device) : Device :=
  match slotAt d n with
  | none => d
  | some s0 =>
    let d := if s0.mode = .init then setSlot n { s0 with mode := .run, next := seq, win := [], hist := [] } d else d
    let s := (slotAt d n).getD s0
    let k := seqDist s.next seq
    if 32768 ≤ k then
      if 65536 - k ≤ 1024 ∧ s.hist.contains seq then asdDiscard n (some 2) 0x0610 id (noteMember n f.port d)
      else asdDiscard n (some 3) 0x0611 id d
    else if 64 ≤ k then
      if s.win.any (fun x => !x.2.2.1) then d
      else
        let d := flushWindow n d
        let d := raise sqASD 3 0x0603 n (asdCtr n 6 d)
        let d := modSlot n (fun s => { s with next := seq, hist := s.hist.filter (fun x => seqDist x seq ≤ 1024) }) d
        passTest n seq id c sc f d
    else if (lookup? s.win seq).isSome then asdDiscard n (some 2) 0x0610 id (noteMember n f.port d)
    else passTest n seq id c sc f d

/-- The number a DEVICE stream would assign next is forbidden (06 R183). (log entry 29: DEDUCED) -/
def mirrorBlocks (s : AsdSlot) : Bool := decide (s.counter = (s.mirror + 512) % 65536)

/-- SEQUENCE_TEST: one waiting frame (06 R185). (log entry 29: DEDUCED, 87: DESIGN CHOICE) -/
def sequenceTest (d : Device) : Device :=
  if d.glb.stopAccept || d.asd.replayDue then d
  else match nextForTest d with
  | none => d
  | some id =>
    match frameOf d id with
    | none => d
    | some f =>
      let c := cfgAt d f.epoch
      let hd := f.stream.getD 0
      match lookup? c.sch.streams hd, slotOf d hd with
      | some sc, some (n, s) =>
        let h := parse c.fwd.userTypes f.bytes
        let icvBad := match f.mac with | .passed _ => true | _ => false
        -- delivered to other classes despite its ICV (08 R260), but never accepted (01 R26)
        if icvBad then dropFrame id (notWaiting id (mscCount 0x0810 d))
        else if sc.asd.device && isStandby d then dropFrame id (notWaiting id (pairDiscard 0x0E20 d))
        else if !sc.asd.device && h.rtag.isNone then asdDiscard n none 0x0613 id d
        else if sc.asd.device && mirrorBlocks s then
          raise sqASD 7 0x0607 n (setSlot n { s with stalled := true } d)
        else
          let size := (withRtag c 0 f.bytes).length + 4
          if !journalRoom (1 + ceilDiv size 64) d then d
          else
            let seq := if sc.asd.device then s.counter else h.rtag.getD 0
            -- a forward jump that waits for pending records is tested again later, and metered then
            let waits := decide (s.mode = .run) && decide (64 ≤ seqDist s.next seq) && decide (seqDist s.next seq < 32768) &&
              s.win.any (fun x => !x.2.2.1)
            if waits then d
            else
              let m := asdMeter n sc.asd ((64 + 64 * ceilDiv size 64) * 8) d
              if m.1 then asdDiscard n (some 4) 0x0612 id m.2
              else if isStandby d && m.2.asd.journal.any (fun r => r.kind = .frame ∧ r.slot = n ∧ r.seq = seq) then
                asdDiscard n (some 2) 0x0610 id (noteMember n f.port m.2)
              else
                let d := m.2
                let d := if sc.asd.device then
                    let v := (s.counter + 1) % 65536
                    let d := modSlot n (fun s => { s with counter := v }) d
                    if v % 256 = 0 then writeMirror n v d else d
                  else d
                windowTest n seq id c sc f d
      | _, _ => dropFrame id (notWaiting id d)

/-! ### Timers -/

/-- Acceptance of the oldest accepted frame that waits behind a gap (06 R194). -/
def oldestHeld (s : AsdSlot) : Option Nat :=
  (s.win.filterMap (fun x => if x.2.2.1 then some x.2.2.2 else none)).foldl
    (fun m v => match m with | none => some v | some w => some (min v w)) none

def streamOfSlot (d : Device) (n : Nat) : Option (AsdSlot × AsdCfg) :=
  (slotAt d n).bind (fun s => (lookup? d.cfg.sch.streams s.handle).map (fun sc => (s, sc.asd)))

/-- HOLD_EXPIRY (06 R194). -/
def holdExpiry (n : Nat) (d : Device) : Device :=
  match streamOfSlot d n with
  | none => d
  | some (s, a) =>
    match lookup? s.win s.next, oldestHeld s with
    | none, some t => if t + a.holdUs * 1000000 ≤ d.now then releaseRun n 64 (raise sqASD 4 0x0604 n (skipGap n d)) else d
    | _, _ => d

/-- RECOV_RESET (06 R195). -/
def recovReset (n : Nat) (d : Device) : Device :=
  match streamOfSlot d n with
  | none => d
  | some (s, a) =>
    if s.mode = .run ∧ s.win.isEmpty ∧ s.lastAccept + a.resetMs * 1000000000 ≤ d.now then
      raise sqASD 5 0x0605 n (setSlot n { s with mode := .init, win := [], hist := [] } d)
    else d

/-- MEMBER_SILENT (06 R196): once per silence. (log entry 84: DESIGN CHOICE) -/
def memberSilent (n p : Nat) (d : Device) : Device :=
  match streamOfSlot d n with
  | none => d
  | some (s, a) =>
    let lim := a.latentMs * 1000000000
    match lookup? s.members p with
    | none => d
    | some t =>
      let other := s.accepted.any (fun x => decide (x.1 ≠ p) && decide (d.now < x.2 + lim))
      if t + lim ≤ d.now ∧ other ∧ !s.silent.contains p then
        raise sqASD 6 0x0606 n (setSlot n { s with silent := p :: s.silent } d)
      else d

/-- H of a slot (06 R189): the highest number such that every accepted frame up to it has ended. -/
def endedUpTo (j : List JRec) (n : Nat) : Option Nat :=
  let rs := j.filter (fun r => decide (r.kind = .frame) && decide (r.slot = n) && r.complete)
  let open_ := rs.filter (fun r => !r.finished)
  let done := rs.filter (fun r => r.finished && open_.all (fun o => decide (seqDist r.seq o.seq < 32768)))
  done.foldl (fun m r => match m with
    | none => some r.seq
    | some v => if seqDist v r.seq < 32768 then some r.seq else some v) none

/-- MARK_RECORD: every 100 µs the slots whose progress advanced (06 R189). -/
def markRecord (d : Device) : Device :=
  let adv : List (Nat × Nat) := d.asd.slots.filterMap (fun x => match endedUpTo d.asd.journal x.1 with
    | some h => if x.2.ended = some h then none else some (x.1, h)
    | none => none)
  let d := adv.foldl (fun d x => modSlot x.1 (fun s => { s with ended := some x.2 }) d) d
  writeRecord { no := 0, kind := .mark, slot := 0x7FF, seq := 0, marks := adv } d

/-! ### Loss of a DRAM channel (01 R24, 03 R97, 06 R200, 07 R245) -/

/-- Conntrack is lost with its half of a channel: Spring rules are in force until STATE_REBUILT (07 R245); in full protection the partner is asked
for its mirror, else conntrack restarts empty; the structure is read again (01 R24). -/
def firewallLost (d : Device) : Device :=
  let full := decide (d.glb.prot = 0)
  let f := { d.fwl with
    ct := [], free := [], cache := [], frags := [], ctReady := false, reload := full,
    bankLoaded := false, spring := true, ctSync := false, revalPos := none }
  let d := { d with fwl := f }
  if full then sendPartner 4 .resync 0 0 d else d

/-- The effect of retiring DRAM channel `ch` (21 Table FLT-1): one journal copy, no spilled copies, SINGLE_CH. -/
def dramRetired (ch : Nat) (d : Device) : Device :=
  let bit : BitVec 2 := if ch = 0 then 1 else 2
  let keep := d.asd.copiesIn &&& ~~~bit
  let j := d.asd.journal.map (fun r => if ch = 0 then { r with copy0 := true } else { r with copy1 := true })
  let d := spillLost { d with asd := { d.asd with copiesIn := keep, journal := j } }
  closeUpdate (repliesLost ch (firewallLost (completeAll (raiseBit sqBUF 7 d))))

/-- DRAM retirement with the protection state it leaves (01 R33). -/
def dramFault (ch : Nat) (code : BitVec 16) (hard : Bool) (d : Device) : Device :=
  let d := if hard then hardFault (32 + ch) code (dramRetired ch) d else transient (32 + ch) code (dramRetired ch) d
  reviewProt d

/-- SPILL_REFILL: `memErr` is the DRAM channel of an uncorrectable error in the page that is read, which costs the page and the rest of the queue's
spill section (03 Table BUF-6). -/
def spillRefillRow (q : Nat) (memErr : Option Nat) (d : Device) : Device :=
  match memErr with
  | none => spillRefill q d
  | some ch =>
    let x := queueOf d q
    if x.inSpill ∧ (x.copies.map (copyCells d)).sum < 64 ∧ x.spill.any (fun c => c.written) then
      dramFault ch 0x0308 false (reviewSpill (reviewAll (loseSpill q d)))
    else d

/-! ### Replay (06 R198, R199, R201) -/

/-- An identifier no frame in the buffer has. -/
def freshFrame (d : Device) : Nat := (d.buf.frames.map (·.1)).foldl max 0 + 1

/-- Egress copies of a record's frame under the current configuration. -/
def recordCopies (d : Device) (c : Cfg) (ports : List Nat) (b : Bytes) (src : Nat) : List (Nat × Nat × Edit) :=
  let h := parse c.fwd.userTypes b
  let vid := ingressVid c src h
  let _ := d
  ports.map (fun p => (p, vid, { tag := tagEdit c h (framePrio c src h) .green p vid }))

/-- The configuration that the journal's records were accepted under: during a warm reset the one it re-applies (20 R561). -/
def keptCfg (d : Device) : Cfg := match d.boot.saved with | some x => x.1 | none => d.cfg

/-- Queue one record again, with its age less the time from WRST_N's fall (06 R199). -/
def replayRecord (r : JRec) (d : Device) : Device :=
  match slotAt d r.slot with
  | none => d
  | some s =>
    match lookup? (keptCfg d).sch.streams s.handle with
    | none => d
    | some sc =>
      let id := freshFrame d
      -- copies for ports a commit has removed are flushed (06 R197, Table ASD-4)
      let ports := r.egress.filter (fun p => sc.egress.contains p)
      let f : Frame :=
        { port := r.srcPort, bytes := r.bytes, ended := true, ageStamp := r.ageStamp + (d.buf.ageClock - d.asd.fallAge), stamp := r.stamp,
          charge := .allot (r.srcPort * 8 + r.itc), itc := r.itc, phase := .decided, epoch := d.glb.cfgEpoch, stream := some s.handle,
          dec := some { copies := recordCopies d (keptCfg d) ports r.bytes r.srcPort } }
      let d := (takeCells id (cellsFor (r.bytes.length + 4)) (setFrame id f d)).2
      let d := setRec r.no (fun r => { r with frame := id, complete := true, acked := true }) d
      enqueueAssured r.slot r.seq id (asdCtr r.slot 7 d)

/-- Latest mark of a slot. -/
def lastMark (j : List JRec) (n : Nat) : Option Nat :=
  (j.filter (fun r => decide (r.kind = .mark))).foldl (fun m r => match lookup? r.marks n with | some h => some h | none => m) none

/-- Insert a record in sequence order behind a reference number. -/
def bySeq (base : Nat) (r : JRec) : List JRec → List JRec
  | [] => [r]
  | a :: rest => if seqDist base r.seq < seqDist base a.seq then r :: a :: rest else a :: bySeq base r rest

/-- Build one slot's state from its records and queue the uncovered ones (06 R198 steps 2 to 4). RESET_TIME runs from the last acceptance
on (R195). (log entry 30: DESIGN CHOICE) -/
def rebuildSlot (n : Nat) (d : Device) : Device :=
  match slotAt d n with
  | none => d
  | some s =>
    let rs := d.asd.journal.filter (fun r => decide (r.kind = .frame) && decide (r.slot = n))
    let top := rs.foldl (fun (m : Option Nat) r => match m with
      | none => some r.seq
      | some v => if seqDist v r.seq < 32768 then some r.seq else some v) none
    let s : AsdSlot := match top with
      | none => { s with mode := .init, win := [], hist := [], stalled := false }
      | some v =>
        let nx := (v + 1) % 65536
        { s with mode := .run, next := nx, win := [], stalled := false, lastAccept := rs.foldl (fun m r => max m r.wrote) s.lastAccept, hist := (List.range 1024).map (fun i => (nx + 65535 - i) % 65536) }
    let ms := (d.asd.journal.filter (fun r => decide (r.kind = .mirror) && decide (r.slot = n))).map (·.seq)
    let m := ms.foldl (fun m v => if seqDist m v < 32768 then v else m) (ms.headD s.mirror)
    let dev : Bool := (match lookup? (keptCfg d).sch.streams s.handle with | some sc => sc.asd.device | none => false)
    let d := setSlot n (if dev then { s with mirror := m, counter := (m + 512) % 65536 } else s) d
    let due := rs.filter (fun r => match lastMark d.asd.journal n with
      | some h => !decide (seqDist r.seq h < 32768)
      | none => true)
    let base := match due with | r :: _ => (r.seq + 65536 - 1024) % 65536 | [] => 0
    let d := (due.foldl (fun acc r => bySeq base r acc) []).foldl (fun d r => replayRecord r d) d
    if dev then writeMirror n ((m + 512) % 65536) d else d

/-- JOURNAL_REPLAY: the journal is read after a warm reset (06 R198) or at takeover (R201). `bad0` and `bad1` list
the records that fail their CRC in the copy on channel 0 and 1. (log entry 30: DESIGN CHOICE) -/
def journalReplay (bad0 bad1 : List Nat) (d : Device) : Device :=
  if !d.asd.replayDue then d
  else
    let both := bad0.filter (fun n => bad1.contains n)
    let err (chan : Nat) (d : Device) : Device := raise sqASD 2 0x060A chan d
    let d := bad0.foldl (fun d _ => dramFault 0 0x060A false (err 0 d)) d
    let d := bad1.foldl (fun d _ => dramFault 1 0x060A false (err 1 d)) d
    -- a complete record lost in both copies is a hard fault of the worse channel (21 R581)
    let lost := d.asd.journal.any (fun r => r.complete && both.contains r.no)
    let d := if lost then dramFault (if windowCount d 33 < windowCount d 32 then 0 else 1) 0x060A true d else d
    let d := { d with asd := { d.asd with journal := d.asd.journal.filter (fun r => !both.contains r.no), replayDue := false, waiting := [] } }
    let d := (d.asd.slots.map (·.1)).foldl (fun d n => rebuildSlot n d) d
    raise sqASD 8 0x0609 0 d

/-! ### The standby (06 R201) -/

/-- REPLICA_RECORD: the standby journals a record, mark or mirror of the active under a RECORD_NO of its own and acknowledges the active's
(06 R186, R188, R201). A mark says which frames have ended at the active. (log entry 85: DESIGN CHOICE) -/
def replicaRecord (r : JRec) (d : Device) : Device :=
  if !isStandby d ∨ !journalRoom (recUnits r) d then d
  else
    let no := d.asd.nextNo
    let d := appendRecord { r with
      replica := true, acked := true, complete := true, copy0 := true, copy1 := true, finished := false, wrote := d.now } d
    let setJ (g : List JRec → List JRec) (d : Device) : Device := { d with asd := { d.asd with journal := g d.asd.journal } }
    let d := match r.kind with
      | .frame => d
      | .mirror => setJ (fun j => j.filter (fun x => !(decide (x.kind = .mirror) && decide (x.slot = r.slot) && decide (x.no < no)))) d
      | .mark => setJ (fun j => dropCovered { r with no := no } (j.map (fun x =>
          if x.kind = .frame ∧ covers r.marks x.slot x.seq then { x with finished := true } else x))) d
    sendPartner 3 .ack r.no 0 d

end Sys2Proof.Machine
end

