-- ==== Sys2Proof/Machine/Firewall.lean ====
section
/-! DEFINITION. The firewall's own steps (07): the miss engine, the scanner, revalidation, mirrors, and the setups a
standby asks its active for (14 R420). -/

namespace Sys2Proof.Machine

/-! ### The miss engine (07 R230 to R232) -/

/-- The frames of a key leave the miss queue with their verdict and wait for a recirculation slot, in queue order. -/
def releaseKey (key : Bytes) (res : Option Nat) (d : Device) : Device :=
  let mine := d.fwl.missQ.filter (fun x => x.2 = key)
  let fl := { d.fwl with missQ := d.fwl.missQ.filter (fun x => x.2 ≠ key), verdicts := mine.foldl (fun t x => insertAt t x.1 res) d.fwl.verdicts }
  { d with fwl := fl, fwd := { d.fwd with recirc := d.fwd.recirc ++ mine } }

/-- Fill the way of a key from its entry, and with it the way of the other entry of a NAPT flow (07 R229). -/
def fillWays (key : Bytes) (d : Device) : Device :=
  match ctFind d key with
  | none => d
  | some (_, e) =>
    let fill (k : Bytes) (x : Ct) (d : Device) : Device :=
      let waits := d.fwl.missQ.any (fun y => y.2 = k) || d.fwd.recirc.any (fun y => y.2 = k)
      let d := if (wayOf d k).isSome then d else allocWay { key := k, v6 := (k.headD 0 == 6), pend := waits } d
      modWay k (fun w => { w with filled := true, seen := x.seen, track := x.track, dirtyT := false }) d
    let d := fill key e d
    match e.link.bind (ctAt d) with
    | some o => fill o.key o d
    | none => d

/-- What the rules see of a queued frame. -/
def viewOf (c : Cfg) (f : Frame) (x : Decision) : FlowView :=
  let h := wholeHdr (parse c.fwd.userTypes f.bytes)
  let zout := match x.copies with | cp :: _ => zoneOf c cp.1 cp.2.1 | [] => x.zin
  { h := h, zin := x.zin, zout := zout, vid := x.vid, napt := (zoneCfg c x.zin).naptInside }

/-- Whether a frame is a SYN of the initiator on an entry in TIME_WAIT or CLOSED: the flow is set up anew (07 Table FWL-6, R230). -/
def startsAnew (c : Cfg) (v : FlowView) (e : Ct) : Bool :=
  match v.h.ip with
  | some ip => decide (e.kind = .tcp) && (decide (e.state = .timeWait) || decide (e.state = .closed)) && tcpSyn ip.l4 && !tcpAckF ip.l4 &&
      !e.alias_ && ((frameCtKey c v.h v.zin v.zout).2 == e.dir)
  | none => false

/-- MISS_LOOKUP_DONE: the lookup of the key of queued frame `id` ends, with any setup (07 R232). Only the first frame
of its key looks up. `memErr`: DRAM channel of an uncorrectable error in the entry's half (07 R245). -/
def missLookupDone (id : Nat) (memErr : Option Nat) (d : Device) : Device :=
  match d.fwl.missQ.find? (fun x => x.1 = id) with
  | none => d
  | some (_, key) =>
    let first := d.fwl.missQ.find? (fun x => x.2 = key)
    if first ≠ some (id, key) then d
    else match frameOf d id with
    | none => d
    | some f =>
      let c := cfgAt d f.epoch
      match f.dec with
      | none => d
      | some x =>
        match memErr with
        | some ch =>
          let d := match ctFind d key with | some (i, _) => ctDelete i d | none => d
          releaseKey key (some 0x071C) (dramFault ch 0x071C false d)
        | none =>
          let v := viewOf c f x
          let found := ctFind d key
          let reset : Bool := match found with | some (_, e) => startsAnew c v e | none => false
          -- no setup for a frame whose verdict is open (08 R261): the lookup ends when it is good
          if (match f.mac with | .pending .. => true | _ => false) && (found.isNone || reset) then d
          else if found.isSome && !reset then releaseKey key none (fillWays key d)
          else if (match v.h.ip with | some ip => isIcmpError ip | none => false) then releaseKey key (some 0x0712) d
          else if isStandby d then
            -- the standby delegates the setup (14 R420)
            if d.pair.setups.any (fun y => y.2.1 = key) then d
            else
              let p := { d.pair with setups := d.pair.setups ++ [(id, key, d.now + 1000000000)] }
              pairCtr 7 (conntrackMsg 40 (.setupRequest key v.zin v.zout v.vid (f.bytes.take v.h.need)) { d with pair := p })
          else
            let d := match found with | some (i, _) => ctDelete i d | none => d
            let r := setupFlow c f.port f.bytes v d
            match r.1 with
            | some code => releaseKey key (some code) r.2
            | none => releaseKey key none (fillWays key r.2)

/-! ### Ageing and revalidation (07 R226, R215, R228) -/

/-- CT_SCAN: the scanner visits an entry (07 R226). A standby never ages (R241). -/
def ctScan (i : Nat) (d : Device) : Device :=
  match ctAt d i with
  | none => d
  | some e =>
    if isStandby d || e.alias_ then d
    else
      let keys := e.key :: ((e.link.bind (ctAt d)).map (fun x => x.key)).toList
      let pend := keys.any (fun k => d.fwl.missQ.any (fun x => x.2 = k) || d.fwd.recirc.any (fun x => x.2 = k) ||
        (match wayOf d k with | some w => w.pend | none => false))
      let cached := (keys.filterMap (wayOf d)).foldl (fun m w => if w.filled then max m w.seen.toNat else m) 0
      let seen := max e.seen.toNat cached
      if pend then d
      else if timeoutOf d.cfg e < d.fwl.fwSec.toNat - max seen d.fwl.restartSec.toNat then ctDelete i d
      else d

/-- The tuple that an entry's initiator sends under (07 R216, R218). -/
def initTuple (e : Ct) : CtTuple :=
  let k := e.key
  let a1 := beAt k 4 16
  let a2 := beAt k 20 16
  let w1 := beAt k 36 2
  let w2 := beAt k 38 2
  let moves := decide (e.kind = .tcp) || decide (e.kind = .udp) || decide (e.kind = .otherIp)
  let swap := e.dir && moves
  { ver := byteAt k 0, proto := byteAt k 1, src := if e.dir then a2 else a1, dst := if e.dir then a1 else a2,
    w36 := if swap then w2 else w1, w38 := if swap then w1 else w2, zsrc := if e.dir then byteAt k 3 else byteAt k 2,
    zdst := if e.dir then byteAt k 2 else byteAt k 3, moves := moves }

/-- An entry's flow as its initiator's first frame, as far as the key tells (07 R215, R216, R218). (log entry 31: DEDUCED) -/
def entryView (c : Cfg) (e : Ct) : FlowView :=
  let t := initTuple e
  let icmp := decide (e.kind = .icmp)
  let l4 : L4 := if icmp then { icmpType := t.w38 / 256, icmpCode := t.w38 % 256, icmpId := t.w36 } else { sport := t.w36, dport := t.w38 }
  let ip : Option IpHdr := if t.ver = 2 then none else some
    { v6 := t.ver == 6, off := 0, src := t.src, dst := t.dst, proto := t.proto, dscp := 0, ttl := 64, totLen := 0, df := false, fragOff := 0,
      more := false, ident := 0, isFrag := false, l4Off := 0, deep := false, l4 := l4 }
  { h := { da := t.dst, sa := t.src, etherType := t.w36, payOff := 0, ip := ip, need := 0 }, zin := e.initZone, zout := e.respZone, vid := 0,
    napt := (zoneCfg c e.initZone).naptInside }

/-- CT_REVALIDATE: the revalidation pass visits the next entry in use and deletes it when its first matching rule is
no longer of the same action; past the last entry the pass ends (07 R215). A standby's entries go on DELETE messages alone (R241). (log entry 31: DEDUCED) -/
def ctRevalidate (d : Device) : Device :=
  match d.fwl.revalPos with
  | none => d
  | some pos =>
    match d.fwl.ct.find? (fun x => pos ≤ x.1) with
    | none => raise sqFWL 5 0x0705 0 { d with fwl := { d.fwl with revalPos := none } }
    | some (i, e) =>
      let d := { d with fwl := { d.fwl with revalPos := some (i + 1) } }
      if e.alias_ then d
      else
        let same : Bool := match firstRule d.cfg.fwl.bank.rules (entryView d.cfg e) with
          | some r => if e.napt then decide (r.action = .permitNapt) else decide (r.action = .permit)
          | none => false
        if same || isStandby d then d else ctDelete i (fwlCount 0x071B d)

/-- FRAG_EXPIRY: fragment entries 2 s past their latest fragment leave (07 R228). -/
def fragExpiry (d : Device) : Device :=
  { d with fwl := { d.fwl with frags := d.fwl.frags.filter (fun x => d.now < x.last + 2000000000000) } }

/-! ### Spring rules, grace, bank (07 R227, R239, R244) -/

/-- STATE_REBUILT: external memory is trained, the structure is read and verified, conntrack is initialised, kept or reloaded;
Spring rules end and PICKUP_GRACE begins (07 R239). (log entry 31: DEDUCED) -/
def stateRebuilt (d : Device) : Device :=
  if d.fwl.spring && d.buf.spillReady && !d.fwl.reload then
    let fresh := !d.fwl.ctReady
    let fl := { d.fwl with spring := false, bankLoaded := true, ctReady := true, graceEnd := some (d.now + 60000000000000) }
    let fl := if fresh && fl.ct.isEmpty then { fl with free := [], seed := d.cfg.fwl.fwSeed } else fl
    -- ports that a clear frame had switched return to their SecYs (08 R276)
    let back (x : Nat × PortState) : Nat × PortState := (x.1, if x.2.clearFrame then { x.2 with clearMode := false, clearFrame := false } else x.2)
    raise sqFWL 4 0x0704 0 { d with fwl := fl, ports := d.ports.map back }
  else d

/-- PICKUP_GRACE_END (07 R227). -/
def pickupGraceEnd (d : Device) : Device :=
  match d.fwl.graceEnd with
  | some t => if t ≤ d.now then { d with fwl := { d.fwl with graceEnd := none } } else d
  | none => d

/-- BANK_CHECK: after a warm reset the active bank is compared with the blob's digest; on failure the structure is to
be read again before STATE_REBUILT (07 R244). -/
def bankCheck (ok : Bool) (d : Device) : Device :=
  if !d.fwl.spring then d
  else if ok then stateRebuilt { d with fwl := { d.fwl with bankLoaded := true } }
  else { d with fwl := { d.fwl with bankLoaded := false } }

/-! ### The pair (07 R241, R243; 14 R420) -/

/-- A conntrack message from the partner: CREATE, UPDATE, DELETE, the answer that a requested setup was denied (14 R420), or a standby's notice
that it could not insert an entry (07 R241). -/
inductive MirrorOp where
  | create | update | delete | denied | failed
  deriving DecidableEq, Repr

/-- Frames of the standby that waited for a setup re-enter (14 R420). (log entry 32: DESIGN CHOICE) -/
def answerSetup (key : Bytes) (res : Option Nat) (d : Device) : Device :=
  if d.pair.setups.any (fun y => y.2.1 = key) then
    let d := { d with pair := { d.pair with setups := d.pair.setups.filter (fun y => y.2.1 ≠ key) } }
    releaseKey key res (match res with | none => fillWays key d | some _ => d)
  else d

/-- An entry's links to other entries are the receiver's own. -/
def placeMirror (e : Ct) (d : Device) : Option (Nat × Device) :=
  ctInsert { e with next := none, prev := none, link := none } d

/-- The key of the other entry of a NAPT flow: the initiator's address, and its port or identifier, translated (07 R219, R237). -/
def otherKey (e : Ct) : Bytes :=
  let t := initTuple e
  let ported := decide (t.proto = 6) || decide (t.proto = 17) || (decide (t.proto = 1) && decide (t.w38 = 0x0800))
  (ctKeyOf { t with src := e.xaddr, w36 := if ported then e.xport else t.w36 }).1

/-- Link a mirrored primary and alias of one NAPT flow. -/
def linkMirror (i : Nat) (e : Ct) (d : Device) : Device :=
  if !e.napt then d
  else match ctFind d (otherKey e) with
    | some (j, _) => modCt j (fun x => { x with link := some i }) (modCt i (fun x => { x with link := some j }) d)
    | none => d

/-- A mirrored entry could not be inserted: both devices raise MIRROR_FAIL and count it (07 R241). -/
def mirrorFailed (d : Device) : Device :=
  raise sqFWL 6 0x0706 0 { d with fwl := { d.fwl with mirrorFails := d.fwl.mirrorFails + 1 } }

/-- CT_MIRROR: the standby applies a mirror message (07 R241). A failed insertion raises MIRROR_FAIL on both devices. -/
def ctMirror (op : MirrorOp) (e : Ct) (d : Device) : Device :=
  -- an active whose conntrack was lost reloads it from the partner's mirror under Spring rules (01 R24)
  if op = .failed then
    (if d.pair.role = .active then mirrorFailed d else d)
  else if !isStandby d && !(d.fwl.spring && !d.fwl.ctReady) then d
  else match op with
  | .failed => d
  | .denied => answerSetup e.key (some 0x0710) d
  | .delete => (match ctFind d e.key with
    | some (i, _) => ctDelete1 i (clearWay e.key d)
    | none => d)
  | .update => (match ctFind d e.key with
    | some (i, o) =>
      let d := setCt i { e with next := o.next, prev := o.prev, link := o.link } d
      modWay e.key (fun w => { w with seen := e.seen, track := e.track }) d
    | none => d)
  | .create =>
    match ctFind d e.key with
    | some (i, o) => answerSetup e.key none (setCt i { e with next := o.next, prev := o.prev, link := o.link } d)
    | none =>
      match placeMirror e d with
      | some (i, d) => answerSetup e.key none (linkMirror i e d)
      | none => sendPartner 4 .mirrorFail 0 0 (mirrorFailed d)

/-- CT_RESEND_DONE: every valid entry has been resent; CT_SYNC reads 1 while the partner is ready (07 R243). While this device reloads its conntrack,
it is the partner's pass that has ended. -/
def ctResendDone (d : Device) : Device :=
  if d.fwl.reload then { d with fwl := { d.fwl with reload := false } }
  else if d.pair.role = .active ∧ d.pair.partnerReady ∧ d.asd.replicating then { d with fwl := { d.fwl with ctSync := true } } else d

/-- SETUP_REQUEST: the active performs a setup for its standby (14 R420): the header, zones and VID it sent. (log entry 32: DESIGN CHOICE) -/
def setupRequest (port : Nat) (hdr : Bytes) (zin zout vid : Nat) (d : Device) : Device :=
  if d.pair.role ≠ .active then d
  else
    let c := d.cfg
    let v : FlowView := { h := wholeHdr (parse c.fwd.userTypes hdr), zin := zin, zout := zout, vid := vid, napt := (zoneCfg c zin).naptInside }
    let k := frameCtKey c v.h zin zout
    let fresh (d : Device) : Device :=
      let r := setupFlow c port hdr v d
      match r.1 with
      | some _ => conntrackMsg 40 (.setupDenied k.1) r.2
      | none => r.2
    match ctFind d k.1 with
    | some (i, e) => if startsAnew c v e then fresh (ctDelete i d) else ctMirrorOut 0 i d
    | none => fresh d

/-- SETUP_TIMEOUT: no answer within 1 ms; the frames of the key are discarded (14 R420). (log entry 32: DESIGN CHOICE) -/
def setupTimeout (id : Nat) (d : Device) : Device :=
  match d.pair.setups.find? (fun y => y.1 = id) with
  | none => d
  | some (_, key, due) =>
    if d.now < due then d
    else
      let gone := d.fwl.missQ.filter (fun x => x.2 = key)
      let d := { d with pair := { d.pair with setups := d.pair.setups.filter (fun y => y.1 ≠ id) } }
      gone.foldl (fun d x => purgeFrame x.1 (pairDiscard 0x0E21 d)) d

/-- TOUCH: the active applies a state change or LAST_SEEN advance its standby observed, and mirrors it back. -/
def touch (key : Bytes) (state : CtPhase) (advance : Bool) (d : Device) : Device :=
  if d.pair.role ≠ .active then d
  else match ctFind d key with
  | none => d
  | some (i, e) =>
    let seen := if advance then d.fwl.fwSec else e.seen
    ctMirrorOut 1 i (setCt i { e with state := state, seen := seen } d)

end Sys2Proof.Machine
end

