-- ==== Sys2Proof/Machine/GwyOps.lean ====
section
/-! DEFINITION. Operations of the gateway below the buses (12): bits of signals, telegrams and messages as bytes, their
injection into the pipeline, far-side results, side-band messages. -/

namespace Sys2Proof.Machine

/-! ### Signals (12 R366, R367) -/

def bitOf (b : Bytes) (i : Nat) : Bool := (b.getD (i / 8) 0).getLsbD (i % 8)

def setBitOf (b : Bytes) (i : Nat) (v : Bool) : Bytes :=
  match b[i / 8]? with
  | none => b
  | some x =>
    let m : Byte := (1 : Byte) <<< (i % 8)
    b.set (i / 8) (if v then x ||| m else x &&& ~~~m)

/-- Position of the bit of significance `k` of a signal of `w` bits: little-endian from its least significant bit
upward, big-endian from its most significant bit downward and into the next byte. -/
def sigPos (be : Bool) (start w k : Nat) : Nat :=
  if be then
    (List.range (w - 1 - k)).foldl (fun p _ => if p % 8 = 0 then p + 15 else p - 1) start
  else start + k

def getSignal (be : Bool) (start w : Nat) (b : Bytes) : Nat :=
  (List.range w).foldl (fun a k => if bitOf b (sigPos be start w k) then a + 2 ^ k else a) 0

def setSignal (be : Bool) (start w v : Nat) (b : Bytes) : Bytes :=
  (List.range w).foldl (fun b k => setBitOf b (sigPos be start w k) (v.testBit k)) b

/-- One signal copied into an image (12 R367). -/
def copySignal (s : GwSignal) (payload image : Bytes) : Bytes :=
  setSignal s.dstBe s.dstBit s.width (getSignal s.srcBe s.srcBit s.width payload) image

/-- A lost source's signal takes its LOSS value (12 R367). -/
def loseSignal (s : GwSignal) (image : Bytes) : Bytes :=
  if s.loss = 1 then setSignal s.dstBe s.dstBit s.width 0 image
  else if s.loss = 2 then setSignal s.dstBe s.dstBit s.width (2 ^ s.width - 1) image
  else image

/-- The signals of a route, in descriptor order. -/
def routeSignals (c : Cfg) (r : GwRoute) : List GwSignal :=
  (List.range r.sigCount).filterMap (fun k => lookup? c.gw.signals (r.sigFirst + k))

/-! ### Records and counters -/

def gwOut (d : Device) (n : Nat) : GwOut := lookupD d.gw.outs n {}

def setGwOut (n : Nat) (x : GwOut) (d : Device) : Device := { d with gw := { d.gw with outs := insertAt d.gw.outs n x } }

/-- The image of an output: LEN zero bytes until something writes it (12 R364). -/
def imageOf (d : Device) (n : Nat) : Bytes :=
  match (gwOut d n).image, lookup? d.cfg.gw.outputs n with
  | some b, _ => b
  | none, some o => List.replicate o.len 0
  | none, none => []

/-- Discards 0x0C10 to 0x0C16 (12 R379). -/
def gwDiscard (code : Nat) (d : Device) : Device := bump (0x5C2000 + (code - 0x0C10) * 8) d

/-- Counter k of an output (12 R380). -/
def gwCtr (n k : Nat) (d : Device) : Device := bump (0x5C4000 + n * 0x20 + k * 8) d

/-! ### Frames the gateway makes (12 Table GWY-1, Table GWY-6) -/

def padTo (n : Nat) (b : Bytes) : Bytes := b ++ List.replicate (n - b.length) 0

def pad4 (b : Bytes) : Bytes := padTo (4 * ceilDiv b.length 4) b

/-- MAC address of a gateway destination port (12 R357). -/
def gwMac (p : Nat) : Bytes := toBe 5 0x020000C000 ++ toBe 1 p

/-- ORIGIN and ORIG_REF of a message. (log entry 38: DESIGN CHOICE) -/
def originBytes : GwOrigin → Nat × Nat
  | .route => (0, 0)
  | .ncp s q => (64 + s % 64, q.toNat)
  | .dma q r => (128 + q % 64, r.toNat)

def originOf (b ref : Nat) : GwOrigin :=
  if b / 64 = 1 then .ncp (b % 64) (BitVec.ofNat 32 ref)
  else if b / 64 = 2 then .dma (b % 64) (BitVec.ofNat 32 ref)
  else .route

/-- An internal gateway message (12 Table GWY-1); `kind` 0 data, 1 side-band. (log entry 38: DESIGN CHOICE) -/
def gwFrame (mac : BitVec 48) (kind src dst out : Nat) (o : GwOrigin) (tag ts deadline : Nat) (payload : Bytes) : Bytes :=
  let r := originBytes o
  padTo 60 (gwMac dst ++ toBe 6 mac.toNat ++ toBe 2 0x88B6 ++ toBe 1 (16 + kind) ++ toBe 1 src ++ toBe 1 dst ++ toBe 1 r.1 ++
    toBe 2 out ++ toBe 2 payload.length ++ toBe 4 tag ++ toBe 4 r.2 ++ toBe 4 ts ++ toBe 2 deadline ++ toBe 2 0 ++ payload)

/-- The 802.1Q tag of an Ethernet output (12 Table GWY-4 TAG_VLAN). (log entry 37: PRESUMED) -/
def vlanBytes (pcp vid : Nat) : Bytes := if pcp = 0 ∧ vid = 0 then [] else toBe 2 0x8100 ++ toBe 2 (pcp % 8 * 8192 + vid % 4096)

/-- DA of an IPv4 destination: the group address of a multicast one, else the device's own for routing. -/
def ipMac (own : BitVec 48) (ip : BitVec 32) : Bytes :=
  if ip.toNat / 268435456 = 14 then toBe 3 0x01005E ++ toBe 3 (ip.toNat % 8388608) else toBe 6 own.toNat

/-- A TRDP process data telegram (12 Table GWY-6); the header layout is that of IEC 61375-2-3. (log entry 37: PRESUMED) -/
def trdpFrame (mac : BitVec 48) (o : GwOutput) (comId seq topo : Word) (payload : Bytes) : Bytes :=
  let hdr := toBe 4 seq.toNat ++ toBe 2 0x0100 ++ toBe 2 0x5064 ++ toBe 4 comId.toNat ++ toBe 4 topo.toNat ++ toBe 4 0 ++
    toBe 4 payload.length ++ toBe 4 0 ++ toBe 4 0 ++ toBe 4 0
  let udpData := hdr ++ leWord (crc32 hdr) ++ pad4 payload
  let udp := toBe 2 17224 ++ toBe 2 17224 ++ toBe 2 (8 + udpData.length) ++ toBe 2 0 ++ udpData
  let ip0 := toBe 1 0x45 ++ toBe 1 (o.dscp * 4) ++ toBe 2 (20 + udp.length) ++ toBe 4 0 ++ toBe 1 64 ++ toBe 1 17
  let adr := toBe 4 o.srcIp.toNat ++ toBe 4 o.dstIp.toNat
  let sum := 65535 - ocSum (ip0 ++ toBe 2 0 ++ adr)
  ipMac mac o.dstIp ++ toBe 6 mac.toNat ++ vlanBytes o.pcp o.vid ++ toBe 2 0x0800 ++ ip0 ++ toBe 2 sum ++ adr ++ udp

/-- A TS32 as the full local time in ns (04 R113): the latest time not after now with these low 32 bits. -/
def fullNs (d : Device) (ts : Word) : Nat :=
  localNs d - (BitVec.ofNat 32 (localNs d) - ts).toNat

/-- A 1722 NTSCF frame with one ACF CAN message (12 Table GWY-6); `ident` as in kind 5 of Table GWY-3. (log entry 37: PRESUMED) -/
def acfFrame (mac : BitVec 48) (o : GwOutput) (seq : Nat) (ns : Nat) (payload : Bytes) : Bytes :=
  let len := pad4 payload
  let quads := 4 + len.length / 4
  let fd := o.ident / 1073741824 % 2
  let ide := o.ident / 536870912 % 2
  let flags := (len.length - payload.length) * 64 + 32 + ide * 8 + fd * 2
  let acf := toBe 2 (1 * 512 + quads) ++ toBe 1 flags ++ toBe 1 (o.sub / 256 % 32) ++ toBe 8 ns ++ toBe 4 (o.ident % 536870912) ++ len
  toBe 6 o.dstMac.toNat ++ toBe 6 mac.toNat ++ vlanBytes o.pcp o.vid ++ toBe 2 0x22F0 ++
    toBe 1 0x82 ++ toBe 2 (0x8000 + acf.length) ++ toBe 1 seq ++ toBe 8 o.streamId.toNat ++ acf

/-! ### Injection on a source virtual port (12 R357, R359; 03 Table BUF-3) -/

/-- A message of the gateway enters the buffer whole, on its source port. -/
def injectNow (p : Nat) (bytes : Bytes) (d : Device) : Device := injectFrame p none none none true (padTo 60 bytes) d

/-- Allotment of what the gateway injects on a source port. -/
def gwAllot (d : Device) (p : Nat) : Nat := p * 8 + tcOf d.cfg p (lookupD d.cfg.gw.tc p 0)

/-- Messages whose source port's allotment is not exhausted enter the pipeline, in order per source. -/
def gwDrain (d : Device) : Device :=
  let r : List (Nat × Bytes) × List Nat × Device := d.gw.queue.foldl (fun acc m =>
    if acc.2.1.contains m.1 || (allotOf acc.2.2 (gwAllot acc.2.2 m.1)).exhausted then (acc.1 ++ [m], m.1 :: acc.2.1, acc.2.2)
    else (acc.1, acc.2.1, injectNow m.1 m.2 acc.2.2)) ([], [], { d with gw := { d.gw with queue := [] } })
  { r.2.2 with gw := { r.2.2.gw with queue := r.1 } }

def inject (p : Nat) (bytes : Bytes) (d : Device) : Device :=
  gwDrain { d with gw := { d.gw with queue := d.gw.queue ++ [(p, bytes)] } }

/-- The gateway may emit: it runs, the cores are not halted, and this device owns the functions (12 R360, R377). -/
def gwEmits (d : Device) : Bool := d.gw.running && !d.gw.stopped && isOwner d

/-! ### Far-side results (12 Table GWY-7, R374 to R376) -/

inductive GwFar where
  | done | lateSent | lateFailed | retryLimit | deadline | aborted | notPolled | full | resetLost | takeover
  deriving DecidableEq, Repr

/-- The reason code of a gateway send's end (12). (log entry 42: DEDUCED) -/
def farReason : GwFar → BitVec 16
  | .done => 0
  | .lateSent => 0x0C21
  | .lateFailed => 0x0C22
  | .retryLimit => 0x0C23
  | .deadline => 0x0C24
  | .aborted => 0x0C25
  | .notPolled => 0x0C26
  | .full => 0x0C15
  | .resetLost => 0x0A30
  | .takeover => 0x0C28

def farStatus : GwFar → BitVec 16
  | .done => 0x0000
  | .lateSent => 0x0003
  | .lateFailed => 0x0003
  | _ => 0x0207

/-- A route-originated output fails (12 R376): counter 2, and the event at most once a second per output. -/
def routeFail (n : Nat) (d : Device) : Device :=
  let d := gwCtr n 2 d
  let x := gwOut d n
  let soon : Bool := match x.failAt with | some t => decide (d.now < t + 1000000000000) | none => false
  if soon then d else raise 0x5C0040 3 0x0C04 n (setGwOut n { x with failAt := some d.now } d)

/-- A late error record of a message's origin (12 R375). -/
def gwLate (n : Nat) (o : GwOrigin) (reason : BitVec 16) (d : Device) : Device :=
  let d := gwCtr n 3 d
  match o with
  | .route => lateRecord { reason := reason } d
  | .ncp s q => lateRecord { reason := reason, origin := 1, who := BitVec.ofNat 6 s, ref := q } d
  | .dma q r => lateRecord { reason := reason, origin := 2, who := BitVec.ofNat 6 q, ref := r } d

/-- The destination result of a message is final (12 Table GWY-7). -/
def gwResult (m : GwMsg) (r : GwFar) (d : Device) : Device :=
  if r = .resetLost ∨ r = .takeover then gwLate m.output m.origin (farReason r) d
  else match m.origin with
    | .route => if r = .done ∨ r = .lateSent then d else routeFail m.output d
    | .ncp s q =>
      if isOpen d s q then finish (some (s, q)) (farStatus r) (farReason r) [] d
      else if r = .done then d else gwLate m.output m.origin (farReason r) d
    | o => if r = .done then d else gwLate m.output o (farReason r) d

/-! ### Side-band messages (12 R372) -/

/-- TAG of a source port: RSEQ or MSEQ. -/
def sourceTag (d : Device) (p : Nat) : Word :=
  if p < 34 then (lookupD d.can (p - 26) {}).rseq else (lookupD d.mvb (p - 34) {}).mseq

/-- The side-band message and its status telegram leave, in source order. (log entry 38: DESIGN CHOICE) -/
def sidebandNow (p : Nat) (code : BitVec 16) (chan : Nat) (detail : Word) (d : Device) : Device :=
  let pay := toBe 2 code.toNat ++ toBe 1 chan ++ toBe 1 0 ++ toBe 4 detail.toNat
  let d := inject p (gwFrame d.cfg.gw.mac 1 p 36 0 .route (sourceTag d p).toNat (ts32 d).toNat 0 pay) d
  match lookup? d.cfg.gw.status p with
  | none => d
  | some (com, dst, src) =>
    let seq := lookupD d.gw.statusSeq p 0
    let o : GwOutput := { eth := true, kind := .trdp, len := 8, dstIp := dst, srcIp := src }
    inject p (trdpFrame d.cfg.gw.mac o com seq d.top.count pay)
      { d with gw := { d.gw with statusSeq := insertAt d.gw.statusSeq p (seq + 1) } }

/-- A side-band message: held until the gateway starts, or while it is stopped, never sent by a standby (12 R360, R377).
(log entry 38: DESIGN CHOICE) -/
def sideband (p : Nat) (code : BitVec 16) (chan : Nat) (detail : Word) (d : Device) : Device :=
  if !d.gw.running || d.gw.stopped then { d with gw := { d.gw with held := d.gw.held ++ [(p, code, chan, detail)] } }
  else if gwEmits d then sidebandNow p code chan detail d
  else d

/-- Held side-band messages leave, in their order (12 R360). -/
def sendHeldSideband (d : Device) : Device :=
  d.gw.held.foldl (fun d m => sideband m.1 m.2.1 m.2.2.1 m.2.2.2 d) { d with gw := { d.gw with held := [] } }

/-- The gateway builds messages again after a halt of the control cores (12 R360). (log entry 38: DESIGN CHOICE) -/
def gwResume (d : Device) : Device :=
  let d := { d with gw := { d.gw with stopped := false } }
  if d.gw.running then sendHeldSideband d else d

end Sys2Proof.Machine
end

