-- ==== Sys2Proof/Machine/CanOps.lean ====
section
/-! DEFINITION. Operations of the CAN controllers (10): entries, their order and results, error confinement, going OFF;
and of an MVB source page (11 R343). -/

namespace Sys2Proof.Machine

def canCfg (c : Cfg) (n : Nat) : CanCfg := lookupD c.can n {}

def canSt (d : Device) (n : Nat) : CanState := lookupD d.can n {}

def setCan (n : Nat) (x : CanState) (d : Device) : Device := { d with can := insertAt d.can n x }

def modCan (n : Nat) (g : CanState → CanState) (d : Device) : Device := setCan n (g (canSt d n)) d

/-- Counter k of a channel (10 R335). -/
def canCtr (n k : Nat) (d : Device) : Device := bump (0x541000 + n * 0x4000 + k * 8) d

def txOf (x : CanState) (e : Nat) : TxEntry := lookupD x.tx e {}

def setTx (e : Nat) (t : TxEntry) (x : CanState) : CanState := { x with tx := insertAt x.tx e t }

/-- A format the channel sends and receives (10 R307). -/
def hasFormat (c : CanCfg) : CanFmt → Bool
  | .cc => c.fmtCc
  | .fd => c.fmtFd
  | .xl => c.fmtXl

/-- Valid FD lengths and the next one up (10 R313). -/
def fdLength (n : Nat) : Nat := (([0, 1, 2, 3, 4, 5, 6, 7, 8, 12, 16, 20, 24, 32, 48, 64] : List Nat).find? (fun k => decide (n ≤ k))).getD 64

/-- LEN within the range of its format (10 Table CXL-4). -/
def lenOk (f : CanFrame) : Bool :=
  match f.fmt with
  | .cc => decide (f.data.length ≤ 8)
  | .fd => decide (f.data.length ≤ 64)
  | .xl => decide (1 ≤ f.data.length ∧ f.data.length ≤ 2048)

/-- An entry the channel cannot send (10 R313). -/
def txInvalid (c : CanCfg) (t : TxEntry) : Bool :=
  !hasFormat c t.frame.fmt || !lenOk t.frame || (t.cv != decide (64 < t.frame.data.length)) ||
  (t.frame.rtr && decide (t.frame.fmt ≠ .cc))

/-- The frame as it goes out: an FD frame padded with 0xCC to a valid length (10 R313); ESI from the channel's state. -/
def wireFrame (x : CanState) (f : CanFrame) : CanFrame :=
  match f.fmt with
  | .fd => { f with esi := x.passive, data := f.data ++ List.replicate (fdLength f.data.length - f.data.length) 0xCC }
  | .cc => f
  | .xl => f

/-- The arbitration field of a frame as a number; the lower wins (ISO 11898-1). (log entry 41: PRESUMED) -/
def arbField (f : CanFrame) : Nat :=
  let r := if f.rtr then 1 else 0
  if f.ide then f.ident / 262144 % 2048 * 2097152 + 1048576 + 524288 + f.ident % 262144 * 2 + r
  else f.ident % 2048 * 2097152 + r * 1048576

/-- Entries in a phase, by index. -/
def inPhase (x : CanState) (p : TxPhase) : List (Nat × TxEntry) := x.tx.filter (fun t => decide (t.2.phase = p))

/-- Whether entry `a` is offered before `b` (10 R319). (log entry 41: PRESUMED) -/
def before (fifo : Bool) (a b : TxEntry) : Bool :=
  if fifo then decide (a.order < b.order)
  else decide (arbField a.frame < arbField b.frame) || (decide (arbField a.frame = arbField b.frame) && decide (a.order < b.order))

/-- The PENDING entry the controller offers next (10 R319). -/
def offered (fifo : Bool) (x : CanState) : Option Nat :=
  ((inPhase x .pending).foldl (fun (acc : Option (Nat × TxEntry)) t => match acc with
    | none => some t
    | some b => if before fifo t.2 b.2 then some t else some b) none).map Prod.fst

def farOf : TxResult → GwFar
  | .sent => .done
  | .lateSent => .lateSent
  | .lateFailed => .lateFailed
  | .retryLimit => .retryLimit
  | .cancelled => .deadline
  | .aborted => .aborted
  | .invalid => .aborted

/-- Counter of a result (10 R335). -/
def resultCtr : TxResult → Option Nat
  | .sent => none
  | .lateSent => some 10
  | .lateFailed => some 10
  | .retryLimit => some 11
  | .cancelled => some 9
  | .aborted => some 12
  | .invalid => none

/-- An entry enters DONE with its result (10 R316): TX_DONE, its counter, and the result at the gateway (12 R374). (log entry 42: DEDUCED) -/
def txDone (n e : Nat) (r : TxResult) (d : Device) : Device :=
  let x := canSt d n
  let d := setCan n (setTx e { txOf x e with phase := .done, result := r } x) d
  let d := match resultCtr r with | some k => canCtr n k d | none => d
  let d := raiseBit (sqCXL n) 0 d
  match lookup? d.gw.entries (n * 64 + e) with
  | some m => gwResult m (farOf r) { d with gw := { d.gw with entries := removeAt d.gw.entries (n * 64 + e) } }
  | none => d

/-- HANDOVER_ERR (10 R315). -/
def handoverErr (n : Nat) (d : Device) : Device := raise (sqCXL n) 9 0x0A0A n d

/-- Request of one entry (10 R313 to R315). A channel that is OFF aborts it at once. (log entry 42: DEDUCED) -/
def txRequest (n e : Nat) (d : Device) : Device :=
  let x := canSt d n
  let t := txOf x e
  if t.phase ≠ .free then handoverErr n d
  else
    let t := { t with phase := .pending, order := x.orders, attempts := 0, failed := 0, lec := 0, cancel := false }
    let d := setCan n (setTx e t { x with orders := x.orders + 1 }) d
    if !x.on || x.closing then txDone n e .aborted d
    else if txInvalid (canCfg d.cfg n) t then txDone n e .invalid d
    else d

/-- Cancel of one entry (10 R315, R318, R325). -/
def txCancel (n e : Nat) (d : Device) : Device :=
  let x := canSt d n
  match (txOf x e).phase with
  | .pending => txDone n e .cancelled d
  | .attempt => setCan n (setTx e { txOf x e with cancel := true } x) d
  | .free => d
  | .done => d

/-- Acknowledgement of one entry (10 R315). -/
def txAck (n e : Nat) (d : Device) : Device :=
  let x := canSt d n
  if (txOf x e).phase = .done then setCan n (setTx e { txOf x e with phase := .free } x) d else handoverErr n d

/-- The entries whose bit a 64-bit mask sets, in rising order. -/
def maskBits (m : BitVec 64) : List Nat := (List.range 64).filter (fun e => m.getLsbD e)

/-- The channel stops: PENDING entries are ABORTED; without an attempt in progress it is OFF (10 R328). -/
def canOff (n : Nat) (d : Device) : Device :=
  let x := canSt d n
  if !x.on then d
  else
    let d := setCan n { x with closing := true } d
    let d := (inPhase x .pending).foldl (fun d t => txDone n t.1 .aborted d) d
    if (inPhase x .attempt).isEmpty then
      modCan n (fun x => { x with on := false, closing := false, busOff := false, recovering := false }) d
    else d

/-- After an attempt: a closing channel goes OFF (10 R328). -/
def canClose (n : Nat) (d : Device) : Device :=
  let x := canSt d n
  if x.closing && (inPhase x .attempt).isEmpty then
    modCan n (fun x => { x with on := false, closing := false, busOff := false, recovering := false }) d
  else d

/-- A channel retires (21 Table FLT-1). -/
def canRetired (n : Nat) (d : Device) : Device := canOff n (modCan n (fun x => { x with retired := true }) d)

/-- A channel joins the bus (10 R328): error counters zero, CX_STB at the normal level. -/
def canOn (n : Nat) (d : Device) : Device :=
  let x := canSt d n
  if x.on ∨ x.retired then d
  else
    let stb : Bool := !(canCfg d.cfg n).stbPol
    emit (.pin (.canStb n) stb) (setCan n { x with
      on := true, closing := false, txErr := 0, rxErr := 0, consecAck := 0, passive := false, busOff := false, recovering := false, alone := false,
      standby := false } d)

/-- The error state after a change of TEC or REC (10 R320). -/
def reviewErrors (n : Nat) (d : Device) : Device :=
  let x := canSt d n
  let p : Bool := decide (128 ≤ x.txErr) || decide (128 ≤ x.rxErr)
  if x.busOff then d
  else if p && !x.passive then raise (sqCXL n) 1 0x0A02 n (setCan n { x with passive := true } d)
  else if !p && x.passive then raise (sqCXL n) 2 0x0A03 n (setCan n { x with passive := false } d)
  else d

/-! ### MVB source pages (11 R343) -/

def mvbCfg (c : Cfg) (n : Nat) : MvbCfg := lookupD c.mvb n {}

def mvbSt (d : Device) (n : Nat) : MvbState := lookupD d.mvb n {}

def setMvb (n : Nat) (x : MvbState) (d : Device) : Device := { d with mvb := insertAt d.mvb n x }

def modMvb (n : Nat) (g : MvbState → MvbState) (d : Device) : Device := setMvb n (g (mvbSt d n)) d

def mvbCtr (n k : Nat) (d : Device) : Device := bump (0x581000 + n * 0x10000 + k * 8) d

/-- Bytes of an F_code 0 to 4. -/
def mvbBytes (size : Nat) : Nat := 2 ^ (size + 1)

/-- The acceptance filters of a channel: its distinct keys in the routing table, in order (10 R312). (log entry 42: DEDUCED) -/
def canFilters (c : Cfg) (n : Nat) : List (GwKind × Nat × Nat) :=
  (c.gw.routes.filter (fun r => decide (r.src = some (26 + n)))).foldl (fun acc r =>
    let k := (r.kind, r.sub, r.ident)
    if acc.contains k then acc else acc ++ [k]) []

/-- A port entry, as the commit left it while nothing has written it (11 R343). -/
def mvbEntry (d : Device) (n a : Nat) : MvbEntry :=
  match lookup? (mvbSt d n).entries a with
  | some e => e
  | none =>
    match lookup? (mvbCfg d.cfg n).ports a with
    | some p => { page0 := padTo (mvbBytes p.size) p.init, page1 := padTo (mvbBytes p.size) [] }
    | none => {}

def setEntry (n a : Nat) (e : MvbEntry) (d : Device) : Device :=
  modMvb n (fun x => { x with entries := insertAt x.entries a e }) d

/-- Data into the page that PAGE does not name, then PAGE flips (11 R342, R343). -/
def flipPage (e : MvbEntry) (data : Bytes) : MvbEntry :=
  let e := if e.page then { e with page0 := data } else { e with page1 := data }
  { e with page := !e.page, upd := e.upd + 1, age := 0, mark := false }

def currentPage (e : MvbEntry) : Bytes := if e.page then e.page1 else e.page0

/-- The gateway writes a source port (11 R343, R344). -/
def mvbSourceWrite (n a : Nat) (data : Bytes) (d : Device) : Device :=
  match lookup? (mvbCfg d.cfg n).ports a with
  | none => d
  | some p => if p.source ∧ data.length = mvbBytes p.size then setEntry n a (flipPage (mvbEntry d n a) data) d else d

end Sys2Proof.Machine
end

