-- ==== Sys2Proof/Machine/Gateway.lean ====
section
/-! DEFINITION. The gateway (12): outputs and their emission, delivery to a bus, routes, losses, telegrams and 1722
frames, deadlines, publications, start. -/

namespace Sys2Proof.Machine

/-! ### Delivery at a destination port (12 R361, R374) -/

/-- The CAN frame an output sends (12 Table GWY-3). -/
def outFrame (o : GwOutput) (payload : Bytes) : CanFrame :=
  match o.kind with
  | .canXl => { fmt := .xl, ident := o.ident % 2048, sdt := BitVec.ofNat 8 (o.sub / 256), vcid := BitVec.ofNat 8 o.sub, data := payload }
  | k => { fmt := if o.sub % 4 = 1 then .fd else .cc, ide := decide (k = .canExt),
           ident := if k = .canExt then o.ident % 536870912 else o.ident % 2048, brs := decide (o.sub / 4 % 2 = 1), data := payload }

/-- Most bytes of an output's format. -/
def formatMax (o : GwOutput) : Nat :=
  match o.kind with
  | .canBase => if o.sub % 4 = 1 then 64 else 8
  | .canExt => if o.sub % 4 = 1 then 64 else 8
  | .canXl => 2048
  | .mvb => 32
  | .trdp => 1432
  | .acf => if o.ident / 1073741824 % 2 = 1 then 64 else 8

/-- The lowest FREE entry of a channel. -/
def freeEntry (x : CanState) : Option Nat := (List.range 64).find? (fun e => decide ((txOf x e).phase = .free))

def waitList (d : Device) (n : Nat) : List GwMsg := lookupD d.gw.waits n []

/-- Time quanta of one bit in a phase (10). (log entry 36: PRESUMED) -/
def phaseTq (p : CanPhase) : Nat := 1 + p.seg1 + p.seg2

/-- Longest time of an attempt in CAN clocks of 6.25 ns (10 R326): every stuff bit, then 31 nominal bits. Frame lengths in bits
are ISO 11898-1's (PRESUMED, notes/assumptions/36). (log entry 36: PRESUMED) -/
def attemptClocks (c : CanCfg) (o : GwOutput) : Nat :=
  let n := c.brp * phaseTq c.nom
  let f := c.brp * phaseTq c.fd
  let l := c.brp * phaseTq c.xl
  let ext := decide (o.kind = .canExt)
  match o.kind with
  | .canXl =>
    let data := 8 * o.len + 13 * 8 + 32 + 8
    (35 + 8 + 31) * n + (data + data / 10) * l
  | _ =>
    if o.sub % 4 = 1 then
      let arb := if ext then 36 else 17
      let data := 8 * o.len + 5 + 25 + 6
      (arb + arb / 4 + 12 + 31) * n + (data + data / 4) * f
    else
      let k := (if ext then 54 else 34) + 8 * o.len
      (k + 10 + (k - 1) / 4 + 31) * n

/-- Retries of a message: the output's own, or for a command the largest count whose worst case ends within its TIMEOUT (16 R474). (log entry 36: PRESUMED) -/
def retryOf (n : Nat) (m : GwMsg) (o : GwOutput) (d : Device) : Nat :=
  match m.origin with
  | .ncp s q =>
    match recAt d s q with
    | none => o.retry
    | some r =>
      let ms := match r.op with | some op => if r.packet.timeoutMs = 0 then op.defaultMs else r.packet.timeoutMs | none => 0
      let left := r.acceptedAt + ms * 1000000000 - d.now
      min o.retry (left / 6250 / attemptClocks (canCfg d.cfg n) o - 1)
  | _ => o.retry

/-- The gateway writes a FREE entry and requests it (10 R311, R314). -/
def writeEntry (n e : Nat) (m : GwMsg) (o : GwOutput) (d : Device) : Device :=
  let x := canSt d n
  let f := outFrame o m.payload
  let t := { txOf x e with frame := f, cv := decide (64 < f.data.length), ref := BitVec.ofNat 32 m.output, retry := BitVec.ofNat 8 (retryOf n m o d) }
  let d := setCan n (setTx e t x) { d with gw := { d.gw with entries := insertAt d.gw.entries (n * 64 + e) m } }
  txRequest n e d

/-- A message at a CAN channel: an entry, or the wait list, or GW_DST_FULL (12 R374). -/
def toCan (n : Nat) (m : GwMsg) (o : GwOutput) (d : Device) : Device :=
  let x := canSt d n
  if !x.on || x.closing then gwResult m .aborted d
  else match freeEntry x, waitList d n with
    | some e, [] => writeEntry n e m o d
    | _, ws =>
      if ws.length < 1024 then { d with gw := { d.gw with waits := insertAt d.gw.waits n (ws ++ [m]) } }
      else gwResult m .full (gwDiscard 0x0C15 d)

/-- Waiting messages take free entries, in arrival order (12 R374). -/
def fillEntries (n : Nat) (d : Device) : Device :=
  (List.range 64).foldl (fun d _ => match waitList d n, freeEntry (canSt d n) with
    | m :: rest, some e =>
      let d := { d with gw := { d.gw with waits := insertAt d.gw.waits n rest } }
      (match lookup? d.cfg.gw.outputs m.output with
       | some o => writeEntry n e m o d
       | none => d)
    | _, _ => d) d

/-- A message at an MVB source port: the page, filled with zeros to the port's size, and the message until a slave frame has
sent it (12 R374). A page overwritten before it was sent leaves a message with a deadline waiting for that. (log entry 39: DESIGN CHOICE) -/
def toMvb (n : Nat) (m : GwMsg) (o : GwOutput) (d : Device) : Device :=
  let key := n * 4096 + o.ident
  let size : Nat := match lookup? (mvbCfg d.cfg n).ports o.ident with | some p => mvbBytes p.size | none => o.len
  if size < m.payload.length then gwDiscard 0x0C16 d
  else
    let d := mvbSourceWrite n o.ident (padTo size m.payload) d
    let keep := d.gw.pages.filter (fun x => !(decide (x.1 = key) && x.2.deadline.isNone))
    { d with gw := { d.gw with pages := keep ++ [(key, m)] } }

/-- A message reaches the bus of its output, when this device emits (12 R361, R377). -/
def deliver (m : GwMsg) (d : Device) : Device :=
  match lookup? d.cfg.gw.outputs m.output with
  | none => gwDiscard 0x0C10 d
  | some o =>
    if !gwEmits d then d
    else if formatMax o < m.payload.length ∨ o.len < m.payload.length then gwDiscard 0x0C16 d
    else if 26 ≤ o.dstPort ∧ o.dstPort < 34 then toCan (o.dstPort - 26) m o d
    else if 34 ≤ o.dstPort ∧ o.dstPort < 36 then toMvb (o.dstPort - 34) m o d
    else d

/-! ### Emission (12 R357, R364, R368, R371) -/

def isPublication (o : GwOutput) : Bool := o.eth && decide (o.kind = .trdp)

/-- The next sequenceCounter is used; every multiple of 256 is mirrored (12 R371). -/
def takeSeq (n : Nat) (d : Device) : Word × Device :=
  let x := gwOut d n
  let s := x.seq + 1
  let mir := decide (s.toNat % 256 = 0)
  let d := setGwOut n { x with seq := s, mirrors := if mir then x.mirrors ++ [s] else x.mirrors } d
  (x.seq, if mir && d.asd.replicating then sendPartner 2 .mirror n s.toNat d else d)

/-- What an emission carries beside its payload: source port, source sequence, TS32 and deadline. -/
structure GwVia where
  port : Nat
  tag : Word := 0
  ts : Word := 0
  deadlineMs : Nat := 0
  deriving DecidableEq, Repr

/-- One emission of an output (12 R357, R368, R371). A message for the bus of its own source port needs no way
through the pipeline. -/
def gwSend (n : Nat) (o : GwOutput) (via : GwVia) (origin : GwOrigin) (payload : Bytes) (d : Device) : Device :=
  let dl : Option Nat := if via.deadlineMs = 0 then none else some (d.now + via.deadlineMs * 1000000000)
  let mac := d.cfg.gw.mac
  if o.eth then
    if o.kind = .trdp then
      let r := takeSeq n d
      inject via.port (trdpFrame mac o (BitVec.ofNat 32 o.ident) r.1 r.2.top.count payload) r.2
    else
      let x := gwOut d n
      inject via.port (acfFrame mac o (x.seq.toNat % 256) (fullNs d via.ts) payload) (setGwOut n { x with seq := x.seq + 1 } d)
  else if o.dstPort = via.port then deliver { output := n, origin := origin, payload := payload, deadline := dl } d
  else inject via.port (gwFrame mac 0 via.port o.dstPort n origin via.tag.toNat via.ts.toNat via.deadlineMs payload) d

/-- An emission of this output within the same microsecond has carried this image (12 R368). (log entry 38: DESIGN CHOICE) -/
def carried (d : Device) (n : Nat) : Bool :=
  match (gwOut d n).emitted with
  | some (t, b) => decide (t / 1000000 = d.now / 1000000 ∧ b = imageOf d n)
  | none => false

/-- An output is emitted with its image, unless its publication waits for a mirror (12 R371), or the same microsecond's
emission carries it (R368). -/
def gwEmit (n : Nat) (via : GwVia) (d : Device) : Device :=
  match lookup? d.cfg.gw.outputs n with
  | none => d
  | some o =>
    if !gwEmits d || carried d n then d
    else
      let x := gwOut d n
      if isPublication o && decide (512 ≤ (x.seq - x.m).toNat) then setGwOut n { x with held := true } d
      else
        let image := imageOf d n
        let d := gwCtr n 0 (setGwOut n { x with emitted := some (d.now, image), held := false } d)
        gwSend n o via .route image d

/-- TRIGGER of an output after an input (12 Table GWY-4). -/
def trigger (n : Nat) (changed : Bool) (via : GwVia) (d : Device) : Device :=
  match lookup? d.cfg.gw.outputs n with
  | none => d
  | some o => if o.onUpdate || (o.onChange && changed) then gwEmit n via d else d

/-- A payload takes its route into the image of the output (12 R365, R367). -/
def applyRoute (r : GwRoute) (via : GwVia) (payload : Bytes) (d : Device) : Device :=
  match lookup? d.cfg.gw.outputs r.output with
  | none => d
  | some o =>
    let via := { via with deadlineMs := r.deadlineMs }
    let old := imageOf d r.output
    if r.sigCount = 0 then
      if o.len < payload.length ∨ formatMax o < payload.length then gwDiscard 0x0C16 d
      else trigger r.output (decide (old ≠ payload)) via (setGwOut r.output { gwOut d r.output with image := some payload } d)
    else
      let image := (routeSignals d.cfg r).foldl (fun im s => copySignal s payload im) old
      trigger r.output (decide (old ≠ image)) via (setGwOut r.output { gwOut d r.output with image := some image } d)

/-- Source of an input: its port, or ANY Ethernet ingress port (12 Table GWY-2, Table GWY-3). -/
def routeFrom (r : GwRoute) (port : Nat) (kind : GwKind) : Bool :=
  match r.src with
  | some p => decide (p = port)
  | none => decide (kind = .trdp ∨ kind = .acf) && (decide (port < 25) || decide (port = 37))

/-- The routes of a key (12 R362, R363), in their order. -/
def routesFor (c : Cfg) (port : Nat) (kind : GwKind) (sub ident : Nat) : List GwRoute :=
  c.gw.routes.filter (fun r => routeFrom r port kind && decide (r.kind = kind ∧ r.sub = sub ∧ r.ident = ident))

/-- A bus message finds its routes (12 R363). -/
def busInput (port : Nat) (kind : GwKind) (sub ident : Nat) (tag : Word) (payload : Bytes) (d : Device) : Device :=
  if !d.gw.running ∨ d.gw.stopped then d
  else
    let via : GwVia := { port := port, tag := tag, ts := ts32 d }
    match routesFor d.cfg port kind sub ident with
    | [] => gwDiscard 0x0C10 d
    | rs => rs.foldl (fun d r => applyRoute r via payload d) d

/-- Signals of lost sources take their LOSS values (12 R367). (log entry 38: DESIGN CHOICE) -/
def loseRoutes (lost : GwRoute → Bool) (port : Nat) (d : Device) : Device :=
  (d.cfg.gw.routes.filter (fun r => lost r && decide (0 < r.sigCount))).foldl (fun d r =>
    let ss := (routeSignals d.cfg r).filter (fun s => decide (s.loss ≠ 0))
    if ss.isEmpty then d
    else
      let old := imageOf d r.output
      let image := ss.foldl (fun im s => loseSignal s im) old
      let via : GwVia := { port := port, tag := sourceTag d port, ts := ts32 d, deadlineMs := r.deadlineMs }
      trigger r.output (decide (old ≠ image)) via (setGwOut r.output { gwOut d r.output with image := some image } d)) d

/-- Every source of a bus port is lost (12 R367: BUS_OFF, ALONE, removal). -/
def losePort (p : Nat) (d : Device) : Device := loseRoutes (fun r => decide (r.src = some p)) p d

/-- A side-band message and, for a loss, what follows it (12 R367). -/
def sidebandLoss (p : Nat) (code : BitVec 16) (chan : Nat) (d : Device) : Device := losePort p (sideband p code chan 0 d)

/-! ### Telegrams and 1722 frames (12 R363, R369, R370) -/

/-- Whether a subscription accepts a counter (12 R370). -/
def acceptsSeq (x : GwOut) (src : Nat) (counter : Word) (now : Nat) : Bool :=
  if x.stale || !x.fed then true
  else match lookup? x.last src with
    | none => true
    | some (last, at_) =>
      let k := (counter - last).toNat
      decide (1 ≤ k ∧ k ≤ 2147483647) || (decide (counter = 0 ∧ last ≠ 0) && decide (at_ + 10000000000 < now))

/-- Routes used where a telegram leaves the pipeline at virtual port `p`: outputs there, or on Ethernet (12 R363). -/
def outputHere (c : Cfg) (p : Nat) (r : GwRoute) : Bool :=
  match lookup? c.gw.outputs r.output with
  | some o => o.eth || decide (o.dstPort = p)
  | none => false

/-- TRDP_RECEIVED: a telegram at virtual port `p` that entered on `ingress` (12 R363, R369, R370). -/
def trdpReceived (p ingress : Nat) (t : Telegram) (d : Device) : Device :=
  if !d.gw.running ∨ d.gw.stopped then d
  else if !t.formOk then gwDiscard 0x0C13 d
  else if t.topo ≠ 0 ∧ t.topo ≠ d.top.count then gwDiscard 0x0C12 d
  else
    let rs := (routesFor d.cfg ingress .trdp 0 t.comId.toNat).filter (outputHere d.cfg p)
    if rs.isEmpty then gwDiscard 0x0C10 d
    else
      let src := t.srcIp.toNat
      let ok (r : GwRoute) : Bool := acceptsSeq (gwOut d r.output) src t.counter d.now
      let dup := rs.filter (fun r => !ok r)
      let good := rs.filter ok
      let d := dup.foldl (fun d r => gwCtr r.output 1 d) (if dup.isEmpty then d else gwDiscard 0x0C11 d)
      good.foldl (fun d r =>
        let x := gwOut d r.output
        let x := { x with stale := false, fed := true, heard := d.now, last := insertAt x.last src (t.counter, d.now) }
        applyRoute r { port := p, tag := t.counter, ts := ts32 d } t.payload (setGwOut r.output x d)) d

/-- Identifier of an ACF message (12 Table GWY-3 kind 5). (log entry 37: PRESUMED) -/
def acfIdent (m : AcfMsg) : Nat := (if m.fd then 1073741824 else 0) + (if m.ide then 536870912 else 0) + m.ident % 536870912

/-- ACF_RECEIVED: the ACF CAN messages of a 1722 frame, routed in order (12 R369). -/
def acfReceived (p ingress : Nat) (stream : BitVec 64) (ms : List AcfMsg) (d : Device) : Device :=
  if !d.gw.running ∨ d.gw.stopped then d
  else match d.cfg.gw.streams.find? (fun x => decide (x.2 = stream)) with
    | none => gwDiscard 0x0C10 d
    | some (i, _) => ms.foldl (fun d m =>
        let rs := (routesFor d.cfg ingress .acf (m.busId % 32 * 256 + i) (acfIdent m)).filter (outputHere d.cfg p)
        if rs.isEmpty then gwDiscard 0x0C10 d
        else rs.foldl (fun d r => applyRoute r { port := p, ts := ts32 d } m.payload d) d) d

/-- A UDP payload as a TRDP telegram (12 Table GWY-6). (log entry 37: PRESUMED) -/
def readTelegram (srcIp : Nat) (udpLen : Nat) (b : Bytes) : Telegram :=
  let len := beAt b 20 4
  let fcs := leWord (crc32 (b.take 36))
  { srcIp := BitVec.ofNat 32 srcIp, counter := BitVec.ofNat 32 (beAt b 0 4), comId := BitVec.ofNat 32 (beAt b 8 4),
    topo := BitVec.ofNat 32 (beAt b 12 4),
    formOk := decide (beAt b 4 2 = 0x0100 ∧ beAt b 6 2 = 0x5064 ∧ (b.drop 36).take 4 = fcs ∧ 40 ≤ b.length ∧ len ≤ 1432 ∧
      udpLen = 8 + 40 + 4 * ceilDiv len 4),
    payload := (b.drop 40).take len }

/-- ACF CAN messages from the front of an AVTP payload; `none` at a message of another type. (log entry 37: PRESUMED) -/
def readAcf : Nat → Bytes → Option (List AcfMsg)
  | 0, _ => some []
  | n + 1, b =>
    if b.length < 8 then some []
    else
      let ty := byteAt b 0 / 2
      let quads := beAt b 0 2 % 512
      let hl := if ty = 1 then 16 else 8
      if ¬ (ty = 1 ∨ ty = 2) ∨ quads * 4 < hl ∨ b.length < quads * 4 then none
      else
        let fl := byteAt b 2
        let w := beAt b (hl - 4) 4
        let m : AcfMsg :=
          { busId := byteAt b 3 % 32, fd := decide (fl / 2 % 2 = 1), ide := decide (fl / 8 % 2 = 1), ident := w % 536870912,
            payload := (b.drop hl).take (quads * 4 - hl - fl / 64) }
        match readAcf n (b.drop (quads * 4)) with
        | some ms => some (m :: ms)
        | none => none

/-- GW_EGRESS_ARRIVAL: the oldest frame of the highest class queued on a virtual port reaches the gateway (12 R361). -/
def gwEgressArrival (p : Nat) (d : Device) : Device :=
  if d.gw.stopped then d
  else match popPort p classOrder d with
    | (none, d) => d
    | (some c, d) =>
      match frameOf d c.frame with
      | none => d
      | some f =>
        let b := copyBytes d f c
        let h := parse d.cfg.fwd.userTypes b
        let d := copyGone p c true true d
        let x := b.drop h.payOff
        if !d.gw.running then d
        else if h.etherType = 0x88B6 then
          let len := beAt x 6 2
          if byteAt x 0 = 16 then
            let ms := beAt x 20 2
            let dl : Option Nat := if ms = 0 then none else some (d.now + ms * 1000000000)
            deliver { output := beAt x 4 2 % 4096, origin := originOf (byteAt x 3) (beAt x 12 4), payload := (x.drop 24).take len, deadline := dl } d
          else gwDiscard 0x0C10 d
        else if h.etherType = 0x22F0 then
          let tscf := decide (byteAt x 0 = 0x05)
          let hl := if tscf then 24 else 12
          let len := if tscf then beAt x 20 2 else beAt x 1 2 % 2048
          if byteAt x 0 ≠ 0x82 ∧ !tscf then gwDiscard 0x0C13 d
          else match readAcf 128 ((x.drop hl).take len) with
            | some ms => acfReceived p f.port (BitVec.ofNat 64 (beAt x 4 8)) ms d
            | none => gwDiscard 0x0C13 d
        else match h.ip with
          | some ip =>
            if !ip.v6 && decide (ip.proto = 17) && decide (ip.l4.dport = 17224) then
              trdpReceived p f.port (readTelegram ip.src (beAt b (ip.l4Off + 4) 2) (b.drop (ip.l4Off + 8))) d
            else gwDiscard 0x0C10 d
          | none => gwDiscard 0x0C10 d

/-! ### Periods, timeouts, deadlines, publications, start -/

/-- Source virtual port of an output that no input triggers now: that of its first route, else its own bus. -/
def ownSource (c : Cfg) (n : Nat) (o : GwOutput) : Nat :=
  match (c.gw.routes.find? (fun r => decide (r.output = n))).bind (·.src) with
  | some p => if 26 ≤ p ∧ p < 36 then p else if o.eth then 26 else o.dstPort
  | none => if o.eth then 26 else o.dstPort

/-- CYCLIC_EMIT: the PERIOD of an output has passed (12 R368). (log entry 38: DESIGN CHOICE) -/
def cyclicEmit (n : Nat) (d : Device) : Device :=
  match lookup? d.cfg.gw.outputs n with
  | none => d
  | some o =>
    let x := gwOut d n
    let due := x.cycled + o.periodMs * 1000000000
    if o.cyclic ∧ 0 < o.periodMs ∧ due ≤ d.now ∧ d.gw.running then
      let d := setGwOut n { x with cycled := due } d
      gwEmit n { port := ownSource d.cfg n o, ts := ts32 d } d
    else d

/-- SUB_STALE: a subscription has heard nothing for TIMEOUT (12 R369). (log entry 38: DESIGN CHOICE) -/
def subStale (n : Nat) (d : Device) : Device :=
  match lookup? d.cfg.gw.outputs n with
  | none => d
  | some o =>
    let x := gwOut d n
    if o.timeoutMs ≠ 0 ∧ x.heard + o.timeoutMs * 1000000000 ≤ d.now ∧ !x.stale ∧ d.gw.running then
      let p := ownSource d.cfg n o
      let com : Nat := match d.cfg.gw.routes.find? (fun r => decide (r.output = n ∧ r.kind = .trdp)) with
        | some r => r.ident
        | none => 0
      let d := raise sqGWY 0 0x0C01 n (setGwOut n { x with stale := true } d)
      let d := sideband p 0x0C01 (if p < 34 then p - 26 else p - 34) (BitVec.ofNat 32 com) d
      loseRoutes (fun r => decide (r.output = n ∧ r.kind = .trdp)) p d
    else d

/-- Where a message stands at its far side. -/
inductive GwPlace where
  | entry (ch e : Nat)
  | waiting (ch k : Nat)
  | page (ch addr : Nat)
  deriving DecidableEq, Repr

def isDue (now : Nat) (m : GwMsg) : Bool := match m.deadline with | some t => decide (t ≤ now) | none => false

/-- GW_DEADLINE: a message's DEADLINE expires (10 R327, 12 R374). -/
def gwDeadline (w : GwPlace) (d : Device) : Device :=
  match w with
  | .entry n e => match lookup? d.gw.entries (n * 64 + e) with
    | some m => if isDue d.now m then txCancel n e d else d
    | none => d
  | .waiting n k => match (waitList d n)[k]? with
    | some m => if isDue d.now m then
        gwResult m .deadline { d with gw := { d.gw with waits := insertAt d.gw.waits n ((waitList d n).eraseIdx k) } } else d
    | none => d
  | .page n a =>
    let key := n * 4096 + a
    let due := d.gw.pages.filter (fun x => decide (x.1 = key) && isDue d.now x.2)
    let d := { d with gw := { d.gw with pages := d.gw.pages.filter (fun x => !(decide (x.1 = key) && isDue d.now x.2)) } }
    due.foldl (fun d x => gwResult x.2 .notPolled d) d

/-- PUB_MIRROR_DONE: the mirror of a publication completes (12 R371); a held emission leaves. -/
def pubMirrorDone (n : Nat) (d : Device) : Device :=
  let x := gwOut d n
  match x.mirrors, lookup? d.cfg.gw.outputs n with
  | v :: rest, some o =>
    let d := setGwOut n { x with m := v, mirrors := rest, held := false } d
    if x.held then gwEmit n { port := ownSource d.cfg n o, ts := ts32 d } d else d
  | v :: rest, none => setGwOut n { x with m := v, mirrors := rest, held := false } d
  | [], _ => d

/-- Every publication restarts at M + 512 and mirrors that value first (12 R371). -/
def pubRestart (d : Device) : Device :=
  let pubs := (d.cfg.gw.outputs.filter (fun x => isPublication x.2)).map Prod.fst
  if pubs.isEmpty then d
  else
    let d := pubs.foldl (fun d n =>
      let x := gwOut d n
      let v := x.m + 512
      setGwOut n { x with seq := v, mirrors := [v], held := false } d) d
    raise sqGWY 1 0x0C02 0 d

/-- GW_START: the gateway runs from the first blob commit after SPILL_READY (12 R360); held messages go first. -/
def gwStart (d : Device) : Device :=
  if d.cfg.gw.loaded ∧ d.buf.spillReady ∧ !d.gw.running then
    let outs := d.cfg.gw.outputs.map (fun x => (x.1, { gwOut d x.1 with heard := d.now, cycled := d.now, fed := false, stale := false }))
    let d := { d with gw := { d.gw with running := true, outs := outs.foldl (fun t x => insertAt t x.1 x.2) d.gw.outs } }
    sendHeldSideband (raise sqGWY 2 0x0C03 0 d)
  else d

end Sys2Proof.Machine
end

