-- ==== Sys2Proof/Machine/Can.lean ====
section
/-! DEFINITION. The CAN controllers' steps (10): hand-over of entries, reception, attempts, errors and bus-off. -/

namespace Sys2Proof.Machine

/-- CX_TXREQ: every entry whose bit is 1 is requested (10 R315). -/
def cxTxReq (n : Nat) (mask : BitVec 64) (d : Device) : Device := (maskBits mask).foldl (fun d e => txRequest n e d) d

/-- CX_TXCANCEL (10 R315). -/
def cxTxCancel (n : Nat) (mask : BitVec 64) (d : Device) : Device := (maskBits mask).foldl (fun d e => txCancel n e d) d

/-- CX_TXACK (10 R315); a message that waits takes an entry that became free (12 R374). -/
def cxTxAck (n : Nat) (mask : BitVec 64) (d : Device) : Device :=
  fillEntries n ((maskBits mask).foldl (fun d e => txAck n e d) d)

/-- Allotment of bytes 65 onward of received CAN XL frames (10 R317). (log entry 42: DEDUCED) -/
def canAllot (d : Device) (n : Nat) : Nat := gwAllot d (26 + n)

/-- CX_RXACK: the oldest software-owned entries are released (10 R317). -/
def cxRxAck (n count : Nat) (d : Device) : Device :=
  let x := canSt d n
  let k := min count x.rx.length
  let cells := ((x.rx.take k).map (·.cells)).sum
  let d := setCan n { x with rx := x.rx.drop k, rxHead := (x.rxHead + k) % 256, rxOvf := x.rxOvf && decide (k = 0) } d
  if cells = 0 then d else reviewAll (subCharge (.allot (canAllot d n)) cells d)

/-- Kind, qualifier and identifier under which a received frame is routed (12 Table GWY-3). -/
def canKey (f : CanFrame) : GwKind × Nat × Nat :=
  match f.fmt with
  | .xl => (.canXl, f.sdt.toNat * 256 + f.vcid.toNat, f.ident % 2048)
  | .fd => (if f.ide then .canExt else .canBase, 1, f.ident)
  | .cc => (if f.ide then .canExt else .canBase, 0, f.ident)

/-- The channel hears a frame or an acknowledgement: it is no longer alone (10 R324). -/
def notAlone (n : Nat) (d : Device) : Device :=
  let x := canSt d n
  let d := setCan n { x with consecAck := 0, alone := false } d
  if x.alone then sideband (26 + n) 0x0A06 n 0 (raise (sqCXL n) 6 0x0A06 n d) else d

/-- REC after a frame received without error (ISO 11898-1): one less, or a value from 119 to 127 the standard leaves
open. (log entry 41: PRESUMED) -/
def recDown (n : Nat) (d : Device) : Device :=
  let x := canSt d n
  if 127 < x.rxErr then
    let u := drawFree 9 d
    setCan n { x with rxErr := 119 + u.1 } u.2
  else setCan n { x with rxErr := x.rxErr - 1 } d

/-- A received frame is lost (10 R317). -/
def rxLoss (n : Nat) (seq : Word) (d : Device) : Device :=
  let x := canSt d n
  let full := decide (256 ≤ x.rx.length)
  let first := !full || !x.rxOvf
  let d := canCtr n 13 (setCan n { x with rxLost := x.rxLost + 1, rxOvf := full } d)
  if first then sideband (26 + n) 0x0A07 n seq (raise (sqCXL n) 7 0x0A07 n d) else raiseBit (sqCXL n) 7 d

/-- Bytes 65 onward of a frame, in cells (10 R311, 03 R68). (log entry 42: DEDUCED) -/
def canCells (f : CanFrame) : Nat := if f.data.length ≤ 64 then 0 else cellsFor (f.data.length - 64)

/-- A frame that passes a filter is written to the ring and handed to the gateway (10 R317). -/
def rxAccept (n : Nat) (f : CanFrame) (filter : Nat) (d : Device) : Device :=
  let x := canSt d n
  let seq := x.rseq + 1
  let d := setCan n { x with rseq := seq } d
  let cells := canCells f
  let noCells := decide (cells ≠ 0) && (allotOf d (canAllot d n)).exhausted
  if 256 ≤ x.rx.length ∨ noCells then rxLoss n seq d
  else
    let d := setCan n { canSt d n with rx := x.rx ++ [{ frame := f, filter := filter, rseq := seq, cells := cells }] } d
    let d := if cells = 0 then d else reviewAll (addCharge (.allot (canAllot d n)) cells d)
    let k := canKey f
    busInput (26 + n) k.1 k.2.1 k.2.2 seq f.data d

/-- CAN_FRAME_RECEIVED: a frame without error becomes valid for the channel (10 R307, R312, R317, R320, R324). -/
def canFrameReceived (n : Nat) (f : CanFrame) (d : Device) : Device :=
  let x := canSt d n
  let c := canCfg d.cfg n
  if !x.on ∨ x.busOff then d
  else if !hasFormat c f.fmt then raise (sqCXL n) 8 0x0A08 n (canCtr n 14 d)
  else
    let d := reviewErrors n (recDown n (notAlone n (canCtr n 1 d)))
    match (canFilters d.cfg n).findIdx? (fun k => decide (k = canKey f)) with
    | none => d
    | some i => rxAccept n f i d

/-- CAN_ATTEMPT_START: the SOF of the offered entry's frame is sent (10 R318, R319). -/
def canAttemptStart (n : Nat) (d : Device) : Device :=
  let x := canSt d n
  let c := canCfg d.cfg n
  if !x.on || x.closing || x.busOff || decide (c.mode ≠ .normal) || !(inPhase x .attempt).isEmpty then d
  else match offered c.fifo x with
    | none => d
    | some e => let t := txOf x e
      setCan n (setTx e { t with phase := .attempt, attempts := satInc t.attempts } x) d

/-- Counter of an error (10 R335). -/
def lecCtr (l : Nat) : Nat := if l = 1 then 4 else if l = 2 then 5 else if l = 3 then 2 else if l = 6 then 6 else 3

/-- TEC exceeds 255 (10 R320 to R323): bus-off, a transient of the channel, its sources lost. -/
def enterBusOff (n : Nat) (d : Device) : Device :=
  let manual := (canCfg d.cfg n).manual
  let d := modCan n (fun x => { x with busOff := true, recovering := !manual }) d
  let d := raise (sqCXL n) 3 0x0A01 n (canCtr n 7 d)
  let d := sidebandLoss (26 + n) 0x0A01 n d
  transient (40 + n) 0x0A01 (fun d => losePort (26 + n) (canRetired n d)) d

/-- CONSEC_ACK after an acknowledgement error (10 R324). -/
def countAck (n : Nat) (d : Device) : Device :=
  let x := canSt d n
  let k := x.consecAck + 1
  let d := setCan n { x with consecAck := k } d
  if k = 16 then sidebandLoss (26 + n) 0x0A05 n (raise (sqCXL n) 5 0x0A05 n (modCan n (fun x => { x with alone := true }) d)) else d

/-- An attempt of entry `e` has failed with LEC `l` (10 R318, R328). (log entry 42: DEDUCED) -/
def attemptFailed (n e l : Nat) (d : Device) : Device :=
  let x := canSt d n
  let t := txOf x e
  let t := { t with failed := t.failed + 1, lec := BitVec.ofNat 4 l }
  let d := setCan n (setTx e t x) d
  if x.closing then txDone n e .aborted d
  else if t.cancel then txDone n e .lateFailed d
  else if t.retry ≠ 255 ∧ t.retry.toNat + 1 ≤ t.failed then txDone n e .retryLimit d
  else modCan n (setTx e { t with phase := .pending }) d

/-- The secondary sample point after a measured loop delay (10 R310). -/
def noteTdc (n : Nat) (f : CanFrame) (delay : Option Nat) (d : Device) : Device :=
  let c := canCfg d.cfg n
  match delay with
  | some k => if c.tdc ∧ f.fmt ≠ .cc then
      modCan n (fun x => { x with tdcDelay := BitVec.ofNat 8 (min k 255), tdcPoint := BitVec.ofNat 8 (min (k + c.tdco) 255) }) d
    else d
  | none => d

/-- CAN_ATTEMPT_END: the attempt in progress ends (10 R318, R320, R324, R325). `delay`: the loop delay measured, in tq. (log entry 41: PRESUMED) -/
def canAttemptEnd (n : Nat) (r : CanEnd) (delay : Option Nat) (d : Device) : Device :=
  let x := canSt d n
  match inPhase x .attempt with
  | [] => d
  | (e, t) :: _ =>
    let d := noteTdc n t.frame delay d
    match r with
    | .sent =>
      let d := emit (.can n (wireFrame x t.frame) true) (canCtr n 0 d)
      let d := modCan n (fun x => { x with txErr := x.txErr - 1 }) d
      let d := txDone n e (if t.cancel then .lateSent else .sent) d
      canClose n (notAlone n (reviewErrors n d))
    | .arbLost =>
      let d := canCtr n 8 (modCan n (setTx e { t with phase := .pending }) d)
      let d := if x.closing then txDone n e .aborted d else if t.cancel then txDone n e .cancelled d else d
      canClose n d
    | .error l exempt =>
      let d := emit (.can n (wireFrame x t.frame) false) (canCtr n (lecCtr l) d)
      let up := if exempt || (decide (l = 3) && x.passive) then 0 else 8
      let d := modCan n (fun x => { x with txErr := x.txErr + up }) d
      let off := decide (255 < x.txErr + up)
      let d := attemptFailed n e (if off then 7 else l) d
      let d := if off then enterBusOff n d else reviewErrors n d
      let d := if l = 3 then countAck n d else d
      canClose n d

/-- CAN_RX_ERROR: an error on a frame the channel receives (10 R320, R335); `by8`: a dominant bit follows its flag. (log entry 41: PRESUMED) -/
def canRxError (n l : Nat) (by8 : Bool) (d : Device) : Device :=
  let x := canSt d n
  if !x.on ∨ x.busOff then d
  else reviewErrors n (canCtr n (lecCtr l) (setCan n { x with rxErr := min 255 (x.rxErr + if by8 then 8 else 1) } d))

/-- BUS_OFF_END: recovery after 128 times 11 recessive bits (10 R321, R323). -/
def canBusOffEnd (n : Nat) (d : Device) : Device :=
  let x := canSt d n
  if x.busOff ∧ x.recovering then
    let d := setCan n { x with busOff := false, recovering := false, txErr := 0, rxErr := 0, passive := false } d
    sideband (26 + n) 0x0A04 n 0 (raise (sqCXL n) 4 0x0A04 n d)
  else d

/-- CAN_RECOVER: recovery of a MANUAL channel begins (10 R321). -/
def canRecover (n : Nat) (d : Device) : Device :=
  modCan n (fun x => if x.busOff then { x with recovering := true } else x) d

end Sys2Proof.Machine
end

