-- ==== Sys2Proof/Machine/Mvb.lean ====
section
/-! DEFINITION. The MVB controllers' steps (11): slave and master frames, ages, basic periods, mastership, devices. -/

namespace Sys2Proof.Machine

/-- The next MSEQ (11 R345). -/
def nextMseq (n : Nat) (d : Device) : Word × Device :=
  let v := (mvbSt d n).mseq + 1
  (v, modMvb n (fun x => { x with mseq := v }) d)

/-- A side-band message of a channel takes its MSEQ (11 R345, R354). -/
def mvbSideband (n : Nat) (code : BitVec 16) (detail : Word) (d : Device) : Device :=
  sideband (34 + n) code n detail (nextMseq n d).2

/-- Source ports of a standby answer no poll (11 R352). (log entry 43: DESIGN CHOICE) -/
def sourcesMuted (d : Device) : Bool := !isOwner d

/-! ### Lines (11 R350) -/

def lineCounts (n : Nat) (r : LineRes) (lineB : Bool) (d : Device) : Device :=
  let k := if lineB then 1 else 0
  match r with
  | .crc => mvbCtr n (4 + k) d
  | .code => mvbCtr n (6 + k) d
  | .ok => d
  | .missing => d

/-- The channel retires or is disabled (11 R351). -/
def mvbOff (n : Nat) (d : Device) : Device :=
  let x := mvbSt d n
  if x.role = .off then d
  else
    let was := x.role
    let d := setMvb n { x with role := .off, waiting := [], master := none } d
    let d := if was = .master then mvbSideband n 0x0B02 0 (raise (sqMVB n) 1 0x0B02 n (mvbCtr n 11 d)) else d
    losePort (34 + n) d

def mvbRetired (n : Nat) (d : Device) : Device := mvbOff n (modMvb n (fun x => { x with retired := true }) d)

def markDisturbed (n : Nat) (lineB : Bool) (d : Device) : Device :=
  let d := modMvb n (fun x => if lineB then { x with distB := true } else { x with distA := true }) d
  let d := mvbSideband n 0x0B04 0 (raise (sqMVB n) 3 0x0B04 n (mvbCtr n 9 d))
  transient (48 + n) 0x0B04 (mvbRetired n) d

def markRestored (n : Nat) (lineB : Bool) (d : Device) : Device :=
  let d := modMvb n (fun x => if lineB then { x with distB := false } else { x with distA := false }) d
  mvbSideband n 0x0B05 0 (raise (sqMVB n) 4 0x0B05 n d)

/-- The line check of one frame (11 R350). -/
def lineCheck (n : Nat) (l : MvbLines) (d : Device) : Device :=
  let f := (mvbCfg d.cfg n).lineFail
  let d := lineCounts n l.b true (lineCounts n l.a false d)
  let d := if l.collision then mvbCtr n 8 d else d
  let okA := decide (l.a = .ok)
  let okB := decide (l.b = .ok)
  let x := mvbSt d n
  let x := { x with
    goodA := if okA then x.goodA + 1 else 0
    goodB := if okB then x.goodB + 1 else 0
    badA := if okB && !okA then x.badA + 1 else 0
    badB := if okA && !okB then x.badB + 1 else 0 }
  let d := if l.a = .missing ∧ l.b = .missing then d else setMvb n x d
  let d := if !x.distA && decide (f ≤ x.badA) then markDisturbed n false d
    else if x.distA && decide (f ≤ x.goodA) then markRestored n false d else d
  if !x.distB && decide (f ≤ x.badB) then markDisturbed n true d
  else if x.distB && decide (f ≤ x.goodB) then markRestored n true d else d

/-! ### Frames -/

/-- The bus carries a frame: silence starts anew (11 R347). -/
def heardFrame (n : Nat) (d : Device) : Device := modMvb n (fun x => { x with lastFrame := d.now }) d

/-- The port is a source that answers a poll of its F_code now (11 R343, R344, R352). -/
def answersPoll (d : Device) (n a size : Nat) : Bool :=
  match lookup? (mvbCfg d.cfg n).ports a with
  | none => false
  | some p => p.source && decide (p.size = size) && !(mvbEntry d n a).mark && !sourcesMuted d && decide ((mvbSt d n).role ≠ .off)

/-- A source port answers a poll with the page that PAGE names, unless it is muted (11 R343, R344, R352); the messages
whose page this is are sent (12 R374). -/
def answerPoll (n a size : Nat) (d : Device) : Device :=
  if !answersPoll d n a size then d
  else
    let e := mvbEntry d n a
    let d := emit (.mvbSlave n a (currentPage e)) (mvbCtr n 1 (setEntry n a { e with ts := ts32 d } d))
    let key := n * 4096 + a
    match (d.gw.pages.filter (fun x => decide (x.1 = key))).getLast? with
    | none => d
    | some last =>
      let rest := (d.gw.pages.filter (fun x => decide (x.1 = key))).dropLast
      gwResult last.2 .done { d with gw := { d.gw with pages := d.gw.pages.filter (fun x => decide (x.1 ≠ key)) ++ rest } }

/-- A valid slave frame for a sink port (11 R342, R344, R345). -/
def sinkUpdate (n a : Nat) (data : Bytes) (lineB : Bool) (d : Device) : Device :=
  match lookup? (mvbCfg d.cfg n).ports a with
  | none => d
  | some p =>
    if p.source ∨ data.length ≠ mvbBytes p.size then d
    else
      let e := { flipPage (mvbEntry d n a) data with line := lineB, ts := ts32 d }
      if p.route then
        let r := nextMseq n d
        busInput (34 + n) .mvb 0 a r.1 data (setEntry n a { e with mseq := r.1 } r.2)
      else setEntry n a e d

/-- MVB_SLAVE_FRAME: a slave frame of port `a` ends on the lines (11 R342, R350). -/
def mvbSlaveFrame (n a : Nat) (data : Bytes) (l : MvbLines) (d : Device) : Device :=
  if (mvbSt d n).role = .off then d
  else
    let ok := decide (l.a = .ok) || decide (l.b = .ok)
    let d := lineCheck n l (heardFrame n d)
    let d := modMvb n (fun x => { x with waiting := x.waiting.erase a }) d
    if (mvbSt d n).role = .off then d
    else if ok then
      let lineB := if l.a = .ok ∧ l.b = .ok then l.firstB else decide (l.b = .ok)
      sinkUpdate n a data lineB (mvbCtr n 2 d)
    else d

/-- MVB_AGE_TICK: one millisecond of a channel's ports (11 R344). -/
def mvbAgeTick (n : Nat) (d : Device) : Device :=
  (mvbCfg d.cfg n).ports.foldl (fun d x =>
    let a := x.1
    let p := x.2
    let e := mvbEntry d n a
    let age := min 65535 (e.age + 1)
    let expired := decide (p.limit ≠ 0 ∧ e.age ≤ p.limit ∧ p.limit < age) && !e.mark
    let d := setEntry n a { e with age := age } d
    if expired && !p.source then
      let d := raise (sqMVB n) 5 0x0B06 n (mvbCtr n 12 (setEntry n a { e with age := age, mark := true } d))
      let d := mvbSideband n 0x0B06 (BitVec.ofNat 32 a) d
      loseRoutes (fun r => decide (r.src = some (34 + n) ∧ r.kind = .mvb ∧ r.ident = a)) (34 + n) d
    else if expired && p.source && !sourcesMuted d then
      mvbSideband n 0x0B07 0 (raise (sqMVB n) 6 0x0B07 n (mvbCtr n 13 (setEntry n a { e with age := age, mark := true } d)))
    else d) d

/-! ### Administration (11 R346 to R349) -/

/-- Mastership is taken (11 R346, R347): the periodic list starts at basic period 0 of a new macro cycle. -/
def gainMaster (n : Nat) (d : Device) : Device :=
  let c := mvbCfg d.cfg n
  let d := modMvb n (fun x => { x with role := .master, master := some c.devAddr, period := 0, macros := 0, waiting := [] }) d
  mvbSideband n 0x0B01 0 (raise (sqMVB n) 0 0x0B01 n (mvbCtr n 10 d))

/-- Mastership is left (11 R346, R347). (log entry 43: DESIGN CHOICE) -/
def loseMaster (n : Nat) (dest : Option Nat) (d : Device) : Device :=
  let d := modMvb n (fun x => { x with role := .standby, master := dest, waiting := [], lastFrame := d.now }) d
  mvbSideband n 0x0B02 0 (raise (sqMVB n) 1 0x0B02 n (mvbCtr n 11 d))

/-- Devices the master scans: the known-device list, with those reported lost, then those found. -/
def knownDevices (d : Device) (n : Nat) : List Nat :=
  let known := (mvbCfg d.cfg n).known
  known ++ ((mvbSt d n).devices.map Prod.fst).filter (fun a => !known.contains a)

/-- MVB_BASIC_PERIOD: the master polls the periodic list of this basic period, then its share of the device scans and
the event poll (11 R346). (log entry 43: DESIGN CHOICE) -/
def mvbBasicPeriod (n : Nat) (d : Device) : Device :=
  let c := mvbCfg d.cfg n
  let x := mvbSt d n
  if x.role ≠ .master then d
  else
    let k := x.period
    let polls := c.periodic.filter (fun p => decide (k % max 1 p.every = p.first))
    let next := (k + 1) % max 1 c.macroCycle
    let d := setMvb n { x with period := next, macros := if next = 0 then x.macros + 1 else x.macros, lastFrame := d.now } d
    let d := polls.foldl (fun d p =>
      let d := emit (.mvbMaster n p.size p.addr) (mvbCtr n 0 d)
      if answersPoll d n p.addr p.size then answerPoll n p.addr p.size d else modMvb n (fun x => { x with waiting := x.waiting ++ [p.addr] }) d) d
    let scans := ((knownDevices d n).zipIdx.filter (fun y => decide (y.2 % max 1 c.macroCycle = k))).map Prod.fst
    let d := scans.foldl (fun d a => emit (.mvbMaster n 15 a) (mvbCtr n 0 d)) d
    emit (.mvbMaster n 9 0) (mvbCtr n 0 d)

/-- MVB_REPLY_TIMEOUT: a polled port's slave frame has not started (11 R346). -/
def mvbReplyTimeout (n a : Nat) (d : Device) : Device :=
  let x := mvbSt d n
  if x.role = .master ∧ x.waiting.contains a then mvbCtr n 3 (setMvb n { x with waiting := x.waiting.erase a } d) else d

/-- MVB_FOREIGN_MASTER: a master sees a master frame it did not send (11 R347). (log entry 43: DESIGN CHOICE) -/
def mvbForeignMaster (n : Nat) (d : Device) : Device :=
  if (mvbSt d n).role = .master then loseMaster n none (raise (sqMVB n) 2 0x0B03 n d)
  else heardFrame n d

/-- MASTER_FRAME_RECEIVED: a master frame of another administrator (11 R343, R347; Table MVB-1 device status). -/
def masterFrameReceived (n fcode a : Nat) (l : MvbLines) (d : Device) : Device :=
  if (mvbSt d n).role = .off then d
  else
    let ok := decide (l.a = .ok) || decide (l.b = .ok)
    let d := lineCheck n l d
    if !ok then heardFrame n d
    else
      let d := heardFrame n (mvbForeignMaster n d)
      if fcode ≤ 4 then answerPoll n a fcode d
      else if fcode = 15 ∧ a = (mvbCfg d.cfg n).devAddr ∧ (mvbSt d n).role ≠ .off then emit (.mvbStatus n) (mvbCtr n 1 d)
      else d

/-- MASTER_SILENCE_EXPIRY: a STANDBY channel has seen no frame for its silence time (11 R347). -/
def masterSilenceExpiry (n : Nat) (d : Device) : Device :=
  let c := mvbCfg d.cfg n
  let x := mvbSt d n
  if x.role = .standby ∧ x.lastFrame + (c.silenceMs + c.baRank) * 1000000000 ≤ d.now then gainMaster n d else d

/-- The administrator after this one in the list. -/
def nextAdmin (c : MvbCfg) : Option Nat :=
  let others := c.admins.filter (fun a => decide (a ≠ c.devAddr))
  match others.find? (fun a => decide (c.devAddr < a)) with
  | some a => some a
  | none => others.head?

/-- MASTERSHIP_OFFER: every TURN macro cycles the master offers mastership by F_code 8 (11 R346). -/
def mastershipOffer (n : Nat) (accepted : Bool) (d : Device) : Device :=
  let c := mvbCfg d.cfg n
  let x := mvbSt d n
  if x.role ≠ .master ∨ c.turn = 0 ∨ x.macros < c.turn then d
  else match nextAdmin c with
    | none => d
    | some a =>
      let d := emit (.mvbMaster n 8 a) (mvbCtr n 0 (setMvb n { x with macros := 0 } d))
      if accepted then loseMaster n (some a) d else d

/-- MVB_OFFER_RECEIVED: a standby administrator accepts, any other channel refuses (11 R346). -/
def mvbOfferReceived (n : Nat) (d : Device) : Device :=
  let d := if (mvbSt d n).role = .off then d else heardFrame n d
  if (mvbSt d n).role = .standby then gainMaster n d else d

/-- DEVICE_SCAN: the result of a device-status scan of the master (11 R349). (log entry 43: DESIGN CHOICE) -/
def deviceScan (n a : Nat) (answer : Option (BitVec 16)) (d : Device) : Device :=
  let c := mvbCfg d.cfg n
  let x := mvbSt d n
  if x.role ≠ .master then d
  else match answer, lookup? x.devices a with
    | some w, known =>
      let d := setMvb n { x with devices := insertAt x.devices a 0, status := insertAt x.status a w, lastFrame := d.now } d
      (match known with
       | some _ => d
       | none => mvbSideband n 0x0B09 (BitVec.ofNat 32 a) (raise (sqMVB n) 8 0x0B09 n (mvbCtr n 15 d)))
    | none, some k =>
      if c.devLoss ≤ k + 1 then
        mvbSideband n 0x0B08 (BitVec.ofNat 32 a) (raise (sqMVB n) 7 0x0B08 n (mvbCtr n 14 (setMvb n { x with devices := removeAt x.devices a } d)))
      else setMvb n { x with devices := insertAt x.devices a (k + 1) } d
    | none, none => d

/-- MVB_SOURCE_WRITE: the gateway writes a source port (11 R343). -/
def mvbSourceWriteStep (n a : Nat) (data : Bytes) (d : Device) : Device := mvbSourceWrite n a data d

/-- A commit of a channel that runs: changed ports begin anew, and BA_CAPABLE sets the role (11 R343, R346).
(log entry 43: DESIGN CHOICE) -/
def mvbChange (n : Nat) (old : MvbCfg) (d : Device) : Device :=
  let c := mvbCfg d.cfg n
  let d := modMvb n (fun x => { x with entries := x.entries.filter (fun e => decide (lookup? old.ports e.1 = lookup? c.ports e.1)) }) d
  match (mvbSt d n).role, c.baCapable with
  | .slave, true => modMvb n (fun x => { x with role := .standby, lastFrame := d.now }) d
  | .standby, false => modMvb n (fun x => { x with role := .slave }) d
  | .master, false => modMvb n (fun x => { x with role := .slave }) (loseMaster n none d)
  | _, _ => d

/-- A channel starts at its commit (11 R346, R351): the traffic store is rebuilt. -/
def mvbOn (n : Nat) (d : Device) : Device :=
  let c := mvbCfg d.cfg n
  let x := mvbSt d n
  if x.retired then d
  else
    let known := c.known.foldl (fun (t : Tbl Nat) a => insertAt t a 0) []
    setMvb n { x with
      role := if c.baCapable then .standby else .slave, entries := [], waiting := [], devices := known, status := [],
      lastFrame := d.now, period := 0, macros := 0 } d

end Sys2Proof.Machine
end

