-- ==== Sys2Proof/Machine/SsnOps.lean ====
section
/-! DEFINITION. Operations of the seasons manager (13): readiness, the Equinox token, leaving a round, wake events. -/

namespace Sys2Proof.Machine

def modSsn (g : SsnState → SsnState) (d : Device) : Device := { d with ssn := g d.ssn }

/-- SSN counter k (13 R410). -/
def ssnCtr (k : Nat) (d : Device) : Device := bump (0x21000 + k * 8) d

/-- An event of Autumn waits until the control cores run (13 R409). -/
def ssnEvent (reg : Nat) (bit : Option Nat) (code : BitVec 16) (chan : Nat) (d : Device) : Device :=
  if d.ssn.season = .autumn ∨ !d.ssn.renioft then modSsn (fun s => { s with later := s.later ++ [(reg, bit, code, chan)] }) d
  else match bit with
    | some b => raise reg b code chan d
    | none => event code chan d

def msPs (n : Nat) : Nat := n * 1000000000

/-! ### Readiness and the ring (13 R385 to R387) -/

/-- READY_SIGNAL reads 1, where one is configured. -/
def signalReady (d : Device) : Bool :=
  match d.ssn.params.readySignal with
  | none => true
  | some (n, b) => bitOf (imageOf d n) b

/-- After a tamper a node counts as not READY (19 R533); a slot named as EQX_SLOT must hold a key (19 R548). Where no slot is
named nothing is judged (notes/assumptions/40). (log entry 40: DEDUCED) -/
def macKeyReady (d : Device) : Bool :=
  !d.sec.tampered && (match d.ssn.params.eqxSlot with
    | some n => decide ((lookup? d.sec.slots n).map (·.st) = some .written)
    | none => true)

/-- The device counts as sleep-ready in its round (13). (log entry 40: DEDUCED) -/
def isReady (d : Device) : Bool := d.ssn.sleepReady && d.ssn.wakeHold.isNone && signalReady d && macKeyReady d

def ownId (d : Device) : BitVec 12 := d.glb.deviceId.getD 0

/-- The ring member after a device; the first after the last (09 R298). -/
def nextInRing (d : Device) (x : BitVec 12) : Option (BitVec 12) :=
  let r := ring d
  match (r.dropWhile (fun y => decide (y ≠ x))).drop 1 with
  | y :: _ => some y
  | [] => r.head?

def inRing (d : Device) : Bool := d.glb.deviceId.isSome && (ring d).contains (ownId d)

def isOrigin (d : Device) : Bool := d.glb.deviceId.isSome && decide ((ring d).head? = some (ownId d))

/-- SEASON transition begun (13 R393, 01 R12). -/
def inTransition (d : Device) : Bool := d.ssn.consent.isSome || d.ssn.leaving.isSome

def localSecNs (d : Device) : Nat × Nat := (localNs d / 1000000000, localNs d % 1000000000)

def addMs (t : Nat × Nat) (ms : Nat) : Nat × Nat :=
  let ns := t.1 * 1000000000 + t.2 + ms * 1000000
  (ns / 1000000000, ns % 1000000000)

def nsOf (t : Nat × Nat) : Nat := t.1 * 1000000000 + t.2

/-- Effects of a consent end (13 R393): acceptance resumes (01 R34). -/
def endConsent (d : Device) : Device :=
  modSsn (fun s => { s with consent := none, commit := none }) { d with glb := { d.glb with stopAccept := false } }

/-- The node leaves the round (13 R392). -/
def leaveRound (d : Device) : Device :=
  endConsent (modSsn (fun s => { s with
    pass := none, wait := none, roundEnd := if s.pass.isSome then some d.now else s.roundEnd }) d)

/-! ### Frames (13 R388 to R392) -/

def eqxCode : EqxType → Nat
  | .consent => 1 | .commit => 2 | .ack => 3 | .refuse => 4 | .abort => 5 | .veto => 6 | .keepalive => 7

/-- Bytes 0 to 31 of the payload (13 Table SSN-3). -/
def eqxBytes (k : EqxType) (f : EqxFrame) : Bytes :=
  let bit (b : Bool) (n : Nat) : Nat := if b then 2 ^ n else 0
  toBe 1 f.version.toNat ++ toBe 1 (eqxCode k) ++ toBe 2 f.round.toNat ++ toBe 4 f.topo.toNat ++ toBe 2 f.origin.toNat ++ toBe 2 f.sender.toNat ++
  toBe 2 (match f.target with | some t => t.toNat | none => 32768) ++ toBe 1 f.hops ++ toBe 1 f.skipped ++ toBe 6 f.commitSec ++ toBe 4 f.commitNs ++
  toBe 2 f.reason.toNat ++ toBe 1 (bit f.fallback 7 + bit f.again 6) ++ toBe 3 0

/-- The key of the slot that the blob names as EQX_SLOT. -/
def eqxKey (d : Device) : Option Nat := (d.ssn.params.eqxSlot.bind (keySlot d)).map (·.key)

/-- The MAC of a frame under EQX_SLOT's key; without a key there is none (13 R388). -/
def eqxMac (d : Device) (k : EqxType) (f : EqxFrame) : Bytes :=
  match eqxKey d with
  | some x => macOf x (eqxBytes k f)
  | none => []

def ownFrame (d : Device) : EqxFrame :=
  let c := d.ssn.commit.getD (0, 0)
  { round := d.ssn.round, topo := d.top.count, origin := (ring d).head?.getD (ownId d), sender := ownId d, commitSec := c.1,
    commitNs := c.2, skipped := d.ssn.skipped, fallback := d.ssn.fallback }

/-- One Equinox datagram, with its MAC. -/
def emitEqx (k : EqxType) (dst : BitVec 12) (f : EqxFrame) (d : Device) : Device :=
  let f := { f with sender := ownId d }
  emit (.eqx k dst { f with mac := eqxMac d k f }) d

def sendEqx (k : EqxType) (dest : BitVec 12) (f : EqxFrame) (d : Device) : Device := emitEqx k dest { f with target := some dest } d

/-- A frame with TARGET = ALL: one unicast to every ring member in ring order (13 R388). -/
def sendAll (k : EqxType) (f : EqxFrame) (d : Device) : Device :=
  (ring d).foldl (fun d x => if x = ownId d then d else emitEqx k x { f with target := none } d) d

/-- ABORT to ALL; a repeated one goes out twice more (13 R392). -/
def sendAbort (reason : BitVec 16) (fallback again : Bool) (d : Device) : Device :=
  let f := { ownFrame d with reason := reason, fallback := fallback || d.ssn.fallback, commitSec := 0, commitNs := 0 }
  let d := sendAll .abort f d
  if again then modSsn (fun s => { s with again := some { frame := { f with again := true }, left := 2, due := d.now + msPs 5 } }) d else d

/-- The round is left on an ABORT, a VETO or the origin's own abort (13 R392): event 0x0D03 with the reason. (log entry 45: DESIGN CHOICE) -/
def abortRound (reason : BitVec 16) (d : Device) : Device :=
  raise sqSSN 2 0x0D03 reason.toNat (ssnCtr 2 (leaveRound d))

/-- A READY node of the fallback consents; one that is not READY withdraws (13 R396). A node without a device ID takes no part (R386). -/
def reviewReady (d : Device) : Device :=
  let r := isReady d
  let now := d.now
  let d := modSsn (fun s => { s with wasReady := r }) d
  if d.ssn.fallback && d.glb.deviceId.isSome && decide (d.ssn.season = .summer) && d.ssn.leaving.isNone then
    if r && d.ssn.consent.isNone then modSsn (fun s => { s with consent := some now, vetoed := false }) d
    else if !r && d.ssn.consent.isSome then endConsent d
    else d
  else d

/-- The keep-alive fallback is entered (13 R395). -/
def enterFallback (d : Device) : Device :=
  if d.ssn.fallback then d
  else reviewReady (modSsn (fun s => { s with fallback := true, kaSent := d.now }) (leaveRound d))

/-- The round is complete at the origin (13 R391). -/
def roundDone (d : Device) : Device :=
  let d := modSsn (fun s => { s with pass := none, wait := none, roundEnd := some d.now, lostRuns := 0, notLockedRuns := 0 }) d
  raise sqSSN 1 0x0D02 0 (ssnCtr 1 d)

/-- The commit time is set when CONSENT has returned (13 R391). -/
def setCommit (d : Device) : Device :=
  modSsn (fun s => { s with commit := some (addMs (localSecNs d) s.params.commitDelayMs) }) d

/-- A token frame to a member, whose ACK is awaited; a token back at the origin ends its pass. -/
def passToken (k : EqxType) (f : EqxFrame) (dest : BitVec 12) (d : Device) : Device :=
  let d := sendEqx k dest f d
  modSsn (fun s => { s with wait := some { type_ := k, frame := f, target := dest, sentAt := d.now } }) d

/-- The commit pass begins; a ring of one is complete at once (13 R387, R391). -/
def startCommitPass (d : Device) : Device :=
  let d := setCommit d
  let now := d.now
  let d := modSsn (fun s => { s with pass := some (now, true), wait := none }) d
  match nextInRing d (ownId d) with
  | none => roundDone d
  | some dest => if dest = ownId d then roundDone d else passToken .commit (ownFrame d) dest d

/-- A token goes to the member after `x`; reaching the origin again ends the pass there (13 R390, R391). -/
def forwardAfter (k : EqxType) (f : EqxFrame) (x : BitVec 12) (d : Device) : Device :=
  match nextInRing d x with
  | none => d
  | some dest =>
    if dest = ownId d then
      match d.ssn.pass, k with
      | some (_, false), .consent => startCommitPass d
      | some (_, true), .commit => roundDone (modSsn (fun s => { s with wait := none }) d)
      | _, _ => modSsn (fun s => { s with wait := none }) d
    else passToken k f dest d

/-! ### Wake (13 R397 to R400) -/

def pulseWake (d : Device) : Device :=
  let now := d.now
  emit (.pin .wakeOut true) (modSsn (fun s => { s with wakeOut := some (now + msPs s.params.wakePulseMs) }) d)

/-- One tick of the Keeper, 1/32,768 s, rounded up to whole picoseconds. -/
def keeperTickPs : Nat := 30517579

/-- PWR_EN[0] rises. -/
def raiseVdd (d : Device) : Device :=
  let now := d.now
  emit (.pin (.pwrEn 0) true) (modSsn (fun s => { s with pwrEn := s.pwrEn ||| 1, pwrRose := now }) d)

/-- The rails begin to rise (13 Table SSN-9): Spring. An output that fell within the last Keeper tick is held low first (22 R603). -/
def beginSpring (source : Nat) (d : Device) : Device :=
  let now := d.now
  let held := d.ssn.pwrFell + keeperTickPs
  let d := modSsn (fun s => { s with
    season := .spring, leaving := none, powerUp := now, pwrEn := 0, powerFails := 0, retryAt := none, vddOk := false,
    wakeLatched := false }) d
  let d := if held ≤ now then raiseVdd d else d
  let mode := d.ssn.params.wakeOut
  if mode = .always ∨ (mode = .notWakeIn ∧ source ≠ 1) then pulseWake d else d

/-- The commit time has come: it is recorded and passed, or the node already leaves Summer (13 R398, R399). -/
def pastCommit (d : Device) : Bool :=
  d.ssn.leaving.isSome || (d.ssn.consent.isSome && (match d.ssn.commit with | some c => decide (nsOf c ≤ localNs d) | none => false))

/-- A wake that is latched after the consent and before the commit time (13 R398): VETO, the pulse, and the round is left; an idle return counts its time
anew. (log entry 45: DESIGN CHOICE) -/
def vetoRound (d : Device) : Device :=
  let now := d.now
  let d := modSsn (fun s => { s with lastForward := if s.params.idleReturn then now else s.lastForward }) d
  if d.ssn.vetoed then endConsent d
  else
    let d := sendAll .veto { ownFrame d with reason := 0x0D25 } d
    let d := if d.ssn.params.wakeOut = .never then d else pulseWake d
    let d := leaveRound (modSsn (fun s => { s with vetoed := true }) d)
    raise sqSSN 3 0x0D04 0 (ssnCtr 3 d)

/-- A wake event (13 R385, R397 to R399, Table SSN-6): source 1 WAKE_IN, 2 CAN, 3 alarm, 4 NCP. -/
def wakeEvent (source chan : Nat) (d : Device) : Device :=
  if d.ssn.season = .off ∨ d.ssn.season = .winter then d
  else
    let early := pastCommit d
    let now := d.now
    let d := modSsn (fun s => { s with
      sleepReady := false, wasReady := false, wakeHold := if s.params.wakeHoldS = 0 then none else some (now + s.params.wakeHoldS * 1000000000000),
      wakeSource := source, wakeChan := chan, wakeBefore := early,
      wakeKsec := d.keeper.timeSec.setWidth 32, wakeKsub := d.keeper.timeSub }) d
    let rec_ := source + chan * 256 + (if early then 65536 else 0)
    let d := ssnEvent sqSSN (some 7) 0x0D08 rec_ d
    if d.ssn.season = .autumn then beginSpring source (ssnCtr 7 d)
    else if early then modSsn (fun s => { s with wakeLatched := true }) d
    else
      let d := if d.ssn.season = .summer then ssnCtr 8 d else d
      if d.ssn.consent.isSome then vetoRound d else d

/-- TOPO_COUNT has changed (09 R298, 13 R395): a round is aborted, the fallback ends. -/
def topoChanged (d : Device) : Device :=
  let d := if d.ssn.consent.isSome ∨ d.ssn.pass.isSome then
      if d.ssn.fallback then endConsent d else abortRound 0x0D27 d
    else d
  modSsn (fun s => { s with fallback := s.params.keepalive }) d

end Sys2Proof.Machine
end

