-- ==== Sys2Proof/Machine/Seasons.lean ====
section
/-! DEFINITION. The steps of the Equinox round, the fallback, and the entry to Autumn up to the rails (13 R385 to R402);
what a departure from Summer does to an update and to a Solstice (20 R565, R571). -/

namespace Sys2Proof.Machine

/-! ### Update and Solstice left behind (20 R565, R571) -/

/-- A pending Solstice is discarded (20 R571). -/
def abandonSolstice (d : Device) : Device :=
  match d.boot.solstice with
  | none => d
  | some _ =>
    let d := raise sqBOOT 6 0x1309 0 { d with boot := { d.boot with solstice := none } }
    lateRecord { reason := 0x1330 } d

/-- The device leaves Summer before SWITCH_TIME (05 R149). -/
def dropSwitch (d : Device) : Device :=
  match d.switching with
  | none => d
  | some s => lateRecord { reason := 0x0526, origin := 1, who := BitVec.ofNat 6 s.session, ref := s.seq } (clearSwitch d)

/-! ### Rounds (13 R387 to R394) -/

/-- WAKE_HOLD_EXPIRY (13 R385). -/
def wakeHoldExpiry (d : Device) : Device :=
  match d.ssn.wakeHold with
  | some t => if t ≤ d.now then reviewReady (modSsn (fun s => { s with wakeHold := none }) d) else d
  | none => d

/-- ROUND_START: the origin starts a round (13 R387); a commit that is being prepared completes first (01 R12). (log entry 45: DESIGN CHOICE) -/
def roundStart (d : Device) : Device :=
  let s := d.ssn
  let rested : Bool := match s.roundEnd with | some t => decide (t + msPs s.params.roundRetryMs ≤ d.now) | none => true
  if isOrigin d && isReady d && s.pass.isNone && s.consent.isNone && !configBusy d && rested && !s.fallback && decide (s.season = .summer) && s.leaving.isNone then
    let now := d.now
    let d := modSsn (fun s => { s with round := s.round + 1, pass := some (now, false), consent := some now, vetoed := false, skipped := 0 }) d
    let d := raise sqSSN 1 0x0D01 0 (ssnCtr 0 d)
    match nextInRing d (ownId d) with
    | none => startCommitPass d
    | some dest => if dest = ownId d then startCommitPass d else passToken .consent (ownFrame d) dest d
  else d

/-- VERSION, MAC and TARGET of a received frame are good (13 R388). -/
def eqxMine (k : EqxType) (f : EqxFrame) (d : Device) : Bool :=
  decide (f.version = 1) && (eqxKey d).isSome && decide (f.mac = eqxMac d k f) && (match f.target with | some t => decide (d.glb.deviceId = some t) | none => true)

/-- A received frame passes its checks (13 R388). -/
def eqxGood (k : EqxType) (f : EqxFrame) (d : Device) : Bool := eqxMine k f d && decide (f.topo = d.top.count)

/-- A frame that fails them is counted; a differing TOPO_COUNT ends the consent of its round (13 R388). -/
def eqxBad (k : EqxType) (f : EqxFrame) (d : Device) : Device :=
  let mine := eqxMine k f d
  let d := ssnCtr 6 d
  if mine && decide (f.topo ≠ d.top.count ∧ f.round = d.ssn.round) && d.ssn.consent.isSome && !d.ssn.fallback then abortRound 0x0D27 d else d

/-- What a node does with a received frame: a good one has its effect. A node without a device ID takes part in nothing (13 R386). -/
def onEqx (k : EqxType) (f : EqxFrame) (g : Device → Device) (d : Device) : Device :=
  if d.glb.deviceId.isNone then d else if eqxGood k f d then g d else eqxBad k f d

/-- A frame with FALLBACK set takes the node into the fallback (13 R395). -/
def noteFallback (f : EqxFrame) (d : Device) : Device := if f.fallback then enterFallback d else d

/-- A change that no sleep may overtake (13 Table SSN-4 CHANGE_PENDING): `by_` is the commit time in ns. (log entry 45: DESIGN CHOICE) -/
def changePending (by_ : Nat) (d : Device) : Bool :=
  configBusy d || d.boot.solstice.isSome || (match d.switching with | some x => decide (x.sec * 1000000000 + x.ns < by_ + 1000000000) | none => false)

/-- Why a node refuses (13 Table SSN-4). -/
def refusal (by_ : Nat) (d : Device) : Option (BitVec 16) :=
  if d.ssn.season ≠ .summer ∨ d.ssn.leaving.isSome then some 0x0D22
  else if !isReady d then some 0x0D20
  else if d.tim.mode ≠ .locked then some 0x0D21
  else if changePending by_ d then some 0x0D24
  else none

def ackFrame (f : EqxFrame) (d : Device) : Device := sendEqx .ack f.sender { ownFrame d with round := f.round, origin := f.origin } d

def sendRefuse (f : EqxFrame) (r : BitVec 16) (d : Device) : Device :=
  sendEqx .refuse f.origin { ownFrame d with round := f.round, origin := f.origin, reason := r } d

/-- EQX_CONSENT (13 R389, R391). (log entry 45: DESIGN CHOICE) -/
def eqxConsent (f : EqxFrame) : Device → Device :=
  onEqx .consent f (fun d =>
    let d := noteFallback f (ackFrame f d)
    if d.glb.deviceId = some f.origin then
      match d.ssn.pass with
      | some (_, false) => if f.round = d.ssn.round then startCommitPass (modSsn (fun s => { s with skipped := f.skipped }) d) else d
      | _ => d
    else
      match refusal (nsOf (addMs (localSecNs d) d.ssn.params.commitDelayMs)) d with
      | some r => sendRefuse f r d
      | none =>
        let now := d.now
        let d := modSsn (fun s => { s with round := f.round, consent := some now, commit := none, vetoed := false, skipped := f.skipped }) d
        forwardAfter .consent { f with hops := f.hops + 1 } (ownId d) d)

/-- EQX_COMMIT (13 R391). (log entry 45: DESIGN CHOICE) -/
def eqxCommit (f : EqxFrame) : Device → Device :=
  onEqx .commit f (fun d =>
    let d := noteFallback f (ackFrame f d)
    if d.glb.deviceId = some f.origin then
      match d.ssn.pass with
      | some (_, true) => if f.round = d.ssn.round then roundDone (modSsn (fun s => { s with skipped := f.skipped }) d) else d
      | _ => d
    else
      let mine := d.ssn.consent.isSome && decide (d.ssn.round = f.round)
      match (if mine then none else refusal (nsOf (f.commitSec, f.commitNs)) d) with
      | some r => sendRefuse f r d
      | none =>
        let now := d.now
        let d := modSsn (fun s => { s with
          round := f.round, consent := if mine then s.consent else some now, commit := some (f.commitSec, f.commitNs),
          vetoed := s.vetoed && mine, skipped := f.skipped }) d
        forwardAfter .commit { f with hops := f.hops + 1 } (ownId d) d)

/-- EQX_ACK (13 R390). -/
def eqxAck (f : EqxFrame) : Device → Device :=
  onEqx .ack f (fun d =>
    let d := noteFallback f d
    match d.ssn.wait with
    | some w => if w.target = f.sender ∧ w.frame.round = f.round then modSsn (fun s => { s with wait := none }) d else d
    | none => d)

/-- HOP_TIMEOUT (13 R390). -/
def hopTimeout (d : Device) : Device :=
  match d.ssn.wait with
  | none => d
  | some w =>
    if w.sentAt + msPs d.ssn.params.hopMs ≤ d.now then
      if !w.resent then
        let now := d.now
        modSsn (fun s => { s with wait := some { w with resent := true, sentAt := now } }) (sendEqx w.type_ w.target w.frame d)
      else
        let d := modSsn (fun s => { s with wait := none, skipped := s.skipped + 1 }) d
        let d := raise sqSSN 6 0x0D07 w.target.toNat (ssnCtr 5 d)
        forwardAfter w.type_ { w.frame with skipped := w.frame.skipped + 1 } w.target d
    else d

/-- The origin enters the fallback and tells all, with the reason that led to it (13 R395). (log entry 45: DESIGN CHOICE) -/
def originFallback (reason : BitVec 16) (d : Device) : Device :=
  let d := raise sqSSN 5 0x0D06 0 d
  enterFallback (sendAbort reason true true d)

/-- EQX_REFUSE at the origin (13 R389, R395). (log entry 45: DESIGN CHOICE) -/
def eqxRefuse (f : EqxFrame) : Device → Device :=
  onEqx .refuse f (fun d =>
    let d := noteFallback f d
    if d.ssn.pass.isSome ∧ f.round = d.ssn.round then
      let runs := if f.reason = 0x0D21 then d.ssn.notLockedRuns + 1 else 0
      let d := abortRound f.reason (sendAbort f.reason false false d)
      let d := modSsn (fun s => { s with notLockedRuns := runs, lostRuns := 0 }) d
      if 2 ≤ runs then originFallback 0x0D21 d else d
    else d)

/-- EQX_ABORT (13 R392). -/
def eqxAbort (f : EqxFrame) : Device → Device :=
  onEqx .abort f (fun d =>
    let d := if d.ssn.consent.isSome ∧ f.round = d.ssn.round ∧ !pastCommit d ∧ !d.ssn.fallback then abortRound f.reason d else d
    noteFallback f d)

/-- EQX_VETO (13 R398): past its commit time a node ignores it. -/
def eqxVeto (f : EqxFrame) : Device → Device :=
  onEqx .veto f (fun d =>
    let d := noteFallback f d
    if d.ssn.consent.isSome ∧ f.round = d.ssn.round ∧ !pastCommit d then abortRound f.reason d else d)

/-- EQX_KEEPALIVE (13 R395, R396): the fallback; a consent is withdrawn and taken again at once when READY. -/
def eqxKeepalive (f : EqxFrame) : Device → Device :=
  onEqx .keepalive f (fun d =>
    let d := enterFallback d
    if d.ssn.leaving.isSome then d
    else
      let now := d.now
      reviewReady (endConsent (modSsn (fun s => { s with lastKa := now }) d)))

/-- TOKEN_TIMEOUT (13 R392, R395). (log entry 45: DESIGN CHOICE) -/
def tokenTimeout (d : Device) : Device :=
  match d.ssn.pass with
  | none => d
  | some (t, _) =>
    if t + msPs d.ssn.params.tokenMs ≤ d.now then
      let d := raise sqSSN 4 0x0D05 0 (ssnCtr 4 d)
      let d := abortRound 0x0D26 (sendAbort 0x0D26 false true d)
      let d := modSsn (fun s => { s with lostRuns := s.lostRuns + 1, notLockedRuns := 0 }) d
      if 2 ≤ d.ssn.lostRuns then originFallback 0x0D26 d else d
    else d

/-- ABORT_REPEAT (13 R392). -/
def abortRepeat (d : Device) : Device :=
  match d.ssn.again with
  | none => d
  | some r =>
    if r.due ≤ d.now then
      let d := sendAll .abort r.frame d
      let next : Option EqxRepeat := if r.left ≤ 1 then none else some { r with left := r.left - 1, due := r.due + msPs 5 }
      modSsn (fun s => { s with again := next }) d
    else d

/-- CONSENT_EXPIRED (13 R392). -/
def consentExpired (d : Device) : Device :=
  match d.ssn.consent, d.ssn.commit with
  | some t, none =>
    if t + 2 * msPs d.ssn.params.tokenMs ≤ d.now ∧ !d.ssn.fallback ∧ d.ssn.pass.isNone ∧ d.ssn.leaving.isNone then
      raise sqSSN 2 0x0D0D 0 (leaveRound d)
    else d
  | _, _ => d

/-- KA_SEND (13 R396, R406). -/
def kaSend (d : Device) : Device :=
  let now := d.now
  if d.ssn.fallback ∧ d.glb.deviceId.isSome ∧ d.ssn.kaSent + msPs d.ssn.params.kaPeriodMs ≤ now ∧
      (!isReady d ∨ d.ssn.season = .spring) then
    sendAll .keepalive (ownFrame d) (modSsn (fun s => { s with kaSent := now }) d)
  else d

/-! ### Leaving Summer (13 R401, R402) -/

/-- The commit time: ingress stops, queues are discarded, buses go to standby, an update closes, a Solstice and a held
route commit are discarded (13 Table SSN-7 at 0; 20 R565, R571; 09 R293). -/
def leaveSummer (d : Device) : Device :=
  let now := d.now
  let d := modSsn (fun s => { s with
    leaving := some now, consent := some (s.consent.getD now), pass := none, wait := none, again := none, canWakeCfg := d.cfg.can }) d
  let d := { d with glb := { d.glb with stopAccept := true }, top := { d.top with routeQueued := false, routeWait := none } }
  let d := (List.range 25).foldl (fun d p => modPort p (fun s => { s with ingressOn := false, txOn := s.txOn && (s.cur.isSome || s.preempted.isSome) }) d) d
  let d := (List.range 38).foldl (fun d p => flushPort p 8 true d) d
  let d := (List.range 8).foldl (fun d n =>
    if (canSt d n).standby then canOff n d
    else emit (.pin (.canStb n) (canCfg d.cfg n).stbPol) (modCan n (fun x => { x with standby := true }) (canOff n d))) d
  let d := (List.range 2).foldl (fun d n => mvbOff n d) d
  let d := if d.cfg.top.autumnHold then d else driveBypass false (setLine .bypassed d)
  abandonSolstice (closeUpdate (dropSwitch d))

/-- COMMIT_TIME_REACHED (13 R391, R402). -/
def commitTimeReached (d : Device) : Device :=
  match d.ssn.commit with
  | none => d
  | some c =>
    if d.ssn.season = .summer ∧ d.ssn.leaving.isNone ∧ d.ssn.consent.isSome ∧ nsOf c ≤ localNs d then leaveSummer d else d

/-- KA_SILENCE_EXPIRY: the commit time of the fallback (13 R396). -/
def kaSilenceExpiry (d : Device) : Device :=
  match d.ssn.consent with
  | none => d
  | some t =>
    if d.ssn.fallback ∧ d.glb.deviceId.isSome ∧ d.ssn.season = .summer ∧ d.ssn.leaving.isNone ∧ isReady d ∧
        max t d.ssn.lastKa + msPs d.ssn.params.kaSilenceMs ≤ d.now then leaveSummer d
    else d

/-- IDLE_RETURN (13 R401). -/
def idleReturn (d : Device) : Device :=
  if d.ssn.params.idleReturn ∧ (d.ssn.season = .summer ∨ d.ssn.season = .spring) ∧ d.ssn.leaving.isNone ∧
      d.ssn.lastForward + d.ssn.params.idleS * 1000000000000 ≤ d.now then
    leaveSummer (raise sqSSN 11 0x0D0C 0 (ssnCtr 9 d))
  else d

/-- SLEEP_ACCEPTANCE_STOP: 60 ms before the commit time (01 R34, 13 R393, R401). -/
def sleepAcceptanceStop (d : Device) : Device :=
  let byRound : Bool := match d.ssn.commit with
    | some c => d.ssn.consent.isSome && decide (nsOf c ≤ localNs d + 60000000)
    | none => false
  let bySilence : Bool := match d.ssn.consent with
    | some t => d.ssn.fallback && decide (max t d.ssn.lastKa + msPs d.ssn.params.kaSilenceMs ≤ d.now + msPs 60)
    | none => false
  let byIdle := d.ssn.params.idleReturn && (decide (d.ssn.season = .summer) || decide (d.ssn.season = .spring)) &&
    decide (d.ssn.lastForward + d.ssn.params.idleS * 1000000000000 ≤ d.now + msPs 60)
  if byRound || bySilence || byIdle then
    let now := d.now
    modSsn (fun s => { s with consent := some (s.consent.getD now) }) { d with glb := { d.glb with stopAccept := true } }
  else d

/-! ### Wake rows (13 R397, R400; 10 R331) -/

/-- WAKE_IN: the pin has held its active level for WAKE_FILTER, or has returned to its inactive level. (log entry 46: DESIGN CHOICE) -/
def wakeInRow (active : Bool) (d : Device) : Device :=
  let d := modSsn (fun s => { s with wakeIn := active }) d
  if active then wakeEvent 1 0 d else d

/-- WAKE_ALARM: the Keeper time counter matches (13 R397). -/
def wakeAlarm (d : Device) : Device :=
  match d.ssn.params.alarm with
  | some a => if d.keeper.timeSec.toNat = a then wakeEvent 3 0 d else d
  | none => d

/-- WAKE_PULSE_END (13 R400). -/
def wakePulseEnd (d : Device) : Device :=
  match d.ssn.wakeOut with
  | some t => if t ≤ d.now then emit (.pin .wakeOut false) (modSsn (fun s => { s with wakeOut := none }) d) else d
  | none => d

/-- CAN wake detectors are armed from the commit time until Summer (13 R397, 10 R330). -/
def detectorOn (d : Device) (n : Nat) : Bool :=
  decide ((lookupD d.ssn.canWakeCfg n {}).wakeSrc ≠ .off) &&
  (d.ssn.leaving.isSome || decide (d.ssn.season = .autumn) || decide (d.ssn.season = .spring))

/-- CAN_WAKE_DETECT (10 R331, R333, R335). (log entry 46: DESIGN CHOICE) -/
def canWakeDetect (n : Nat) (d : Device) : Device :=
  if detectorOn d n then
    let d := ssnEvent (sqCXL n) none 0x0A09 n (canCtr n 15 d)
    wakeEvent 2 n (sideband (26 + n) 0x0A09 n 0 d)
  else d

end Sys2Proof.Machine
end

