-- ==== Sys2Proof/Machine/Topology.lean ====
section
/-! DEFINITION. The steps of the train topology (09): HELLO and TOPOLOGY frames, the line states, inauguration, the bypass
relay and its watchdog; the links of the ETB ports and of port PL. -/

namespace Sys2Proof.Machine

def modTop (g : TopState → TopState) (d : Device) : Device := { d with top := g d.top }

/-- Lines up or down, per ETBN. -/
def lineKey (l : List TopNode) : List (Nat × Bool × Bool) := l.map (fun x => (x.id, x.lineA, x.lineB))

/-- Entries of the inaugurated list with those lost marked absent, and the lines and devices of those present as the view shows them: an
installed place keeps its numbers (09 R290, R294, Table TOP-6). -/
def markAbsent (list view : List TopNode) : List TopNode :=
  list.map (fun x => match view.find? (fun y => decide (y.id = x.id) && y.present) with
    | some y => { x with
      present := true, lineA := y.lineA, lineB := y.lineB, nv8 := y.nv8, inhibit := y.inhibit, devA := y.devA, devB := y.devB }
    | none => { x with present := false, devA := none, devB := none })

/-- The merged view differs from the inaugurated list (09 R290). -/
def viewDiffers (d : Device) : Bool := decide (viewKey (mergedView d) ≠ viewKey d.top.list)

/-- The line's state after the merged view changed from `old` (09 Table TOP-2, R294, R295). (log entry 44: DESIGN CHOICE) -/
def reviewView (old : List TopNode) (d : Device) : Device :=
  let v := mergedView d
  let d := if lineKey old ≠ lineKey v then raise sqTOP 2 0x0903 0 d else d
  let con : Bool := match d.top.viewA, d.top.viewB with | some a, some b => contradicts a b | _, _ => false
  let d := if con && !d.top.conflict then raise sqTOP 5 0x0906 0 d else d
  let d := modTop (fun t => { t with conflict := con }) d
  let finished := decide (63 < v.length)
  let d := if finished && !d.top.limit then raise sqTOP 7 0x0909 0 d else d
  let d := modTop (fun t => { t with limit := finished }) d
  let changed := decide (viewKey old ≠ viewKey v)
  match d.top.line with
  | .discovering => if v.isEmpty then d else setLine .stableWait d
  | .stableWait => if changed then (if v.isEmpty then setLine .discovering d else setLine .stableWait d) else d
  | .inaugurated =>
    if viewDiffers d then
      if inhibited d then raise sqTOP 1 0x0902 0 (setLine .inhibited (modTop (fun t => { t with list := markAbsent t.list v }) d))
      else setLine .stableWait d
    else modTop (fun t => { t with list := markAbsent t.list v }) d
  | .inhibited =>
    if inhibited d then
      let d := modTop (fun t => { t with list := markAbsent t.list v }) d
      if changed then raise sqTOP 1 0x0902 0 d else d
    else setLine .stableWait d
  | _ => d

/-- The line that this NV8 carries: A at position 0 and unpaired, B at position 1 (09 R286). -/
def ownLine (d : Device) : Bool := d.cfg.pair.paired && position d

/-- The Lanry TLV: 2 bytes per line, the own device ID on the own line (09 Table TOP-1, R298). -/
def lanryTlv (d : Device) : Bytes :=
  let w := devWord d.glb.deviceId
  if ownLine d then toBe 2 0 ++ toBe 2 w else toBe 2 w ++ toBe 2 0

/-- A TOPOLOGY frame leaves on a direction (09 R291). -/
def sendTopology (p : Nat) (d : Device) : Device :=
  let now := d.now
  emit (.ttdpTopology p (ownLine d) (d.top.neighbours.map (fun x => (x.1, x.2.id))) d.top.inhibit d.cfg.top.car (lanryTlv d))
    (modTop (fun t => { t with topoAt := insertAt t.topoAt p now }) d)

/-- Whether TTDP frames leave: the line is past BYPASSED and INSERTING and Renioft runs. -/
def ttdpOn (d : Device) : Bool := decide (d.top.line ≠ .bypassed) && decide (d.top.line ≠ .inserting) && renioftRuns d

/-- A change of what a TOPOLOGY frame announces is sent at once on both directions (09 Table TOP-3). -/
def announceTopology (d : Device) : Device := if ttdpOn d then sendTopology 1 (sendTopology 0 d) else d

/-- HELLO_RECEIVED on a port (09 R288, R291): `etb` is the ETB identity it carries. -/
def helloReceived (p id etb : Nat) (d : Device) : Device :=
  if p < 2 then
    let known : Bool := match lookup? d.top.neighbours p with | some n => decide (n.id = id) | none => false
    let d := modTop (fun t => { t with neighbours := insertAt t.neighbours p { id := id, lastHello := d.now } }) d
    if known then d else announceTopology (raise sqTOP 2 0x0903 0 d)
  else if etb = d.cfg.top.etbId ∧ !(portSt d p).loopBlock then
    raise sqTOP 3 0x0904 p (modPort p (fun s => { s with loopBlock := true }) d)
  else d

/-- TOPOLOGY_RECEIVED: the view of a line (09 R290). -/
def topologyReceived (lineB : Bool) (view : List TopNode) (d : Device) : Device :=
  let old := mergedView d
  reviewView old (modTop (fun t => if lineB then { t with viewB := some view } else { t with viewA := some view }) d)

/-- The present HELLO interval of a direction: fast once a HELLO of its neighbour is missing (09 Table TOP-3). -/
def helloPeriodMs (p : Nat) (d : Device) : Nat :=
  match lookup? d.top.neighbours p with
  | some n => if n.lastHello + msPs (d.cfg.top.helloMs + 5) < d.now then d.cfg.top.helloFastMs else d.cfg.top.helloMs
  | none => d.cfg.top.helloMs

/-- A frame that leaves every `ms` is due. -/
def periodOver (last : Option Nat) (ms : Nat) (d : Device) : Bool :=
  match last with | some t => decide (t + msPs ms ≤ d.now) | none => true

/-- HELLO_SEND on a direction when its interval has passed; the watchdog is refreshed (09 R291, R301). -/
def helloSend (p : Nat) (d : Device) : Device :=
  if d.top.line = .bypassed ∨ !renioftRuns d ∨ !periodOver (lookup? d.top.helloAt p) (helloPeriodMs p d) d then d
  else
    let now := d.now
    emit (.ttdpHello p (ownLine d) d.cfg.top.etbId) (modTop (fun t => { t with lastRefresh := now, helloAt := insertAt t.helloAt p now }) d)

/-- TOPOLOGY_SEND on a direction when TOPO_PERIOD has passed (09 R291). -/
def topologySend (p : Nat) (d : Device) : Device :=
  if ttdpOn d && periodOver (lookup? d.top.topoAt p) d.cfg.top.topoMs d then sendTopology p d else d

/-- The neighbour of a direction is gone (09 R291). -/
def neighbourGone (p : Nat) (d : Device) : Device :=
  match lookup? d.top.neighbours p with
  | none => d
  | some _ => announceTopology (raise sqTOP 2 0x0903 0 (modTop (fun t => { t with neighbours := removeAt t.neighbours p }) d))

/-- NEIGHBOUR_LOST: no HELLO for HELLO_PERIOD + 5 ms and HELLO_LOSS fast periods (09 R291). -/
def neighbourLost (p : Nat) (d : Device) : Device :=
  match lookup? d.top.neighbours p with
  | none => d
  | some n =>
    let t := d.cfg.top
    if n.lastHello + msPs (t.helloMs + 5 + t.helloLoss * t.helloFastMs) ≤ d.now then neighbourGone p d else d

/-- Own orientation and position as the installed list gives them. (log entry 44: DESIGN CHOICE) -/
def counterOf (l : List TopNode) : Word := Config.topoCounter ((viewKey l).flatMap (fun x => toBe 8 x.1 ++ toBe 1 (if x.2 then 1 else 0)))

/-- Inauguration (09 R292, R293, R298). -/
def inaugurate (d : Device) : Device :=
  let l := numbered (mergedView d)
  let c := counterOf l
  let same := decide (c = d.top.count) && d.top.inaugurated
  let d := raise sqTOP 0 0x0901 0 (setLine .inaugurated (modTop (fun t => { t with list := l, count := c, inaugurated := true }) d))
  let d := if same then d else topoChanged (modTop (fun t => { t with routeQueued := true }) d)
  match d.cfg.top.expectCount with
  | some x => if x = c then d else raise sqTOP 6 0x0908 0 d
  | none => d

/-- TOPO_STABLE_EXPIRY (09 R290, R295). -/
def topoStableExpiry (d : Device) : Device :=
  if d.top.line = .stableWait ∧ d.top.since + msPs d.cfg.top.stableMs ≤ d.now ∧ (mergedView d).length ≤ 63 then inaugurate d else d

/-- DISCOVERING; a merged view that exists already leads on (09 R290). -/
def enterDiscovering (d : Device) : Device :=
  let d := setLine .discovering d
  if (mergedView d).isEmpty then d else setLine .stableWait d

/-- INSERTING ends when BYPASS_SETTLE has passed and BB0 or BB1 has link (09 R290). -/
def settle (d : Device) : Device :=
  if d.top.line = .inserting ∧ d.top.since + msPs d.cfg.top.settleMs ≤ d.now ∧ ((portSt d 0).linkUp ∨ (portSt d 1).linkUp) then
    enterDiscovering d
  else d

/-- BYPASS_WD (09 R301): a running Renioft refreshes the watchdog at least every 25 ms. -/
def bypassWd (d : Device) : Device :=
  if d.top.bypassEn ∧ !renioftRuns d ∧ d.top.lastRefresh + msPs d.cfg.top.wdMs ≤ d.now then
    raise sqTOP 4 0x0905 0 (enterBypassed (modTop (fun t => { t with wdReleased := true }) d))
  else d

/-- TOPO_INHIBIT: the local inhibit (09 R294). -/
def topoInhibit (on : Bool) (d : Device) : Device :=
  let was := d.top.inhibit
  let d := modTop (fun t => { t with inhibit := on }) d
  let d := if was = on then d else announceTopology d
  if d.top.line = .inhibited ∧ !inhibited d then setLine .stableWait d else d

/-- BYPASS_COMMAND (09 R299). -/
def bypassCommand (on : Bool) (d : Device) : Device := bypassOrder on d

/-! ### Links (02 R64, 09 R290, R291, 14 R414, R417) -/

/-- Port PL carries a SecY whose keys are live (14 R414). -/
def plSecyLive (d : Device) : Bool :=
  d.cfg.msc.secys.any (fun x => decide (x.2.port = 37) && (encSa (txScOf d x.1)).isSome)

/-- The Wyusin path comes up: credit starts at CREDIT_WIN (14 R414, R417). -/
def reviewWyusin (d : Device) : Device :=
  if d.cfg.pair.paired ∧ (portSt d 37).linkUp ∧ plSecyLive d ∧ !d.pair.wyUp then
    let w : Word := BitVec.ofNat 32 d.cfg.pair.creditWin
    let l : Tbl Word := (List.range 8).map (fun t => (t, w))
    let held : Tbl Word := (List.range 8).map (fun t => (t, BitVec.ofNat 32 (allotOf d (37 * 8 + t)).used))
    { d with pair := { d.pair with wyUp := true, limRx := l, limTx := l, sent := [], got := held, rx := [] } }
  else d

/-- LINK_UP with what hangs on the link of an ETB port or of PL. -/
def linkUpStep (p : Nat) (d : Device) : Device :=
  let d := linkUp p d
  if p < 2 then settle d else if p = 37 then reviewWyusin d else d

/-- LINK_DOWN likewise (09 R291, 14 R419, 06 R187). -/
def linkDownStep (p : Nat) (d : Device) : Device :=
  let d := leaveDomains p (linkDown p d)
  if p < 2 then neighbourGone p d
  else if p = 37 then wyusinDown d
  else d

end Sys2Proof.Machine
end

