-- ==== Sys2Proof/Machine/Pair.lean ====
section
/-! DEFINITION. The steps of the pair (14): the lease and its takeover, the Wyusin channels and credit, output comparison
and its self-test, joining. -/

namespace Sys2Proof.Machine

def modPair (g : PairState → PairState) (d : Device) : Device := { d with pair := g d.pair }

/-! ### Lease (14 R413, R421 to R427) -/

/-- What a renewal on the Wyusin path carries (14 R423). -/
structure Renewal where
  epoch : Word
  id : BitVec 12
  position : Bool
  number : Word := 0
  role : Role := .active
  deriving DecidableEq, Repr

/-- LEASE_ARM (14 R421). -/
def leaseArm (d : Device) : Device := if d.pair.role = .active ∧ renioftRuns d then modPair (fun p => { p with armed := true }) d else d

/-- LEASE_RENEWAL_SEND: every 2 ms, when armed (14 R421). (log entry 47: DESIGN CHOICE) -/
def leaseRenewalSend (d : Device) : Device :=
  let due : Bool := match d.pair.lastSent with | some t => decide (t + msPs 2 ≤ d.now) | none => true
  if d.pair.role = .active ∧ d.pair.armed ∧ due then sendRenewal d else d

/-- ACTIVE_LEASE_END: 8 ms after the last renewal sent (14 R421). -/
def activeLeaseEnd (d : Device) : Device :=
  let finished : Bool := match d.pair.lastSent with | some t => decide (t + msPs 8 ≤ d.now) | none => false
  if d.pair.role = .active ∧ finished then becomeFailed (replicationLost (raise sqPAIR 1 0x0E02 0 d)) else d

/-- A takeover begins (14 R432, R433, Table PAIR-7; 06 R201, 07 R242, 12 R371): what the old active had prepared and not switched
is discarded, and both journals are to be read. (log entry 30: DESIGN CHOICE) -/
def takeover (d : Device) : Device :=
  let d := pairCtr 2 (takeLease true d)
  let fl := { d.fwl with restartSec := d.fwl.fwSec, ct := relearnAll d.fwl.ct, graceEnd := some (d.now + 60000000000000), ctSync := false }
  let d := clearSwitch { d with
    fwl := fl, asd := { d.asd with replayDue := true }, pair := { d.pair with setups := [] }, ncp := { d.ncp with replayDue := true } }
  pubRestart d

/-- A position seen twice (14 R413): the lower device ID acts as position 0. -/
def notePosition (r : Renewal) (d : Device) : Device :=
  if r.position = position d then
    raise sqPAIR 10 0x0E0A 0 (modPair (fun p => { p with posOverride := some (decide (r.id.toNat < (ownId d).toNat)) }) d)
  else d

/-- The sender of a lease or election message is known, and its position held against the own one (14 R413, R423). -/
def noteSender (r : Renewal) (d : Device) : Device := notePosition r (modPair (fun p => { p with partnerId := some r.id }) d)

/-- The largest epoch a device knows (14 R426). -/
def noteEpoch (e : Word) (d : Device) : Device :=
  modPair (fun p => { p with epoch := if p.epoch.toNat < e.toNat then e else p.epoch }) d

/-- Two actives (14 R427): the higher epoch keeps the lease, at equal epochs position 0. The pin path carries no
epoch. (log entry 47: DESIGN CHOICE) -/
def dualActive (r : Option Renewal) (d : Device) : Device :=
  let d := raise sqPAIR 6 0x0E09 0 d
  let keep : Bool := match r with
    | some m => decide (m.epoch.toNat < d.pair.epoch.toNat) || (decide (m.epoch = d.pair.epoch) && !position d)
    | none => !position d
  if keep then d
  else
    let e : Word := match r with | some m => if d.pair.epoch.toNat < m.epoch.toNat then m.epoch else d.pair.epoch | none => d.pair.epoch
    replicationLost (setRole .standbySyncing (modPair (fun p => { p with armed := false, epoch := e }) d))

/-- LEASE_RENEWAL_RECEIVED on Wyusin with its message, or as a pin interval (14 R413, R422 to R427); a message of a sender that is not ACTIVE is
an election message, and renews nothing. (log entry 47: DESIGN CHOICE) -/
def leaseRenewalReceived (r : Option Renewal) (d : Device) : Device :=
  let election : Bool := match r with | some m => decide (m.role ≠ .active) | none => false
  if d.pair.role = .unpaired ∨ (r.isSome ∧ !d.pair.wyUp) then d
  else if election then match r with
    | some m => noteEpoch m.epoch (noteSender m d)
    | none => d
  else
    let now := d.now
    let d := match r with | some m => noteSender m d | none => d
    let d := pairCtr 1 d
    let d := match r with
      | some _ => modPair (fun p => { p with lastWy := some now }) d
      | none => modPair (fun p => { p with lastPin := some now, pinUp := true }) d
    let e : Word := match r with | some m => m.epoch | none => 0
    match d.pair.role with
    | .active => dualActive r d
    | .electing => noteEpoch e (setRole .standbySyncing (modPair (fun p => { p with electEnd := none }) d))
    | .failed => d
    | .unpaired => d
    | _ =>
      let d := noteEpoch e d
      match r with
      | some m => sendPartner 1 .renewalAck m.epoch.toNat m.number.toNat d
      | none => d

/-- Time of the last renewal on either path: received, or sent by a standby that was active (14 R424, R427). (log entry 47: DESIGN CHOICE) -/
def lastRenewal (p : PairState) : Nat := max (p.lastSent.getD 0) (max (p.lastWy.getD 0) (p.lastPin.getD 0))

/-- STANDBY_LEASE_EXPIRY: 9 ms after the later of the last renewals (14 R424). -/
def standbyLeaseExpiry (d : Device) : Device :=
  let last := lastRenewal d.pair
  if isStandby d ∧ last + msPs 9 ≤ d.now then takeover d else d

/-- YIELD_RECEIVED (14 R425, R433). -/
def yieldReceived (d : Device) : Device := if isStandby d then takeover d else d

/-- The watch for a renewal begins (14 R426). -/
def startElection (d : Device) : Device :=
  if d.cfg.pair.paired then
    let t := d.now + msPs (9 + (if position d then 4 else 0))
    let d := modPair (fun p => { p with role := .electing, electEnd := some t, lastWy := none, lastPin := none }) d
    sendPartner 1 .election d.pair.epoch.toNat 0 d
  else setRole .unpaired d

/-- ELECTION_WINDOW_EXPIRY (14 R426). -/
def electionWindowExpiry (d : Device) : Device :=
  match d.pair.electEnd with
  | some t => if d.pair.role = .electing ∧ t ≤ d.now then takeLease false d else d
  | none => d

/-- PARTNER_LOST: both lease paths silent while ACTIVE (14 R436, Table PAIR-11). (log entry 47: DESIGN CHOICE) -/
def partnerLost (d : Device) : Device :=
  let silent : Bool := match d.pair.lastAlive with | some t => decide (t + 2500000000 ≤ d.now) | none => true
  if d.pair.role = .active ∧ !d.pair.wyUp ∧ silent then
    partnerStops (raise sqPAIR 3 0x0E04 0 (modPair (fun p => { p with pinUp := false }) d))
  else d

/-- PATH_DOWN: the Wyusin path (14 R419), or the pin path falls silent (14 R424). Replication then ends under 06 R187. -/
def pathDown (pin : Bool) (d : Device) : Device :=
  if pin then
    if d.pair.pinUp then raise sqPAIR 5 0x0E06 0 (modPair (fun p => { p with pinUp := false }) d) else d
  else wyusinDown d

/-- STANDBY_ALIVE_EDGE: a standby's edge every 0.5 ms; as an active's LEASE_IN, the interval that means standby alive
(14 Table PAIR-4). -/
def standbyAliveEdge (d : Device) : Device :=
  if isStandby d then leaseEdge d
  else if d.pair.role = .active then
    let now := d.now
    modPair (fun p => { p with lastAlive := some now, pinUp := true }) d
  else d

/-! ### Wyusin (14 R415 to R417) -/

/-- A segment as received: its header of Table PAIR-2 and its bytes, or an idle acknowledgement, which has no header. `lane`: the lane of a
failed HCRC. `ack`: the partner's acknowledgement of a control channel by CSEQ (14 R418). `tag`: the SecTAG of the frame it starts, which stands
outside `data` (03 R68). `fcsOk`: the check of the frame it ends. `ncp`: the command journal record of the message on channel 6 that it ends
(16 R480). -/
structure Segment where
  header : Bytes
  data : Bytes := []
  lane : Nat := 0
  ack : Option (Nat × BitVec 16) := none
  tag : Option SecTag := none
  fcsOk : Bool := true
  ncp : Option NcpJRec := none
  deriving DecidableEq, Repr

/-! Fields of the segment header (14 Table PAIR-2). -/

def Segment.ch (s : Segment) : Nat := byteAt s.header 0 % 8
def Segment.start (s : Segment) : Bool := decide (128 ≤ byteAt s.header 1)
def Segment.last (s : Segment) : Bool := decide (byteAt s.header 1 / 64 % 2 = 1)
def Segment.tc (s : Segment) : Nat := byteAt s.header 1 % 8
def Segment.len (s : Segment) : Nat := beAt s.header 2 2
def Segment.cseq (s : Segment) : BitVec 16 := BitVec.ofNat 16 (beAt s.header 4 2)
def Segment.hcrcOk (s : Segment) : Bool := decide ((crc16 (s.header.take 6)).toNat = beAt s.header 6 2)

/-- What the Wyusin MAC can hand over: an idle acknowledgement, or a header and as many bytes as its LEN says, unless the HCRC fails. -/
def Segment.formed (s : Segment) : Bool :=
  (s.header.isEmpty && s.data.isEmpty) ||
  (decide (s.header.length = 8) && decide (s.data.length ≤ 256) && (!s.hcrcOk || (decide (0 < s.len) && decide (s.len = s.data.length))))

/-- Effect of a Wyusin lane's retirement: the path goes down (21 Table FLT-1). -/
def wyLaneRetired (d : Device) : Device := wyusinDown d

/-- A whole frame of channel 0 enters on port PL, its credit counted (14 R417), and is checked as any frame is (02 R58, 14 R415). -/
def plFrame (tc : Nat) (b : Bytes) (tag : Option SecTag) (fcsOk : Bool) (d : Device) : Device :=
  let n : Word := BitVec.ofNat 32 (cellsFor (max 64 (b.length + 4)))
  let d := modPair (fun p => { p with got := insertAt p.got tc (lookupD p.got tc 0 + n) }) d
  injectFrame 37 none none tag fcsOk b d

/-- The data of a segment: frames of channel 0 enter on port PL whole, those of a control channel reach the PAIR unit (14 R415, R416), which
acknowledges their segments (R418). -/
def segmentData (s : Segment) (d : Device) : Device :=
  let x := lookupD d.pair.rx s.ch {}
  let put (x : WyRx) (d : Device) : Device := modPair (fun p => { p with rx := insertAt p.rx s.ch x }) d
  if !s.start && !x.busy then d
  else
    let d := if s.ch = 0 then d else emit (.wyAck s.ch s.cseq) d
    let b := if s.start then s.data else x.bytes ++ s.data
    let tc := if s.start then s.tc else x.tc
    let tag := if s.start then s.tag else x.tag
    if s.last then
      let d := put { cseq := s.cseq } d
      if s.ch = 0 then plFrame tc b tag s.fcsOk d
      else match s.ncp with
        | some r => if s.ch = 6 then keepMirror r d else d
        | none => d
    else put { bytes := b, busy := true, tc := tc, cseq := s.cseq, tag := tag } d

/-- WYUSIN_SEGMENT (14 R415, R418): a failed HCRC ends the frame of its channel and counts a transient of its lane. -/
def wyusinSegment (s : Segment) (d : Device) : Device :=
  if !d.pair.wyUp then d
  else if !s.header.isEmpty && !s.hcrcOk then
    transient (24 + s.lane) 0x15F0 wyLaneRetired (modPair (fun p => { p with rx := insertAt p.rx s.ch {} }) d)
  else
    let d := match s.ack with | some (ch, c) => if ch = 0 then d else ackControl ch c d | none => d
    if s.header.isEmpty then d else segmentData s d

/-- CREDIT_LIMIT: a limit of the receiver (14 R417). -/
def creditLimit (tc : Nat) (l : Word) (d : Device) : Device :=
  if d.pair.wyUp then modPair (fun p => { p with limRx := insertAt p.limRx tc l }) d else d

/-- CREDIT_SEND: CREDIT_WIN and one more for each cell released from allotment (37, tc), not while it is exhausted
(14 R417). -/
def creditSend (d : Device) : Device :=
  if !d.pair.wyUp then d
  else (List.range 8).foldl (fun d tc =>
    let a := allotOf d (37 * 8 + tc)
    let l : Word := BitVec.ofNat 32 d.cfg.pair.creditWin + lookupD d.pair.got tc 0 - BitVec.ofNat 32 a.used
    let d := if a.exhausted then d else modPair (fun p => { p with limTx := insertAt p.limTx tc l }) d
    sendPartner 7 .credit tc (lookupD d.pair.limTx tc 0).toNat d) d

/-! ### Output comparison (14 R428 to R431) -/

/-- The 16 bytes of a decision record (14 Table PAIR-5). -/
def recordBytes (handle seq fcrc epoch : Nat) (egress : List Nat) (cls : DClass) (discarded : Bool) : Bytes :=
  let set := (List.range 38).foldl (fun n p => if egress.contains p then n + 2 ^ p else n) 0
  toBe 2 handle ++ toBe 2 seq ++ toBe 4 fcrc ++ toBe 2 epoch ++ toBe 5 set ++ toBe 1 (classNo cls * 32 + if discarded then 16 else 0)

def recDigest (r : CmpRec) (fcrc : Word) : BitVec 64 :=
  crc64 (recordBytes r.handle r.seq fcrc.toNat r.epoch.toNat r.egress r.cls r.discarded)

/-- Comparison runs (14 R430, R431). -/
def comparing (d : Device) : Bool :=
  !d.pair.suspended && !d.pair.testing && (decide (d.pair.role = .active) || decide (d.pair.role = .standbyReady))

/-- Number of the 100 µs window of the local clock that runs now (14 R429). (log entry 47: DESIGN CHOICE) -/
def windowNow (d : Device) : Word := BitVec.ofNat 32 (localNs d / 100000)

/-- DIGEST_WINDOW_CLOSE at the active (14 R429): the digest of the records that are complete; a frame that has not ended counts in the window in
which it does. Nothing is sent while comparison does not run (R430, R431). (log entry 47: DESIGN CHOICE) -/
def digestWindowClose (d : Device) : Device :=
  let n := windowNow d
  if n = d.pair.window then d
  else
    let w := d.pair.window
    let d := modPair (fun p => { p with window := n }) d
    if d.pair.role ≠ .active then d
    else
      let done := d.pair.recs.filter (fun r => r.fcrc.isSome)
      let open_ := d.pair.recs.filter (fun r => r.fcrc.isNone && (frameOf d r.frame).isSome)
      let listed := done.map (fun r => (r.handle, r.seq, r.fcrc.getD 0))
      let x := done.foldl (fun (a : BitVec 64) r => a ^^^ recDigest r (r.fcrc.getD 0)) 0
      let d := modPair (fun p => { p with recs := open_ }) d
      if comparing d && d.pair.partnerReady then
        postControl 2 (max 1 (min 1600 (Config.wyBytes 2 w.toNat))) (.digest w x listed) d
      else d

/-- Both devices test themselves (14 R430). -/
def startSelfTest (d : Device) : Device :=
  raise sqPAIR 7 0x0E07 0 (pairCtr 4 (modPair (fun p => { p with testing := true, ownVerdict := none, partnerVerdict := none, ccrVerdict := none }) d))

/-- The standby's digest of a listed frame: its own decision, or its stream table with the listed FCRC (14 R429). -/
def ownDigest (d : Device) (x : Nat × Nat × Word) : BitVec 64 :=
  match d.pair.recs.find? (fun r => decide (r.handle = x.1 ∧ r.seq = x.2.1)) with
  | some r => recDigest r (r.fcrc.getD 0)
  | none =>
    match lookup? d.cfg.sch.streams x.1 with
    | some s => crc64 (recordBytes x.1 x.2.1 x.2.2.toNat d.glb.cfgEpoch.toNat s.egress s.cls false)
    | none => 0

/-- DIGEST_COMPARE at the standby, DIGEST_LAG after a close: the digest's window, X_a and records (14 R429, R430). -/
def digestCompare (window : Word) (xa : BitVec 64) (recs : List (Nat × Nat × Word)) (d : Device) : Device :=
  if d.pair.role ≠ .standbyReady ∨ !comparing d then d
  else
    let xs := recs.foldl (fun (a : BitVec 64) x => a ^^^ ownDigest d x) 0
    let listed (r : CmpRec) : Bool := recs.any (fun x => decide (r.handle = x.1 ∧ r.seq = x.2.1))
    let stale (r : CmpRec) : Bool := decide (r.at_ + (d.cfg.pair.digestLagUs + 200) * 1000000 ≤ d.now)
    let unlisted := (d.pair.recs.filter (fun r => !listed r && stale r)).length
    let d := bumpBy (0x601000 + 6 * 8) unlisted (pairCtr 3 d)
    let d := modPair (fun p => { p with lastWin := window, recs := p.recs.filter (fun r => !listed r && !stale r) }) d
    if xs = xa then d else startSelfTest (sendPartner 2 .mismatch window.toNat 0 d)

/-- MISMATCH_NOTICE at the active (14 R430). -/
def mismatchNotice (d : Device) : Device := if d.pair.role = .active ∧ !d.pair.testing then startSelfTest d else d

/-- Unresolved mismatches suspend comparison (14 R431). -/
def countUnresolved (d : Device) : Device :=
  let times := (d.now :: d.pair.unresolved).filter (fun t => decide (d.now - t ≤ 60000000000000))
  let d := pairCtr 5 (modPair (fun p => { p with unresolved := times }) d)
  if d.cfg.pair.mismatchLimit ≤ times.length ∧ !d.pair.suspended then
    raise sqPAIR 9 0x0E0B 0 (modPair (fun p => { p with suspended := true }) d)
  else d

/-- A failed verdict of the own test: a hard fault of the device's ledger entry; the role follows from both verdicts
(14 R430, 21 Table FLT-1). -/
def actOnVerdicts (d : Device) : Device :=
  match d.pair.ownVerdict, d.pair.partnerVerdict with
  | some own, some other =>
    let d := modPair (fun p => { p with testing := false }) d
    if d.pair.takeover then d
    else if d.pair.role = .active then
      match own, other with
      | true, true => countUnresolved d
      | false, true => replicationLost (yieldLease true .failed d)
      | true, false => partnerStops d
      | false, false => partnerStops (modPair (fun p => { p with flagged := true }) d)
    else if isStandby d then
      match own, other with
      | true, true => countUnresolved d
      | false, _ => becomeFailed d
      | true, false => d
    else d
  | _, _ => d

/-- PAIR_SELFTEST_DONE (14 R430). -/
def pairSelftestDone (pass : Bool) (d : Device) : Device :=
  if !d.pair.testing then d
  else
    let pass := pass && d.pair.ccrVerdict.getD true
    let d := modPair (fun p => { p with ownVerdict := some pass }) d
    let d := sendPartner 2 .verdict (if pass then 1 else 0) 0 d
    let det := (if pass then 1 else 0) + (if d.pair.partnerVerdict = some true then 2 else 0)
    let d := raise sqPAIR 8 0x0E08 det d
    let d := actOnVerdicts (if pass then d else hardFault 156 0x0E08 id d)
    -- without a partner to hear from, or in a takeover, the test has ended (14 R433)
    if d.pair.wyUp && !d.pair.takeover then d else modPair (fun p => { p with testing := false }) d

/-- PARTNER_VERDICT (14 R430). -/
def partnerVerdictRow (pass : Bool) (d : Device) : Device :=
  if !d.pair.testing then d else actOnVerdicts (modPair (fun p => { p with partnerVerdict := some pass }) d)

/-- COMPARE_RESUME (14 R431). -/
def compareResume (d : Device) : Device := modPair (fun p => { p with suspended := false, unresolved := [] }) d

/-! ### Takeover's end and joining (14 R432, R434) -/

/-- TAKEOVER_DONE (14 R432). -/
def takeoverDone (d : Device) : Device :=
  if d.pair.takeover then reviewProt (raise sqPAIR 2 0x0E03 0 (modPair (fun p => { p with takeover := false }) d)) else d

/-- PARTNER_READY: resynchronisation steps 1 to 3 are done; replication begins (14 R434). A device that is UNCOMPARED or IMPAIRED
yields now (15 R453, 21 R590). -/
def partnerReady (d : Device) : Device :=
  if !d.pair.wyUp then d
  else if d.pair.role = .standbySyncing then reviewProt (raise sqPAIR 4 0x0E05 0 (setRole .standbyReady d))
  else if d.pair.role = .active then
    let d := raise sqPAIR 4 0x0E05 0 (modPair (fun p => { p with partnerReady := true }) d)
    let d := mirrorJournal (reviewProt { d with asd := { d.asd with replicating := true, lastAck := d.now } })
    if d.ccr.mode = .uncompared then replicationLost (yieldLease true .failed d)
    else if d.flt.impaired then replicationLost (yieldLease true .standbySyncing d)
    else d
  else d

/-- COMMIT_WAIT_EXPIRY: the active commits alone, its standby starts again (14 R434). -/
def commitWaitExpiry (d : Device) : Device :=
  match d.pair.exchange with
  | some t =>
    if d.pair.role = .active ∧ t ≤ d.now then
      let d := modPair (fun p => { p with exchange := none }) d
      partnerStops (raise sqPAIR 11 0x0E0C 0 (sendPartner 5 .resync d.glb.cfgEpoch.toNat 0 d))
    else d
  | none => d

/-- SWITCHOVER (14 R425): the active with a ready partner yields. (log entry 47: DESIGN CHOICE) -/
def switchover (d : Device) : Device := replicationLost (yieldLease true .standbySyncing d)

/-- A device that becomes IMPAIRED: an active with a ready partner switches over (21 R590). -/
def enterImpaired (d : Device) : Device :=
  let d' := noteImpaired d
  if !d.flt.impaired ∧ d'.flt.impaired ∧ d'.pair.role = .active ∧ d'.pair.partnerReady then switchover d' else d'

end Sys2Proof.Machine
end

