-- ==== Sys2Proof/Machine/CcrOps.lean ====
section
/-! DEFINITION. The control complex (15): windows and signatures, mismatch and self-test, the uncompared and halted states, the
comparator's run-time test, the debugger, the Gailalum core's integrity. -/

namespace Sys2Proof.Machine

def modCcr (g : CcrState → CcrState) (d : Device) : Device := { d with ccr := g d.ccr }

/-- CCR counter k (15 R461). -/
def ccrCtr (k : Nat) (d : Device) : Device := bump (0x641000 + k * 8) d

/-- A record as Table CCR-1 lays it out. -/
def txnBytes (t : CcrTxn) : Bytes := toBe 1 t.kind ++ toBe 1 t.data.length ++ toBe 2 t.part ++ toBe 4 t.dest.toNat ++ t.data

/-- A transaction that the release buffer takes: a kind of Table CCR-1, 1 to 64 data bytes (15 R443). -/
def txnOk (t : CcrTxn) : Bool := decide (1 ≤ t.kind ∧ t.kind ≤ 6 ∧ t.part < 65536 ∧ 1 ≤ t.data.length ∧ t.data.length ≤ 64)

/-- A window as it can close: at most 256 transactions, as many where their count closes it (15 R444). -/
def windowOk (by_ : CloseBy) (ts : List CcrTxn) : Bool :=
  ts.all txnOk && decide (1 ≤ ts.length ∧ ts.length ≤ 256) && (decide (by_ ≠ .count) || decide (ts.length = 256))

/-- A window's signature (15 R444). (log entry 49: DEDUCED) -/
def signature (ts : List CcrTxn) : BitVec 64 := crc64 (ts.flatMap txnBytes)

def releaseTxns (ts : List CcrTxn) (d : Device) : Device := if ts.isEmpty then d else emit (.ccr ts) d

/-- A debugger action takes effect on a core (15 R458). (log entry 49: DEDUCED) -/
def applyAct (a : DebugAct) (c : CoreState) : CoreState :=
  match a with
  | .halt => { c with halted := true }
  | .resume => { c with halted := false }
  | .step => { c with halted := true }
  | .breakpoint x => { c with breaks := c.breaks ++ [x] }
  | .regWrite r v => { c with regs := insertAt c.regs r v }
  | .tcmWrite x v => { c with tcm := insertAt c.tcm x v }

/-- The cores stop: the last refresh of the BYPASS_EN watchdog is at most now (09 R301). (log entry 46: DESIGN CHOICE) -/
def coresStop (d : Device) : Device := { d with top := { d.top with lastRefresh := d.now } }

/-- What forbids a confirmation of a trial image happens (20 R572). -/
def confirmAgain (d : Device) : Device := { d with boot := { d.boot with cleanSince := d.boot.cleanSince.map (fun _ => d.now) } }

/-- HALTED (15 R452, Table CCR-2; 12 R360). -/
def enterHalted (d : Device) : Device :=
  let d := coresStop (modCcr (fun c => { c with mode := .halted, held := [], shadow := [] }) d)
  let d := confirmAgain { d with gw := { d.gw with stopped := true }, sec := { d.sec with everUncompared := true } }
  noteImpaired (raise sqCCR 4 0x0F05 0 d)

/-- UNCOMPARED on a core (15 R452, R453). -/
def enterUncompared (core1 : Bool) (d : Device) : Device :=
  let d := modCcr (fun c => { c with mode := .uncompared, onCore1 := core1 }) d
  let d := confirmAgain { d with sec := { d.sec with everUncompared := true } }
  let d := raise sqCCR 3 0x0F04 0 d
  if d.cfg.ccr.uncompHalt then enterHalted d
  else
    let d := noteImpaired d
    if d.pair.role = .active then if d.pair.partnerReady then replicationLost (yieldLease true .failed d) else d
    else if isStandby d then becomeFailed d
    else d

/-- A mismatch (15 R446): causes 1 SIG, 2 PARITY, 3 TCM, 4 TIMEOUT. -/
def mismatch (cause : Nat) (main checker : List CcrTxn) (d : Device) : Device :=
  let d := coresStop (modCcr (fun c => { c with
    mode := .selfTest, cause := cause, mmWin := c.window, held := c.held ++ main, shadow := checker }) d)
  raise sqCCR 0 0x0F01 cause (ccrCtr 3 d)

/-- The checker takes the actions of the delay FIFO (15 R441, R458). -/
def drainFifo (d : Device) : Device :=
  modCcr (fun c => { c with core1 := c.fifo.foldl (fun k a => applyAct a k) c.core1, fifo := [] }) d

/-- CHECKER_WINDOW_CLOSE: how the window closed, core 0's transactions, the checker's, and whether an entry of the delay
FIFO failed its parity (15 R444 to R446). (log entry 49: DEDUCED) -/
def checkerWindowClose (by_ : CloseBy) (main checker : List CcrTxn) (parity : Bool) (lag : Nat) (d : Device) : Device :=
  if d.ccr.mode ≠ .compared ∨ d.ccr.reloading then d
  else
    let d := drainFifo (modCcr (fun c => { c with lag := lag, peakLag := max c.peakLag lag }) d)
    let d := match by_ with | .count => d | .checkpoint => ccrCtr 1 d | .time => ccrCtr 2 d
    if parity then mismatch 2 main checker d
    else if signature main = signature checker then
      releaseTxns main (ccrCtr 0 (modCcr (fun c => { c with lastWin := c.window, window := c.window + 1 }) d))
    else mismatch 1 main checker d

/-- CHECKER_TIMEOUT (15 R446). -/
def checkerTimeout (main : List CcrTxn) (d : Device) : Device :=
  if d.ccr.mode ≠ .compared ∨ d.ccr.reloading then d else mismatch 4 main [] d

/-- An uncorrected TCM error (15 R439), but for the split core's, which is a sandbox fault. -/
def tcmUncorrected (core1 : Bool) (main : List CcrTxn) (d : Device) : Device :=
  match d.ccr.mode with
  | .compared => mismatch 3 main [] d
  | .split => if core1 then d else enterHalted d
  | .uncompared => if core1 = d.ccr.onCore1 then enterHalted d else d
  | _ => d

/-- Debugger actions that waited for the end of a self-test (15 Table CCR-4). -/
def applyQueued (d : Device) : Device :=
  modCcr (fun c => { c with core0 := c.debugQ.foldl (fun k a => applyAct a k) c.core0, fifo := c.fifo ++ c.debugQ, debugQ := [] }) d

/-- Retired elements decide (15 Table CCR-2); with none retired, the cause does. (log entry 49: DEDUCED) -/
def settleCcr (d : Device) : Device :=
  let c := d.ccr
  let drop := modCcr (fun c => { c with held := [], shadow := [] })
  if (c.ret0 && c.ret1) || (c.ret0 && c.retCmp) then enterHalted d
  else if c.ret0 then enterUncompared true (drop (releaseTxns c.shadow d))
  else if c.ret1 || c.retCmp then enterUncompared false (drop (releaseTxns c.held d))
  else if c.cause = 2 then
    drop (releaseTxns c.held (ccrCtr 6 (modCcr (fun c => { c with mode := .compared, reloading := true, window := c.window + 1 }) d)))
  else confirmAgain (drop (modCcr (fun c => { c with mode := .restarting }) d))

/-- CCR_SELFTEST_DONE: verdicts of core 0, core 1, the delay path and the comparator (15 R447), which a self-test of the pair that runs uses
too (15 Table CCR-4). -/
def ccrSelftestDone (p0 p1 pd pc : Bool) (d : Device) : Device :=
  if d.ccr.mode ≠ .selfTest then d
  else
    let v : BitVec 4 := (if p0 then 0 else 1) ||| (if p1 then 0 else 2) ||| (if pd then 0 else 4) ||| (if pc then 0 else 8)
    let d := raise sqCCR 1 0x0F02 v.toNat (modCcr (fun c => { c with verdicts := v }) d)
    let r0 := modCcr (fun c => { c with ret0 := true })
    let r1 := modCcr (fun c => { c with ret1 := true })
    let rc := modCcr (fun c => { c with retCmp := true })
    let d := if p0 then d else hardFault 144 0x0F02 r0 d
    let d := if p1 then d else hardFault 145 0x0F02 r1 d
    let d := if pd && pc then d else hardFault 146 0x0F02 rc d
    let d := if d.pair.testing then { d with pair := { d.pair with ccrVerdict := some (p0 && p1 && pd && pc) } } else d
    let d := if p0 && p1 && pd && pc then transient 145 0x0F01 r1 (transient 144 0x0F01 r0 d) else d
    settleCcr (applyQueued d)

/-- CHECKER_RELOAD_DONE (15 R449). -/
def checkerReloadDone (d : Device) : Device :=
  if d.ccr.reloading then
    raise sqCCR 5 0x0F06 0 (ccrCtr 4 (modCcr (fun c => { c with core1 := c.core0, fifo := [], reloading := false }) d))
  else d

/-- A failed comparator test (15 R451, Table CCR-2). -/
def compTestFail (d : Device) : Device :=
  let d := raise sqCCR 2 0x0F03 0 d
  let d := hardFault 146 0x0F03 (modCcr (fun c => { c with retCmp := true })) d
  enterUncompared false d

/-- COMP_TEST_SLOT (15 R451). -/
def compTestSlot (ok : Bool) (d : Device) : Device :=
  if d.ccr.mode ≠ .compared then d
  else
    let d := modCcr (fun c => { c with slot := (c.slot + 1) % 64 }) d
    if ok then ccrCtr 7 d else compTestFail d

/-- The debugger may reach the cores (18 DBG_LOCK, 19 Table SEC-3). -/
def debugAllowed (d : Device) : Bool :=
  !d.glb.lock.getLsbD 2 && (decide (d.otp.lc = 0) || decide (d.otp.lc = 1) || decide (d.otp.lc = 3) || (decide (d.otp.lc = 2) && d.sec.debugTicket))

/-- DEBUG_ATTACH (15 R458). -/
def debugAttach (d : Device) : Device :=
  if debugAllowed d then
    raise sqCCR 9 0x0F0B 0 { d with ccr := { d.ccr with debug := true }, sec := { d.sec with debugSeen := true } }
  else d

/-- DEBUG_ACTION on a core (15 R458): in Paired-core mode on core 0 alone, through the delay FIFO. (log entry 49: DEDUCED) -/
def debugAction (core1 : Bool) (a : DebugAct) (d : Device) : Device :=
  if !d.ccr.debug ∨ !debugAllowed d ∨ (core1 ∧ !d.ccr.split) then d
  else if d.ccr.mode = .selfTest then modCcr (fun c => { c with debugQ := c.debugQ ++ [a] }) d
  else
    let d := if core1 then modCcr (fun c => { c with core1 := applyAct a c.core1 }) d
      else modCcr (fun c => { c with core0 := applyAct a c.core0 }) d
    let d := if !core1 ∧ a = .halt then coresStop d else d
    if d.ccr.mode = .compared then modCcr (fun c => { c with fifo := c.fifo ++ [a] }) d else d

/-- The Gailalum core stops (15 R459). -/
def gailalumStop (d : Device) : Device :=
  if d.ccr.gaiStopped then d
  else
    let d := raise sqCCR 8 0x0F0A 0 d
    confirmAgain (hardFault 147 0x0F0A (modCcr (fun c => { c with gaiStopped := true })) d)

/-- GAILALUM_KAT (15 R459). -/
def gailalumKat (ok : Bool) (d : Device) : Device := if ok then d else gailalumStop d

/-- The complex starts: its mode, which holds until the next cold reset, and the comparator's start-up test (15 R440, R450, R455). -/
def startComplex (compOk : Bool) (d : Device) : Device :=
  let mode := d.boot.coreMode.getD (if d.otp.lc = 1 then (d.boot.coreStrap, true) else (d.otp.splitMode, false))
  let split := mode.1
  let d := { d with boot := { d.boot with coreMode := some mode } }
  let d := modCcr (fun c => { c with
    mode := if split then .split else .compared, split := split, fromStrap := mode.2, onCore1 := false, splitStopped := true, debug := false,
    held := [], shadow := [], window := 0, lastWin := 0, fifo := [], debugQ := [], reloading := false, slot := 0, lag := 0,
    core0 := {}, core1 := {} }) d
  if split then event 0x0F09 0 d
  else if d.ccr.ret0 ∨ d.ccr.ret1 ∨ d.ccr.retCmp then settleCcr d
  else if compOk then d else compTestFail d

end Sys2Proof.Machine
end

