-- ==== Sys2Proof/Machine/Admission.lean ====
section
/-! DEFINITION. The admission checker (05 R159 to R171): the terms of Table SCH-6 in whole picoseconds, serving
windows by rounds, Table SCH-7 refusals, reservations. Everything here is a function of a configuration and of
the effective link-delay bounds. -/

namespace Sys2Proof.Machine

/-- A failing check of a commit: NCP status, reason, and the record of Table SCH-8. -/
structure Reject where
  status : BitVec 16
  reason : BitVec 16 := 0
  handle : Nat := 65535
  port : Nat := 0
  window : Nat := 255
  value : Nat := 0
  bound : Nat := 0
  deriving DecidableEq, Repr

/-! ### Wire times and latencies (02 Table FWD-7; 05 Table SCH-6) -/

/-- Time of `n` bytes at `rate` Mb/s in ps. -/
def byteTime (n rate : Nat) : Nat := ceilDiv (n * 8000000) (max 1 rate)

/-- Rate at which a frame is received on a port (02 R60: PL counts as 25 Gb/s). -/
def rateIn (c : Cfg) (p : Nat) : Nat := if p = 37 then 25000 else (cfgPort c p).rate

/-- Column of Table FWD-7: 0 backbone at 25 Gb/s, 1 access or slower backbone, 2 PL, 3 MG0. -/
def latCol (c : Cfg) (p : Nat) : Nat :=
  if p = 37 then 2 else if p = 24 then 3 else if p < 8 ∧ (cfgPort c p).rate = 25000 then 0 else 1

/-- A figure of Table FWD-7 by its column, in ps. -/
def pick4 (col a b c d : Nat) : Nat := if col = 0 then a else if col = 1 then b else if col = 2 then c else d

/-- Cut-through latency of a port pair (02 R61: Table FWD-8 is the sum of Table FWD-7), in ps. -/
def pairLatency (c : Cfg) (pin pout : Nat) (secIn secOut : Bool) : Nat :=
  let i := latCol c pin
  let o := latCol c pout
  let r := rateIn c pin
  pick4 i 33280 51200 38400 40000 + pick4 i 20480 (byteTime 64 r) 23040 512000
    + (if secIn then pick4 i 5120 (byteTime 16 r) 5120 128000 + pick4 i 20480 25600 20480 25600 else 0)
    + pick4 i 4160 8000 4160 9600 + 30400 + 48000 + 21600
    + pick4 o 5920 13600 5920 16800 + (if secOut then pick4 o 17920 19200 17920 19200 else 0)
    + pick4 o 25600 38400 28160 32000

def hasSecy (c : Cfg) (p : Nat) : Bool := c.msc.secys.any (fun x => x.2.port = p)

/-- X of R161: 32 bytes with egress MACsec. -/
def expandX (c : Cfg) (p : Nat) : Nat := if hasSecy c p then 32 else 0

/-- Wire time of a frame of L bytes on an egress port. -/
def wireTime (c : Cfg) (p l : Nat) : Nat := byteTime (l + 20 + expandX c p) (cfgPort c p).rate

/-- R56 allows cut-through between the ports of a stream. -/
def streamCuts (c : Cfg) (s : StreamCfg) (p : Nat) : Bool :=
  decide (s.cls = .scheduled) && decide (s.ingress ≠ 37) && decide ((cfgPort c p).rate ≤ (cfgPort c s.ingress).rate)

def tPipe (c : Cfg) (s : StreamCfg) (p : Nat) : Nat :=
  pairLatency c s.ingress p false false + 5600 +
    (if streamCuts c s p then 0 else byteTime (s.maxSdu - 64) (rateIn c s.ingress) + 19200)

def tSec (c : Cfg) (s : StreamCfg) (p : Nat) : Nat :=
  let mi := hasSecy c s.ingress
  pairLatency c s.ingress p mi (hasSecy c p) - pairLatency c s.ingress p false false
    + byteTime (expandX c p) (cfgPort c p).rate
    + (if mi && !streamCuts c s p then byteTime 16 (rateIn c s.ingress) else 0)

def tSer (c : Cfg) (s : StreamCfg) (p : Nat) : Nat := byteTime s.maxSdu (cfgPort c p).rate

/-- Effective link-delay bound of a port under a configuration, in ps (05 R170). -/
def boundFor (c : Cfg) (d : Device) (p : Nat) : Nat :=
  let lb := (cfgPort c p).linkBoundNs * 1000
  let st := portSt d p
  if 16 ≤ st.pdelayCount then max lb st.pdelayMaxPs else lb

/-! ### Gates of a class -/

/-- An open interval of a class's gate in one cycle (05 R162): it may run past the cycle's end. -/
structure Window where
  start : Nat
  stop : Nat
  idx : Nat
  /-- the gate never closes -/
  full : Bool := false
  /-- T_blk, with T_block once more for express queues open inside the window -/
  tblk : Nat := 0
  deriving DecidableEq, Repr

/-- Open runs of a list in order, in ps. -/
def openRuns (tc : Nat) : List GclEntry → Nat → Nat → List Window → List Window
  | [], _, _, acc => acc.reverse
  | e :: es, i, at_, acc =>
    let stop := at_ + e.intervalNs * 1000
    if e.gates.getLsbD tc then
      match acc with
      | w :: ws => if w.stop = at_ then openRuns tc es (i + 1) stop ({ w with stop := stop } :: ws)
                   else openRuns tc es (i + 1) stop ({ start := at_, stop := stop, idx := i } :: acc)
      | [] => openRuns tc es (i + 1) stop [{ start := at_, stop := stop, idx := i }]
    else openRuns tc es (i + 1) stop acc

def cyclePs (g : Gcl) : Nat := g.cycleNs * 1000

/-- The open intervals of a class in a cycle; one that reaches the cycle's end joins the one at its start. -/
def openWindows (g : Gcl) (tc : Nat) : List Window :=
  let ws := openRuns tc g.entries 0 0 []
  match ws, ws.getLast? with
  | [w], _ => if w.start = 0 ∧ w.stop = cyclePs g then [{ w with full := true }] else [w]
  | w :: rest, some l =>
    if w.start = 0 ∧ l.stop = cyclePs g then rest.dropLast ++ [{ l with stop := l.stop + w.stop }] else ws
  | _, _ => ws

/-- Open time of a class's gate in one cycle, and the cycle, in ns (05 R154): F is their quotient. -/
def openShare (c : Cfg) (p tc : Nat) : Nat × Nat :=
  match lookup? c.sch.lists p with
  | none => (1, 1)
  | some g => (((g.entries.filter (fun e => e.gates.getLsbD tc)).map (·.intervalNs)).sum, g.cycleNs)

/-- Longest closed interval of a class's gate, in ps (05 Table SCH-6). -/
def longestClosed (c : Cfg) (p tc : Nat) : Nat :=
  match lookup? c.sch.lists p with
  | none => 0
  | some g =>
    let ws := openWindows g tc
    match ws with
    | [] => cyclePs g
    | w :: _ =>
      if w.full then 0
      else ((ws.zip (ws.drop 1 ++ [{ w with start := w.start + cyclePs g }])).map (fun x => x.2.start - x.1.stop)).foldl max 0

/-! ### Blocking -/

/-- Preemption counts as active wherever it is enabled (05 R151). -/
def preemptOn (c : Cfg) (p : Nat) : Bool := (cfgPort c p).preempt.enabled

/-- Express on a port: not preemptable, or preemption inactive (05 R161). -/
def expressTc (c : Cfg) (p tc : Nat) : Bool := !(preemptOn c p && (cfgPort c p).preempt.preemptable.getLsbD tc)

def openTogether (c : Cfg) (p a b : Nat) : Bool :=
  match lookup? c.sch.lists p with
  | none => true
  | some g => g.entries.any (fun e => e.gates.getLsbD a && e.gates.getLsbD b)

def tHold (c : Cfg) (p : Nat) : Nat := byteTime 144 (cfgPort c p).rate

/-- Streams of a class of delivery on a port and traffic class. -/
def streamsAt (c : Cfg) (p tc : Nat) : List (Nat × StreamCfg) :=
  c.sch.streams.filter (fun x => (x.2.cls = .scheduled ∨ x.2.cls = .reserved) ∧ x.2.egress.contains p ∧ x.2.tc = tc)

/-- Longest frame of a queue for T_block (05 R161): `none` for a Scheduled queue without streams. -/
def longestFrame (c : Cfg) (p tc : Nat) : Option Nat :=
  if (queueCfg c (p * 8 + tc)).cls = .scheduled then
    match streamsAt c p tc with
    | [] => none
    | l => some ((l.map (fun x => x.2.maxSdu)).foldl max 0)
  else some 9216

def tBlock (c : Cfg) (p tc : Nat) : Nat :=
  let b := ((List.range 8).map (fun k =>
    if k ≠ tc ∧ expressTc c p k ∧ openTogether c p tc k then
      (match longestFrame c p k with | some l => wireTime c p l | none => 0)
    else 0)).foldl max 0
  if preemptOn c p then max b (tHold c p) else b

/-- R143 keeps the port free at a window's start: no other class that is open just before the window stays open
into it, and with preemption active no preemptable class is open just before it. -/
def portFree (c : Cfg) (p tc : Nat) (g : Gcl) (idx : Nat) : Bool :=
  let n := g.entries.length
  match g.entries[(idx + n - 1) % max 1 n]?, g.entries[idx]? with
  | some a, some b => (List.range 8).all (fun k =>
      decide (k = tc) || !a.gates.getLsbD k || (expressTc c p k && !b.gates.getLsbD k))
  | _, _ => true

/-- Two windows of the classes of one list share time in some cycle. -/
def overlaps (g : Gcl) (v w : Window) : Bool :=
  [(0, 0), (cyclePs g, 0), (0, cyclePs g)].any (fun s => decide (v.start + s.1 < w.stop + s.2) && decide (w.start + s.2 < v.stop + s.1))

/-- The windows of a class on a port with T_blk (05 R162), to which express queues open inside the window add T_block once more.
(log entry 78: DEDUCED) -/
def windowsOf (c : Cfg) (p tc : Nat) (g : Gcl) : List Window :=
  let tb := tBlock c p tc
  (openWindows g tc).map (fun w =>
    let hold := preemptOn c p && (match g.entries[w.idx]? with | some e => e.isHold | none => false)
    let blk := if w.full then 0
      else if hold then tHold c p - (cfgPort c p).holdAdvanceNs * 1000
      else if portFree c p tc g w.idx then 0 else tb
    let others := (List.range 8).any (fun k => decide (k ≠ tc) && expressTc c p k && (longestFrame c p k).isSome &&
      (openWindows g k).any (fun v => overlaps g v w))
    { w with tblk := blk + (if others then tb else 0) })

/-! ### Serving windows (05 R162) -/

/-- Windows in the order of time: number, start, end, and the window. -/
abbrev Slots := List (Nat × Nat × Nat × Window)

/-- The windows of six cycles of a list. -/
def slotsOf (ws : List Window) (cyc : Nat) : Slots :=
  (List.range 6).flatMap (fun k => ws.zipIdx.map (fun x => (x.2, x.1.start + k * cyc, x.1.stop + k * cyc, x.1)))

/-- The first window that serves eligibility `e` with an interference and a wire time (05 R162). -/
def serveIn (all : Slots) (e ti wt : Nat) : Option (Nat × Nat × Nat × Window) :=
  all.find? (fun x => decide (e < x.2.2.1) &&
    (x.2.2.2.full || decide (max e (x.2.1 + x.2.2.2.tblk) + ti + wt ≤ x.2.2.1)))

/-- Number, start and end of the window that serves `e`, an instant of the second cycle. -/
def serve (ws : List Window) (cyc e ti wt : Nat) : Option (Nat × Nat × Nat) :=
  (serveIn (slotsOf ws cyc) e ti wt).map (fun x => (x.1, x.2.1, x.2.2.1))

/-- The largest w + T_blk − e over the eligibility instants from `e` to `hi`: at the first of them and at the first that each later window
serves (05 R162). -/
def waitMax (all : Slots) (ti wt hi : Nat) : Nat → Nat → Nat
  | 0, _ => 0
  | n + 1, e =>
    match serveIn all e ti wt with
    | none => 0
    | some x =>
      let w := (x.2.1 + x.2.2.2.tblk) - e
      let last := x.2.2.1 - (ti + wt)
      if x.2.2.2.full || decide (hi ≤ last) || decide (last < e) then w else max w (waitMax all ti wt hi n (last + 1))

/-- A Scheduled stream on a port with its eligibility range, moved into the second listed cycle. -/
structure Elig where
  h : Nat
  s : StreamCfg
  lo : Nat
  hi : Nat
  wt : Nat
  deriving DecidableEq, Repr

def eligOf (c : Cfg) (d : Device) (p : Nat) (g : Gcl) (x : Nat × StreamCfg) : Elig :=
  let base := boundFor c d x.2.ingress + tPipe c x.2 p
  let lo := (x.2.departLo * 1000 + base) % max 1 (cyclePs g) + cyclePs g
  { h := x.1, s := x.2, lo := lo, hi := lo + (x.2.departHi - x.2.departLo) * 1000, wt := wireTime c p x.2.maxSdu }

/-- Serving windows of a stream's earliest and latest eligibility. -/
abbrev Serving := Option (Nat × Nat × Nat) × Option (Nat × Nat × Nat)

/-- T_int of a Scheduled stream from an assignment of windows (05 R163). -/
def tInt (g : Gcl) (es : List (Elig × Serving)) (e : Elig) (win : Option Nat) : Nat :=
  match win with
  | none => 0
  | some j =>
    let w := (openWindows g e.s.tc)[j]?
    let own := (e.s.frames - 1) * e.wt
    let same := (es.map (fun x =>
      if x.1.h ≠ e.h ∧ x.1.s.tc = e.s.tc ∧ (x.2.1.map (·.1)) = some j then x.1.s.frames * x.1.wt else 0)).sum
    let higher := (es.map (fun x =>
      if decide (e.s.tc < x.1.s.tc) && (match w with
          | none => false
          | some w => (openWindows g x.1.s.tc).any (fun v => overlaps g v w))
      then x.1.s.frames * x.1.wt else 0)).sum
    own + same + higher

/-- One round: windows from the T_int of the previous round. -/
def nextRound (c : Cfg) (p : Nat) (g : Gcl) (es : List (Elig × Serving)) (first : Bool) : List (Elig × Serving) :=
  es.map (fun x =>
    let ti := if first then 0 else tInt g es x.1 (x.2.1.map (·.1))
    let ws := windowsOf c p x.1.s.tc g
    (x.1, (serve ws (cyclePs g) x.1.lo ti x.1.wt, serve ws (cyclePs g) x.1.hi ti x.1.wt)))

/-- Streams whose windows differ between two rounds. -/
def changedIn (a b : List (Elig × Serving)) : List Nat :=
  (a.zip b).filterMap (fun x => if x.1.2 = x.2.2 then none else some x.1.1.h)

/-- Rounds until no window changes (05 R162): the assignment, and the streams that the last round still changed. -/
def rounds (c : Cfg) (p : Nat) (g : Gcl) : Nat → List (Elig × Serving) → List Nat → List (Elig × Serving) × List Nat
  | 0, es, ch => (es, ch)
  | n + 1, es, _ =>
    let es' := nextRound c p g es false
    if es' = es then (es, []) else rounds c p g n es' (changedIn es' es)

/-- Round 1 takes T_int = 0; at most 63 follow. -/
def assign (c : Cfg) (d : Device) (p : Nat) (g : Gcl) : List (Elig × Serving) × List Nat :=
  let ss := c.sch.streams.filter (fun x => x.2.cls = .scheduled ∧ x.2.egress.contains p)
  rounds c p g 63 (nextRound c p g (ss.map (fun x => (eligOf c d p g x, (none, none)))) true) []

/-- T_gate (05 R162): the largest wait over the eligibility range; a stream that no window serves waits for none. -/
def tGate (ws : List Window) (cyc : Nat) (e : Elig) (ti : Nat) (sv : Serving) : Nat :=
  if sv.1.isNone then 0 else waitMax (slotsOf ws cyc) ti e.wt e.hi (6 * ws.length) e.lo

/-- Bound of a stream on a port, its window's first entry, and the overbooking checks of R164. -/
structure PortBound where
  h : Nat
  p : Nat
  bound : Nat
  window : Nat
  deriving DecidableEq, Repr

/-- Scheduled streams of one port under one list: bounds and failing checks. -/
def schedPort (c : Cfg) (d : Device) (p : Nat) (g : Gcl) : List PortBound × List Reject :=
  let a := assign c d p g
  let es := a.1
  let per : List (PortBound × List Reject) := es.map (fun (x : Elig × Serving) =>
    let e := x.1
    let ws := windowsOf c p e.s.tc g
    let ti := tInt g es e (x.2.1.map (·.1))
    let idx := (x.2.1.bind (fun y => ws[y.1]?)).map (·.idx)
    let b := boundFor c d e.s.ingress + tPipe c e.s p + tGate ws (cyclePs g) e ti x.2 + ti + tSer c e.s p + tSec c e.s p
    let finished : List Reject :=
      match x.2.1 with
      | none =>
        if ws.isEmpty then [{ status := 0x0201, reason := 0x0527, handle := e.h, port := p }]
        else [{ status := 0x0201, reason := 0x0522, handle := e.h, port := p, bound := b,
                value := ti + e.wt - (ws.map (fun w => w.stop - w.start - w.tblk)).foldl max 0 }]
      | some (j, _, stop) =>
        if ((ws[j]?).map (·.full)).getD false then []
        else if x.2.2.map (fun y => (y.1, y.2.1)) ≠ x.2.1.map (fun y => (y.1, y.2.1)) ∨ stop < e.hi + ti + e.wt then
          [{ status := 0x0201, reason := 0x0522, handle := e.h, port := p, window := idx.getD 255,
             value := e.hi + ti + e.wt - stop, bound := b }]
        else []
    let late : List Reject := if x.2.1.isSome && decide (e.s.budgetPs < b) then
      [{ status := 0x0201, reason := 0x0521, handle := e.h, port := p, window := idx.getD 255, value := b - e.s.budgetPs, bound := b }] else []
    (({ h := e.h, p := p, bound := b, window := idx.getD 255 } : PortBound), finished ++ late))
  let loops := a.2.map (fun h => ({ status := 0x0201, reason := 0x0522, handle := h, port := p } : Reject))
  let wins := (List.range 8).flatMap (fun tc =>
    (windowsOf c p tc g).zipIdx.flatMap (fun w =>
      let dem := (es.map (fun x => if x.1.s.tc = tc ∧ (x.2.1.map (·.1)) = some w.2 then x.1.s.frames * x.1.wt else 0)).sum
      let cap := w.1.stop - w.1.start - w.1.tblk
      if cap < dem then [({ status := 0x0201, reason := 0x0522, port := p, window := w.1.idx, value := dem - cap } : Reject)] else []))
  (per.map (·.1), loops ++ wins ++ per.flatMap (·.2))

/-! ### Reserved streams (05 Table SCH-6, R153, R154) -/

def idleSlopeOf (c : Cfg) (p tc : Nat) : Nat := (cfgPort c p).idleSlope.getD tc 0

/-- T_int of a Reserved stream in ps, rounded up: the wire bytes of the class over IDLE_SLOPE × F, plus the higher
class's hiCredit and longest frame (hiCredit = largest interfering frame × IDLE_SLOPE / rate, 802.1Q Annex L.3). (log entry 26: PRESUMED) -/
def reservedInt (c : Cfg) (p : Nat) (x : Nat × StreamCfg) : Nat :=
  let rate := (cfgPort c p).rate
  let w (l : Nat) : Nat := l + 20 + expandX c p
  let bits := ((streamsAt c p x.2.tc).map (fun y => y.2.frames * w y.2.maxSdu)).sum * 8 - w x.2.maxSdu * 8
  let sh := openShare c p x.2.tc
  -- bits / (slope kb/s × open / cycle), in ps: bits × cycle × 10^9 / (slope × open)
  let n1 := bits * sh.2 * 1000000000
  let d1 := max 1 (idleSlopeOf c p x.2.tc * sh.1)
  let hi := (List.range 8).filter (fun k => decide (x.2.tc < k) && decide ((queueCfg c (p * 8 + k)).cls = .reserved) && decide (0 < idleSlopeOf c p k))
  let add := (hi.map (fun k =>
    let wm := ((streamsAt c p k).map (fun y => w y.2.maxSdu)).foldl max 0
    -- (hiCredit + W_max × 8) / rate, with hiCredit = 8 W(9216) × slope / rate
    ceilDiv (w 9216 * 8 * idleSlopeOf c p k * 1000000) (max 1 (rate * 1000 * rate)) + byteTime wm rate)).sum
  ceilDiv n1 d1 + add

/-- The bounds of the Reserved streams on a port, and what the checker refuses of them (05 R165). (log entry 26: PRESUMED) -/
def reservedPort (c : Cfg) (d : Device) (p : Nat) : List PortBound × List Reject :=
  let rs := c.sch.streams.filter (fun x => x.2.cls = .reserved ∧ x.2.egress.contains p)
  let per : List (PortBound × List Reject) := rs.map (fun x =>
    let b := boundFor c d x.2.ingress + tPipe c x.2 p + (longestClosed c p x.2.tc + tBlock c p x.2.tc) +
      reservedInt c p x + tSer c x.2 p + tSec c x.2 p
    let never := (openShare c p x.2.tc).1 = 0
    let rj : List Reject :=
      if never then [{ status := 0x0201, reason := 0x0527, handle := x.1, port := p }]
      else if x.2.budgetPs < b then [{ status := 0x0201, reason := 0x0521, handle := x.1, port := p, value := b - x.2.budgetPs, bound := b }]
      else []
    (({ h := x.1, p := p, bound := b, window := 255 } : PortBound), rj))
  (per.map (·.1), per.flatMap (·.2))

/-- R154: the excess of a port's idle slopes over 75 % of its rate times the smallest F, in kb/s. (log entry 26: PRESUMED) -/
def cbsCheck (c : Cfg) (p : Nat) : List Reject :=
  let rs := (List.range 8).filter (fun k => decide ((queueCfg c (p * 8 + k)).cls = .reserved) && decide (0 < idleSlopeOf c p k))
  let sum := (rs.map (idleSlopeOf c p)).sum
  let cap := (rs.map (fun k => (cfgPort c p).rate * 750 * (openShare c p k).1 / max 1 (openShare c p k).2)).foldl min ((cfgPort c p).rate * 750)
  if cap < sum then [{ status := 0x0201, reason := 0x0523, port := p, value := sum - cap }] else []

/-! ### The whole check -/

/-- The timeline of R149: two cycles of the old list, cut off where the new list begins, and two of the new. A window that is open on both
sides of the change is one window, with the later T_blk of the two. Each with its side (true: old) and its number there. -/
def joinedSlots (wo wn : List Window) (co cn : Nat) : List (Bool × Nat × Nat × Nat × Window) :=
  let old : List (Bool × Nat × Nat × Nat × Window) := (List.range 2).flatMap (fun k => wo.zipIdx.filterMap (fun x =>
    if x.1.start + k * co < 2 * co then some (true, x.2, x.1.start + k * co, min (x.1.stop + k * co) (2 * co), x.1) else none))
  let wrap : List (Bool × Nat × Nat × Nat × Window) := wn.zipIdx.filterMap (fun x =>
    if cn < x.1.stop then some (false, x.2, 2 * co, 2 * co + x.1.stop - cn, { x.1 with full := false }) else none)
  let new : List (Bool × Nat × Nat × Nat × Window) := wrap ++ (List.range 2).flatMap (fun k => wn.zipIdx.map (fun x =>
    (false, x.2, 2 * co + x.1.start + k * cn, 2 * co + x.1.stop + k * cn, { x.1 with full := false })))
  match old.getLast?, new with
  | some o, w :: rest =>
    if o.2.2.2.1 = 2 * co ∧ w.2.2.1 = 2 * co then
      old.dropLast ++ (o.1, o.2.1, o.2.2.1, w.2.2.2.1, { o.2.2.2.2 with full := false, tblk := max o.2.2.2.2.tblk w.2.2.2.2.tblk }) :: rest
    else old ++ new
  | _, _ => old ++ new

/-- The largest wait and interference over eligibility instants from `e` to `hi` of a joined timeline. `ti` gives the interference in a
window by its side and number. -/
def joinedWait (all : List (Bool × Nat × Nat × Nat × Window)) (ti : Bool → Nat → Nat) (wt hi : Nat) : Nat → Nat → Nat
  | 0, _ => 0
  | n + 1, e =>
    match all.find? (fun x => decide (e < x.2.2.2.1) &&
        decide (max e (x.2.2.1 + x.2.2.2.2.tblk) + ti x.1 x.2.1 + wt ≤ x.2.2.2.1)) with
    | none => 0
    | some x =>
      let w := (x.2.2.1 + x.2.2.2.2.tblk - e) + ti x.1 x.2.1
      let last := x.2.2.2.1 - (ti x.1 x.2.1 + wt)
      if hi ≤ last ∨ last < e then w else max w (joinedWait all ti wt hi n (last + 1))

/-- The bound over the last old cycle followed by the first new cycle (05 R149, last paragraph), for a Scheduled stream in
both sets on a port whose list changes: old windows follow the old list and set, new windows the new ones, and its frames become eligible
as the old set declares in the old cycle and as the new one does in the new. (log entry 81: DEDUCED) -/
def joinedBound (old new : Cfg) (d : Device) (p : Nat) (go gn : Gcl) (x : Nat × StreamCfg) : Nat :=
  match lookup? old.sch.streams x.1 with
  | none => 0
  | some s0 =>
    if s0.cls ≠ .scheduled ∨ !s0.egress.contains p then 0
    else
      let ao := (assign old d p go).1
      let an := (assign new d p gn).1
      let eo := eligOf old d p go (x.1, s0)
      let en := eligOf new d p gn x
      let co := cyclePs go
      let cn := cyclePs gn
      let all := joinedSlots (windowsOf old p s0.tc go) (windowsOf new p x.2.tc gn) co cn
      let ti (side : Bool) (j : Nat) : Nat := if side then tInt go ao eo (some j) else tInt gn an en (some j)
      -- the old range stands in the second old cycle, the new one in the first new cycle
      let n := 2 * all.length
      let bo := boundFor old d s0.ingress + tPipe old s0 p + joinedWait all ti eo.wt eo.hi n eo.lo + tSer old s0 p + tSec old s0 p
      let bn := boundFor new d x.2.ingress + tPipe new x.2 p + joinedWait all ti en.wt (2 * co + en.hi - cn) n (2 * co + en.lo - cn) +
        tSer new x.2 p + tSec new x.2 p
      max bo bn

/-- The same for a Reserved stream: the longest closed interval of the joined timeline, and the larger of the other terms. (log entry 81: DEDUCED) -/
def joinedReserved (old new : Cfg) (d : Device) (p : Nat) (go gn : Gcl) (x : Nat × StreamCfg) : Nat :=
  match lookup? old.sch.streams x.1 with
  | none => 0
  | some s0 =>
    if s0.cls ≠ .reserved ∨ !s0.egress.contains p then 0
    else
      let all := joinedSlots (openWindows go s0.tc) (openWindows gn x.2.tc) (cyclePs go) (cyclePs gn)
      let closed := ((all.zip all.tail).map (fun y => y.2.2.2.1 - y.1.2.2.2.1)).foldl max 0
      let rest (c : Cfg) (s : StreamCfg) : Nat :=
        boundFor c d s.ingress + tPipe c s p + tBlock c p s.tc + reservedInt c p (x.1, s) + tSer c s p + tSec c s p
      closed + max (rest old s0) (rest new x.2)

def isAdmitted (s : StreamCfg) : Bool := decide (s.cls = .scheduled) || decide (s.cls = .reserved)

/-- The largest of a stream's bounds over the old list, the new one, and the change from one to the other, with a refusal where only that one
breaks its budget (05 R149). -/
def withJoined (old c : Cfg) (p : Nat) (r0 r : List PortBound × List Reject)
    (joined : Gcl → Gcl → Nat × StreamCfg → Nat) : List PortBound × List Reject :=
  match lookup? old.sch.lists p, lookup? c.sch.lists p with
  | some go, some g =>
    if go = g then r
    else
      let bs : List PortBound := r.1.map (fun b =>
        match lookup? c.sch.streams b.h with
        | none => b
        | some s =>
          let o := match r0.1.find? (fun y => y.h = b.h) with | some y => y.bound | none => 0
          { b with bound := max b.bound (max (joined go g (b.h, s)) o) })
      let more : List Reject := bs.filterMap (fun b => match lookup? c.sch.streams b.h with
        | some s => if s.budgetPs < b.bound ∧ !(r.2.any (fun y => y.handle = b.h ∧ y.reason = 0x0521)) then
            some ({ status := 0x0201, reason := 0x0521, handle := b.h, port := p, window := b.window, value := b.bound - s.budgetPs, bound := b.bound } : Reject)
          else none
        | none => none)
      (bs, r.2 ++ more)
  | _, _ => r

/-- The queue of every admitted stream's class on each egress port is of its own delivery class (05 R160). -/
def classCheck (c : Cfg) : List Reject :=
  c.sch.streams.flatMap (fun x => if isAdmitted x.2 then
    x.2.egress.flatMap (fun p => if (queueCfg c (p * 8 + x.2.tc)).cls ≠ x.2.cls then
      [({ status := 0x0105, reason := 0x0529, handle := x.1, port := p, value := p } : Reject)] else []) else [])

/-- The checks of every commit, whatever it changes: R154 and R160. -/
def standingChecks (c : Cfg) : List Reject := classCheck c ++ (List.range 25).flatMap (cbsCheck c)

/-- Bounds and failing checks of a resulting configuration (05 R159) beside the standing ones; `old` is the one in force. The record of
STREAM_LIMIT names port 0. (log entry 27: DESIGN CHOICE, 79: DESIGN CHOICE) -/
def checkAll (old c : Cfg) (d : Device) : List PortBound × List Reject :=
  let n := (c.sch.streams.filter (fun x => isAdmitted x.2)).length
  let limit : List Reject := if 4096 < n then [{ status := 0x0302, reason := 0x0520, value := n - 4096 }] else []
  let notGated := c.sch.streams.flatMap (fun x => if x.2.cls = .scheduled then
      x.2.egress.flatMap (fun p => if 25 ≤ p then
        [({ status := 0x0104, reason := 0x0528, handle := x.1, port := p } : Reject)]
        else if (lookup? c.sch.lists p).isNone then
          [({ status := 0x0201, reason := 0x0527, handle := x.1, port := p } : Reject)] else []) else [])
  let sched : List (List PortBound × List Reject) := (List.range 25).map (fun p =>
    match lookup? c.sch.lists p with
    | none => ([], [])
    | some g => withJoined old c p (match lookup? old.sch.lists p with | some go => schedPort old d p go | none => ([], []))
        (schedPort c d p g) (joinedBound old c d p))
  let resd := (List.range 25).map (fun p =>
    withJoined old c p (reservedPort old d p) (reservedPort c d p) (joinedReserved old c d p))
  (sched.flatMap (·.1) ++ resd.flatMap (·.1), limit ++ notGated ++ sched.flatMap (·.2) ++ resd.flatMap (·.2))

/-! ### Reservations (05 R166) -/

def resvOf (c : Cfg) (bs : List PortBound) (x : Nat × StreamCfg) : Resv :=
  let ks := x.2.egress.map (fun p =>
    let b := match bs.find? (fun y => y.h = x.1 ∧ y.p = p) with | some y => y.bound | none => 0
    let cyc := match lookup? c.sch.lists p with | some g => max 1 (cyclePs g) | none => 1
    (p, x.2.frames * (1 + b / cyc)))
  { cells := (ks.map (·.2)).foldl max 0 * cellsFor x.2.maxSdu
    desc := ks.foldl (fun t k => insertAt t k.1 k.2) [] }

def resvAll (c : Cfg) (bs : List PortBound) : Tbl Resv :=
  (c.sch.streams.filter (fun x => x.2.cls = .scheduled)).map (fun x => (x.1, resvOf c bs x))

/-- Per stream and port the larger of two reservations (05 R148). -/
def resvMax (a b : Tbl Resv) : Tbl Resv :=
  b.foldl (fun t x =>
    let y := lookupD t x.1 {}
    let desc := x.2.desc.foldl (fun u k => insertAt u k.1 (max k.2 (lookupD u k.1 0))) y.desc
    insertAt t x.1 { cells := max x.2.cells y.cells, desc := desc }) a

/-- R74 with a set of reservations: the shortfall in cells; its record names port 0. (log entry 79: DESIGN CHOICE) -/
def cellCheck (c : Cfg) (resv : Tbl Resv) : List Reject :=
  let need := (resv.map (fun x => x.2.cells)).sum + sumMin c + sumHeadroom c + 8192
  if 131072 < need then [{ status := 0x0301, reason := 0x0310, value := need - 131072 }] else []

/-- R79: a port that receives Scheduled, Assured or Reserved traffic must have BP_MODE PFC. -/
def bpCheck (c : Cfg) : List Reject :=
  (List.range 25).flatMap (fun p =>
    let pc := cfgPort c p
    let recv := c.sch.streams.any (fun x => isAdmitted x.2 && decide (x.2.ingress = p)) ||
      (List.range 8).any (fun k =>
        let q := (queueCfg c (p * 8 + pc.pcpTc.getD k 0)).cls
        decide (q = .scheduled) || decide (q = .assured) || decide (q = .reserved))
    if recv && !pc.pfc then [({ status := 0x0201, reason := 0x0311, port := p, value := p } : Reject)] else [])

/-- Reasons of Table SCH-7. -/
def isAdmission (r : Reject) : Bool :=
  (decide (0x0520 ≤ r.reason.toNat) && decide (r.reason.toNat ≤ 0x0523)) || decide (r.reason = 0x0527) || decide (r.reason = 0x0528) ||
  decide (r.reason = 0x0529) || decide (r.reason = 0x0310) || decide (r.reason = 0x0311)

/-- Rank of a status when failing checks differ (05 R165); the statuses of other checks come first. -/
def rejectRank (s : BitVec 16) : Nat :=
  if s = 0x0302 then 1 else if s = 0x0104 then 2 else if s = 0x0105 then 3 else if s = 0x0301 then 4
  else if s = 0x0201 then 5 else 0

/-- Insert a record in the order of R167. (log entry 27: DESIGN CHOICE) -/
def insertReject (r : Reject) : List Reject → List Reject
  | [] => [r]
  | a :: rest =>
    if r.port < a.port ∨ (r.port = a.port ∧ r.handle ≤ a.handle) then r :: a :: rest else a :: insertReject r rest

/-- Refusal records in the order of R167: by egress port, then by stream handle. -/
def orderRejects (rs : List Reject) : List Reject := rs.foldr insertReject []

/-- The record a refusal names (05 R165): of the first-ranked status, the first record in the order of R167, and before the records what a
check without a record found. (log entry 27: DESIGN CHOICE) -/
def firstReject (rs : List Reject) : Option Reject :=
  let all := rs.filter (fun r => !isAdmission r) ++ orderRejects (rs.filter isAdmission)
  (List.range 6).findSome? (fun k => all.find? (fun r => rejectRank r.status = k))

end Sys2Proof.Machine
end

