-- ==== Sys2Proof/Machine/CommitChecks.lean ====
section
/-! DEFINITION. What every commit is checked for beside admission (01 R10): ranges and formats of each unit's parameters, with the
status and reason each chapter names. -/

namespace Sys2Proof.Machine

def rejIf (b : Bool) (status reason : BitVec 16) (value : Nat := 0) (port : Nat := 0) : List Reject :=
  if b then [{ status := status, reason := reason, value := value, port := port }] else []

/-- RANGE without a reason of its own. -/
def rangeIf (b : Bool) : List Reject := rejIf b 0x0105 0

def outside (lo hi v : Nat) : Bool := decide (v < lo) || decide (hi < v)

/-! ### Ports and buffers (02 R49, R50; 03 R82, R86, R90, R91; 04 R109; 05 R150, R153, R170) -/

def rateOk (p r : Nat) : Bool :=
  if p < 8 then decide (r = 25000) || decide (r = 10000)
  else if p < 24 then decide (r = 1000) || decide (r = 2500) || decide (r = 5000) || decide (r = 10000)
  else decide (r = maxRate p)

/-- Whether an integer lies outside a range. -/
def outsideInt (lo hi v : Int) : Bool := decide (v < lo) || decide (hi < v)

/-- A gPTP parameter of a port outside its range (04 Table TIM-2). -/
def checkPtp (x : PtpPort) : Bool :=
  let dom (y : PtpDom) : Bool := outsideInt (-7) 0 y.logSync || outside 2 255 y.syncReceiptTimeout || outsideInt (-3) 4 y.logAnnounce ||
    outside 2 255 y.announceReceiptTimeout
  dom x.a || dom x.b || outsideInt (-3) 3 x.logPdelay || outside 1 255 x.allowedLost || decide (1000000000 < x.propThreshPs) ||
  decide (1000000 < x.delayAsymPs.natAbs)

def checkPort (c : Cfg) (p : Nat) (x : PortCfg) : List Reject :=
  rejIf (decide (37 < p)) 0x0104 0 ++
  rangeIf (outside 1 4094 x.pvid.toNat || decide (1000 < x.holdAdvanceNs) || decide (x.holdAdvanceNs % 8 ≠ 0) || checkPtp x.ptp ||
    decide (p < 25) && (List.range 8).any (fun t => decide ((queueCfg c (p * 8 + t)).cls = .reserved) && decide (x.idleSlope.getD t 0 = 0))) ++
  rangeIf (!rateOk p x.rate || outside 68 9198 x.mtu || decide (1000000 < x.rxLatPs.natAbs) || decide (1000000 < x.txLatPs.natAbs) ||
    decide (100000 < x.linkBoundNs) || decide (x.pcpTc.length ≠ 8) || x.pcpTc.any (fun t => decide (7 < t)) ||
    (x.vids ++ x.untag ++ x.blocked).any (fun v => outside 1 4094 v) || outside 1 128 x.preempt.verifyTimeMs || decide (3 < x.preempt.addFragSize) ||
    x.idleSlope.any (fun s => decide (s % 64 ≠ 0) || decide (x.rate * 1000 < s))) ++
  rejIf ((List.range 8).any (fun t => x.preempt.preemptable.getLsbD t && decide ((queueCfg c (p * 8 + t)).cls = .scheduled))) 0x0105 0x0524 0 p ++
  rangeIf (decide (2 < ((List.range 8).filter (fun t => decide ((queueCfg c (p * 8 + t)).cls = .reserved))).length))

def checkProfile (q : QueueCfg) (r : RedProfile) : Bool := decide (r.maxTh ≤ r.minTh) || decide (q.qlimit < r.maxTh)

def checkQueue (q : QueueCfg) : List Reject :=
  rangeIf ((match q.limitUs with | some l => outside 1 (classLimitUs q.cls) l | none => false) ||
    (match q.profiles with | some (a, b, e) => checkProfile q a || checkProfile q b || checkProfile q e | none => false) ||
    outside 64 16384 q.spillOn || outside 64 131072 q.qlimit || decide (15 < q.weight))

def checkAllot (a : AllotCfg) : List Reject := rangeIf (decide (16384 < a.min) || outside a.min 65536 a.max)

def checkMeter (m : MeterCfg) : List Reject :=
  let rate (r : Nat) : Bool := outside 64 25000000 r || decide (r % 64 ≠ 0)
  let burst (b : Nat) : Bool := outside 1024 16777216 b
  rangeIf (rate m.cir || rate m.pir || burst m.cbs || burst m.pbs)

/-- A host queue that does not exist (17 R490). -/
def badHostQ (q : Option Nat) : Bool := match q with | some n => decide (63 < n) | none => false

/-- Entries of the route tables that the routes take (02 R48). -/
def routeEntries (rs : List Route) : Nat := (rs.map (fun r => if r.v6 && decide (64 < r.bits) then 2 else 1)).sum

/-- Routes and next hops beyond what the tables hold (02 R48), or a next hop on a port that does not exist (01 R14). (log entry 82: DESIGN CHOICE) -/
def checkRoutes (rs : List Route) (hops : Tbl NextHop) : List Reject :=
  rejIf (hops.any (fun x => decide (37 < x.2.port))) 0x0104 0 ++
  rangeIf (decide (32768 < routeEntries rs) || rs.any (fun r => decide ((if r.v6 then 128 else 32) < r.bits) || decide ((if r.ecmp then 63 else 4095) < r.target)) ||
    hops.any (fun x => decide (4095 < x.1) || badHostQ x.2.hostQ))

/-- A route to a link group that is an aggregation (02 R48 knows ECMP groups only). -/
def routesAggregation (f : FwdCfg) : Bool :=
  f.routes.any (fun r => r.ecmp && (match lookup? f.groups r.target with | some g => !g.ecmp | none => false))

/-- What the tables of 02 hold. (log entry 82: DESIGN CHOICE) -/
def checkFwd (f : FwdCfg) : List Reject :=
  checkRoutes f.routes f.nextHops ++ rangeIf (routesAggregation f) ++ rejIf (f.staticFdb.any (fun x => decide (37 < x.port))) 0x0104 0 ++
  rangeIf (decide (131072 < f.staticFdb.length) || f.staticFdb.any (fun x => badHostQ x.hostQ) || outside 10 1000000 f.ageingS ||
    decide (16 < f.userTypes.length) || f.userTypes.any (fun x => decide (4 < x.fieldOffsets.length)) ||
    f.groups.any (fun g => g.2.table.any (fun e => decide (255 < e.1)) || (g.2.members ++ g.2.table.map (·.2)).any (fun m =>
      decide ((if g.2.ecmp then 4095 else 37) < m)))) ++
  rangeIf (outside 1 65535 f.flowletUs || f.groups.any (fun g => decide (63 < g.1) || decide (16 < g.2.members.length)) ||
    f.meters.any (fun m => decide (8191 < m.1))) ++ f.meters.flatMap (fun m => checkMeter m.2)

/-! ### Time (04 Table TIM-2) -/

def checkDomain (x : DomainCfg) : Bool :=
  decide (60000 < x.gmHoldMs) || outside 6 254 x.classMax || decide (254 < x.gmPriority1) || decide (255 < x.gmPriority2)

def checkTim (t : TimCfg) : List Reject :=
  rangeIf (outside 50 1000000 t.slewWindowNs || outside 1 100 t.slewMaxPpm || outside 1 3600 t.revertHoldS ||
    checkDomain t.domA || checkDomain t.domB || decide (t.domA.number = t.domB.number))

/-! ### Gate lists and streams (05 R140, R141, Table SCH-4, Table SCH-5; 08 R258) -/

def gclOk (g : Gcl) : Bool :=
  decide (g.baseNs % 8 = 0) && !outside 1000 1000000000 g.cycleNs && decide (g.cycleNs % 8 = 0) && !outside 1 1024 g.entries.length &&
  g.entries.all (fun e => decide (e.op.toNat ≤ 2) && decide (e.reserved = 0) && !outside 32 1000000000 e.intervalNs && decide (e.intervalNs % 8 = 0)) &&
  decide ((g.entries.map (·.intervalNs)).sum = g.cycleNs)

/-- A stream gate within Table SCH-4: its entries fill its cycle. (log entry 71: DESIGN CHOICE) -/
def streamGateOk (g : StreamGate) : Bool :=
  !outside 1 64 g.entries.length && !outside 1000 1000000000 g.cycleNs && decide (g.cycleNs % 8 = 0) && decide (g.baseNs % 8 = 0) &&
  g.entries.all (fun e => decide (0 < e.2.2) && decide (e.2.2 % 8 = 0)) && decide ((g.entries.map (fun e => e.2.2)).sum = g.cycleNs)

def checkStream (c : Cfg) (x : Nat × StreamCfg) : List Reject :=
  let s := x.2
  let adm := isAdmitted s
  rangeIf (decide (16383 < x.1) || decide (7 < s.tc) || s.egress.any (fun p => decide (37 < p)) || outside 64 9216 s.filter.maxSdu ||
    (adm && (outside 64 9216 s.maxSdu || outside 1 64 s.frames || (decide (24 < s.ingress) && decide (s.ingress ≠ 37)) ||
      outside 1000 (classLimitUs s.cls * 1000000) s.budgetPs)) ||
    (decide (s.cls = .reserved) && (outside 125000 1000000000 s.intervalNs || s.egress.any (fun p => decide (24 < p)))) || badHostQ s.hostQ ||
    (decide (s.cls = .scheduled) && (decide (s.departHi < s.departLo) || s.egress.any (fun p => match lookup? c.sch.lists p with
      | some g => decide (g.cycleNs ≤ s.departHi)
      | none => false)))) ++
  rejIf (adm && decide (9216 < s.maxSdu + 32) && s.egress.any (hasSecy c)) 0x0105 0x0821

/-! ### Assured (06 R177 to R180) -/

def isAssured (s : StreamCfg) : Bool := decide (s.cls = .assured)

def checkAssured (c : Cfg) : List Reject :=
  let as_ := c.sch.streams.filter (fun x => isAssured x.2)
  let rate := (as_.map (fun x => x.2.asd.rateMbps)).sum
  rejIf (decide (2048 < as_.length)) 0x0302 0x0622 (as_.length - 2048) ++
  as_.flatMap (fun x =>
    let a := x.2.asd
    rangeIf (outside 1 4000 a.rateMbps || outside 16 1024 a.burstKiB || outside 10 10000 a.holdUs || outside 10 60000 a.resetMs ||
      outside 100 60000 a.latentMs || x.2.egress.contains 37) ++
    rejIf (x.2.egress.any (fun p => decide (26 ≤ p) && decide (p ≤ 35))) 0x0104 0x0623 ++
    rejIf (x.2.egress.any (fun p => decide ((queueCfg c (p * 8 + x.2.tc)).cls ≠ .assured))) 0x0105 0x0624) ++
  rejIf (decide (4000 < rate)) 0x0303 0x0621 (rate - 4000)

/-! ### Firewall (07 R211, R214, R225) -/

/-- A list in rising order holds no number twice. -/
def distinct : List Nat → Bool
  | a :: b :: rest => decide (a < b) && distinct (b :: rest)
  | _ => true

/-- Whether the match fields of a rule stand in the ranges of 07 Table FWL-2; no rule names zone 15 (07 R208). -/
def ruleFieldsOk (r : Rule) : Bool :=
  let opt (hi : Nat) (x : Option Nat) : Bool := match x with | some v => decide (v ≤ hi) | none => true
  let span (lo hi : Nat) (x : Option (Nat × Nat)) : Bool := match x with | some (a, b) => decide (lo ≤ a) && decide (a ≤ b) && decide (b ≤ hi) | none => true
  let width := match r.family with | .v4 => 32 | .v6 => 128 | .l2 => 48
  let pfx (x : Option (Nat × Nat)) : Bool := match x with | some (v, n) => decide (v < 2 ^ width) && decide (n ≤ width) | none => true
  opt 14 r.srcZone && opt 14 r.dstZone && opt (if r.family = .l2 then 65535 else 255) r.proto && pfx r.src && pfx r.dst &&
    span 0 65535 r.srcPort && span 0 65535 r.dstPort && opt 255 r.icmpType && opt 255 r.icmpCode && span 1 4094 r.vid && decide (r.ruleId < 65536)

/-- A Spring rule's match fields as those of a rule (07 R240). -/
def springAsRule (r : SpringRule) : Rule :=
  { priority := 0, ruleId := 0, srcZone := r.srcZone, dstZone := r.dstZone, family := r.family, src := r.src, dst := r.dst, proto := r.proto,
    dstPort := r.dstPort, action := if r.permit then .permit else .deny }

/-- Zones, rules, profiles and Spring rules within their ranges (07 R208, R211, R212, R214, R225, R240). (log entry 82: DESIGN CHOICE) -/
def checkFwl (f : FwlCfg) : List Reject :=
  rejIf (f.zoneMap.any (fun z => decide (38 ≤ z.1 / 4096))) 0x0104 0 ++
  rangeIf (f.bank.rules.any (fun r => decide (65535 < r.priority)) || !distinct (sortNat (f.bank.rules.map (·.priority)))) ++
  rangeIf (f.zoneMap.any (fun z => decide (15 < z.2)) || decide (15 < f.zoneHi) || decide (15 < f.zoneCp) ||
    f.zones.any (fun z => decide (15 < z.1) || outside 1000 1200000 z.2.missRate || outside 10 40000 z.2.setupRate || decide (16 < z.2.pool.length))) ++
  rejIf (decide (134217728 < f.bank.sizeBytes)) 0x0304 0 ++ rejIf (decide (8 < f.bank.maxReads)) 0x0105 0x0720 ++
  rangeIf (f.profiles.any (fun x => let p := x.2
    outside 1 7 x.1 || outside 1 600 p.tcpSyn || outside 10 86400 p.tcpEst || outside 1 600 p.tcpClose || outside 1 3600 p.udpOne ||
    outside 1 86400 p.udpBoth || outside 1 600 p.icmp || outside 1 86400 p.other)) ++
  rangeIf (f.bank.rules.any (fun r => !ruleFieldsOk r) || f.springRules.any (fun r => !ruleFieldsOk (springAsRule r))) ++
  rangeIf (f.zones.any (fun z => z.2.naptInside && z.2.pool.isEmpty)) ++
  rangeIf (decide (4096 < f.springRules.length))

/-! ### MACsec (08 R250, R252) -/

def checkMsc (m : MscCfg) : List Reject :=
  let per (p : Nat) : Nat := (m.secys.filter (fun x => decide (x.2.port = p))).length
  rejIf (decide (256 < m.secys.length) || decide (1024 < m.rxScs.length) || m.secys.any (fun x => decide (255 < x.1)) ||
    m.rxScs.any (fun x => decide (1023 < x.1)) || (List.range 25).any (fun p => decide (16 < per p)) || decide (1 < per 37)) 0x0305 0x0820 ++
  rangeIf (m.secys.any (fun x => let s := x.2
    (decide (24 < s.port) && decide (s.port ≠ 37)) || (match s.vids with
      | some l => l.any (fun v => outside 1 4094 v)
      | none => decide (1 < per s.port)) ||
    decide ((if s.xpn then 1073741824 else 4294967295) < s.replayWindow) || decide (s.hard < s.soft) || decide (s.soft = 0) ||
    decide ((if s.xpn then 18446744073709551615 else 4294967295) < s.hard) ||
    -- a SecTAG without the SCI needs a SecY with one peer (08 Table MSC-1)
    (!s.includeSci && decide (1 < (m.rxScs.filter (fun y => decide (y.2.secy = x.1))).length)))) ++
  rangeIf (m.rxScs.any (fun r => (lookup? m.secys r.2.secy).isNone) || (List.range 38).any (fun p =>
    decide (1 < (m.rxScs.filter (fun r => r.2.defaultRx && (match lookup? m.secys r.2.secy with | some s => decide (s.port = p) | none => false))).length)))

/-! ### CAN (10 R308, R309, R326) -/

def phaseBad (p : CanPhase) (m1 m2 : Nat) : Bool :=
  outside 1 m1 p.seg1 || outside 1 m2 p.seg2 || outside 1 (min p.seg1 p.seg2) p.sjw

def checkCan (x : Nat × CanCfg) : List Reject :=
  let c := x.2
  let n := c.brp * phaseTq c.nom
  let f := c.brp * phaseTq c.fd
  let l := c.brp * phaseTq c.xl
  rangeIf (decide (7 < x.1) || outside 1 32 c.brp || phaseBad c.nom 255 128 || phaseBad c.fd 63 32 || phaseBad c.xl 63 32 || decide (127 < c.tdco) ||
    (c.tms && (outside 1 63 c.pwms || outside 1 63 c.pwml || decide (63 < c.pwmo))) || outside 1 255 c.wakeN || outside 1 1000 c.wupWindowMs) ++
  rejIf (decide (phaseTq c.nom < 8) || decide (phaseTq c.fd < 8) || decide (phaseTq c.xl < 8) || decide (n < 160) || decide (f < 20) ||
    decide (l < 8) || decide (n < f) || decide (n < l) || (c.tms && decide (c.pwms + c.pwml ≠ l))) 0x0105 0x0A20 ++
  rejIf (c.tms && c.xlEsig) 0x0105 0x0A22

/-- A route's retries fit its deadline (10 R326). -/
def checkRetry (c : Cfg) : List Reject :=
  rejIf (c.gw.routes.any (fun r => match lookup? c.gw.outputs r.output with
    | some o => !o.eth && decide (o.dstPort < 34) && decide (o.retry ≠ 255) && decide (r.deadlineMs ≠ 0) &&
        (match lookup? c.can (o.dstPort - 26) with
         | some cc => decide (r.deadlineMs * 160000 < (o.retry + 1) * attemptClocks cc o)
         | none => false)
    | none => false)) 0x0105 0x0A21

/-! ### MVB (11 R339, R348) -/

/-- Cost of a poll in MVB clocks, 16 to a bit (11 R337, R348). -/
def pollCost (c : MvbCfg) (p : MvbPoll) : Nat :=
  let dbits := 8 * mvbBytes p.size
  (42 + dbits + 8 * ceilDiv dbits 64) * 16 + c.replyClocks

def isPow2 (n : Nat) : Bool := decide (n ≠ 0) && decide (2 ^ Nat.log2 n = n)

def checkMvb (x : Nat × MvbCfg) : List Reject :=
  let c := x.2
  rangeIf (decide (1 < x.1) || outside 1 4095 c.devAddr || decide (15 < c.baRank) || outside 1 1024 c.macroCycle || !isPow2 c.macroCycle ||
    decide (255 < c.turn) || outside 3 100 c.silenceMs || outside 256 2048 c.replyClocks || outside 4 255 c.lineFail || outside 2 15 c.devLoss ||
    c.ports.any (fun p => decide (4095 < p.1) || decide (4 < p.2.size) || decide (65534 < p.2.limit)) ||
    c.periodic.any (fun p => decide (4095 < p.addr) || decide (4 < p.size) || decide (p.every = 0)) ||
    (c.admins ++ c.known).any (fun a => outside 1 4095 a)) ++
  rejIf ((List.range c.macroCycle).any (fun k =>
    let cost := ((c.periodic.filter (fun p => decide (k % max 1 p.every = p.first))).map (pollCost c)).sum
    decide ((if c.basic2 then 33600 else 16800) < cost))) 0x0105 0x0B20

/-! ### Gateway (12 R359, R362, R365) -/

/-- Payload bytes of a source whose length is fixed. -/
def sourceLen (c : Cfg) (r : GwRoute) : Option Nat :=
  match r.kind with
  | .canBase | .canExt => if r.sub % 4 = 1 then none else some 8
  | .mvb => match r.src with
    | some p => (lookup? (lookupD c.mvb (p - 34) {}).ports r.ident).map (fun q => mvbBytes q.size)
    | none => none
  | _ => none

/-- Most payload bytes of a source. -/
def sourceMax (c : Cfg) (r : GwRoute) : Nat :=
  match r.kind with
  | .canBase | .canExt => if r.sub % 4 = 1 then 64 else 8
  | .acf => 64
  | .mvb => (sourceLen c r).getD 32
  | _ => 2048

def kindNo : GwKind → Nat
  | .canBase => 0 | .canExt => 1 | .canXl => 2 | .mvb => 3 | .trdp => 4 | .acf => 5

/-- Bucket of a route's key (12 R362). -/
def routeBucket (r : GwRoute) : Nat :=
  let k := (if r.src.isNone then 64 else 0) + kindNo r.kind
  (crc32c (toBe 1 (r.src.getD 0) ++ toBe 1 k ++ toBe 2 r.sub ++ toBe 4 r.ident)).toNat / 1048576

/-- A gateway route that its output cannot carry (12 R363). (log entry 39: DESIGN CHOICE) -/
def checkRoute (c : Cfg) (r : GwRoute) : Bool :=
  match lookup? c.gw.outputs r.output with
  | none => true
  | some o =>
    let sigs := routeSignals c r
    decide (2048 < o.len) || decide (60000 < r.deadlineMs) || (!o.eth && decide (formatMax o < o.len)) ||
    (decide (r.sigCount = 0) && (match sourceLen c r with | some n => decide (o.len < n) | none => false)) ||
    (decide (r.sigCount ≠ 0) && (decide (sigs.length ≠ r.sigCount) || sigs.any (fun s =>
      outside 1 64 s.width || (List.range s.width).any (fun k =>
        decide (8 * sourceMax c r ≤ sigPos s.srcBe s.srcBit s.width k) || decide (8 * o.len ≤ sigPos s.dstBe s.dstBit s.width k))))) ||
    (decide (r.kind = .acf) && decide (o.kind = .canXl)) || (decide (r.kind = .canXl) && decide (o.kind = .acf)) ||
    (decide (o.kind = .mvb) && !o.eth && (o.onUpdate || o.onChange) &&
      (match lookup? (lookupD c.mvb (o.dstPort - 34) {}).ports o.ident with
       | some q => decide (mvbBytes q.size ≠ o.len)
       | none => false))

/-- Ranges of a routing entry (12 Table GWY-2, Table GWY-3). -/
def routeRange (r : GwRoute) : Bool :=
  decide (65535 < r.sub) || decide (65535 < r.sigFirst) || decide (255 < r.sigCount) ||
  (match r.kind, r.src with
   | .canBase, some p => outside 26 33 p || decide (2047 < r.ident)
   | .canExt, some p => outside 26 33 p || decide (536870911 < r.ident)
   | .canXl, some p => outside 26 33 p || decide (2047 < r.ident)
   | .mvb, some p => outside 34 35 p || decide (4095 < r.ident)
   | .trdp, some p => outside 0 24 p && decide (p ≠ 37)
   | .acf, some p => outside 0 24 p && decide (p ≠ 37)
   | .trdp, none => false
   | .acf, none => false
   | _, none => true)

/-- Ranges of an output descriptor, its port and kind, and no period toward CAN (12 Table GWY-4, R368). -/
def outputRange (x : Nat × GwOutput) : Bool :=
  let o := x.2
  let can := decide (o.kind = .canBase) || decide (o.kind = .canExt) || decide (o.kind = .canXl)
  decide (4095 < x.1) || (o.cyclic && outside 1 60000 o.periodMs) || decide (60000 < o.timeoutMs) || decide (255 < o.retry) ||
  decide (65535 < o.sub) || decide (63 < o.dscp) || decide (7 < o.pcp) || decide (4095 < o.vid) ||
  (if o.eth then decide (o.kind ≠ .trdp) && decide (o.kind ≠ .acf)
   else if 26 ≤ o.dstPort ∧ o.dstPort < 34 then !can || o.cyclic || decide ((if o.kind = .canExt then 536870911 else 2047) < o.ident)
   else if 34 ≤ o.dstPort ∧ o.dstPort < 36 then decide (o.kind ≠ .mvb) || decide (4095 < o.ident)
   else decide (o.dstPort ≠ 36))

/-- Queues that messages of a source port enter at CAN and MVB ports (12 R359); unlisted source ports have GW_TC 0. -/
def tcBad (c : Cfg) (tc : Nat) : Bool :=
  (List.range 10).any (fun k =>
    let cls := (queueCfg c ((26 + k) * 8 + tcOf c (26 + k) tc)).cls
    decide (cls ≠ .reserved) && decide (cls ≠ .standard))

def checkGw (c : Cfg) : List Reject :=
  let bks := c.gw.routes.map routeBucket
  rejIf (c.gw.routes.any (fun r => match r.src with | some p => decide (37 < p) | none => false) ||
    c.gw.outputs.any (fun x => decide (37 < x.2.dstPort)) || c.gw.tc.any (fun x => decide (37 < x.1))) 0x0104 0 ++
  rejIf (decide (32768 < c.gw.routes.length) || bks.any (fun b => decide (8 < (bks.filter (fun x => decide (x = b))).length))) 0x0306 0 ++
  rejIf (c.gw.routes.any (checkRoute c)) 0x0105 0x0C20 ++
  rejIf (c.gw.tc.any (fun x => tcBad c x.2) || (c.gw.loaded && tcBad c 0 && (List.range 12).any (fun k => (lookup? c.gw.tc (25 + k)).isNone))) 0x0105 0x0C20 ++
  rangeIf (c.gw.outputs.any outputRange || c.gw.routes.any routeRange || c.gw.tc.any (fun x => decide (7 < x.2)) ||
    c.gw.signals.any (fun x => decide (65535 < x.1)) || c.gw.streams.any (fun x => decide (63 < x.1)) ||
    (List.range 8).any (fun n => decide (64 < (canFilters c n).length)))

/-! ### Topology, seasons, pair, ledger, boot (09 Table TOP-3, 13 Table SSN-5, 14 Table PAIR-8, 21 R583, R584, 20 R572) -/

def checkTop (t : TopCfg) : List Reject :=
  rangeIf (outside 10 1000 t.helloMs || outside 5 100 t.helloFastMs || outside 2 10 t.helloLoss || outside 10 1000 t.topoMs ||
    decide (10000 < t.stableMs) || outside 5 100 t.settleMs || outside 100 2000 t.wdMs)

def checkPair (old c : Cfg) : List Reject :=
  let p := c.pair
  let pl := c.msc.secys.any (fun x => decide (x.2.port = 37))
  rangeIf (decide (1024 < p.compare.length) || outside 100 1000 p.digestLagUs || outside 1 16 p.mismatchLimit || outside 64 4096 p.creditWin ||
    outside 10 500 p.commitWaitMs) ++
  rejIf (p.paired && !pl && (!old.pair.paired || old.msc.secys.any (fun x => decide (x.2.port = 37)))) 0x0105 0x0E31 ++
  rejIf (p.compare.any (fun h => (lookup? c.sch.streams h).isNone)) 0x0105 0x0E30

def checkLedger (l : LedgerCfg) : List Reject :=
  rangeIf (decide (15 < l.retryMax) || outside 2 255 l.limit || outside 10 60000 l.windowMs)

def checkSsn (s : SsnCfg) : List Reject :=
  rangeIf (outside 20 1000 s.tokenMs || outside 1 20 s.hopMs || outside (s.tokenMs + 100) 10000 s.commitDelayMs || outside 100 60000 s.roundRetryMs ||
    decide (3600 < s.wakeHoldS) || outside 50 5000 s.kaPeriodMs || outside (4 * s.kaPeriodMs) 60000 s.kaSilenceMs || outside 1 600 s.idleS ||
    outside 20 20000 s.wakeFilterUs || outside 1 1000 s.wakePulseMs || outside 100 5000 s.pwrStepUs)

def checkBoot (b : BootCfg) : List Reject := rangeIf (outside 10 3600 b.confirmS || outside 500 10000 b.pairWaitMs)

/-- Every check of a resulting configuration but admission's. -/
def formChecks (old c : Cfg) : List Reject :=
  c.ports.flatMap (fun x => checkPort c x.1 x.2) ++ c.buf.queues.flatMap (fun x => checkQueue x.2) ++ c.buf.allots.flatMap (fun x => checkAllot x.2) ++
  checkFwd c.fwd ++ checkTim c.tim ++ rejIf (c.sch.lists.any (fun x => !gclOk x.2)) 0x0105 0x0524 ++
  rangeIf (c.sch.gates.any (fun x => decide (255 < x.1) || !streamGateOk x.2)) ++ c.sch.streams.flatMap (checkStream c) ++
  checkAssured c ++ checkFwl c.fwl ++ checkMsc c.msc ++ c.can.flatMap checkCan ++ checkRetry c ++ c.mvb.flatMap checkMvb ++ checkGw c ++
  checkTop c.top ++ checkPair old c ++ c.flt.flatMap (fun x => checkLedger x.2) ++ checkSsn c.ssn ++ checkBoot c.boot

end Sys2Proof.Machine
end

