-- ==== Sys2Proof/Machine/Commit.lean ====
section
/-! DEFINITION. Commits (01 R10 to R13): prepare with admission (05 R159), the switch at the epoch boundary, commits with a
SWITCH_TIME (05 R147 to R149), the partner's commits (14 R434), route commits (09 R293), the re-check of 05 R171. -/

namespace Sys2Proof.Machine

/-! ### Prepare -/

/-- What a prepare answers: a refusal with its reply body, or every stream's bound. -/
inductive Prep where
  | refused (r : Reject) (body : Bytes)
  | ok (bounds : List PortBound)
  deriving DecidableEq, Repr

/-- A number in `n` bytes, most significant first; one that does not fit reads as the largest that does. (log entry 79: DESIGN CHOICE) -/
def fieldBe (n v : Nat) : Bytes := toBe n (min v (256 ^ n - 1))

/-- A refusal record (05 Table SCH-8). (log entry 79: DESIGN CHOICE) -/
def rejectBytes (r : Reject) : Bytes :=
  toBe 2 r.handle ++ toBe 1 r.port ++ fieldBe 1 r.window ++ toBe 2 r.reason.toNat ++ toBe 2 0 ++ fieldBe 4 r.value ++ fieldBe 4 r.bound

/-- The reply body of R167: the count of failing checks in 2 bytes and up to 64 records. (log entry 79: DESIGN CHOICE) -/
def refusalBody (rs : List Reject) : Bytes := fieldBe 2 rs.length ++ ((orderRejects rs).take 64).flatMap rejectBytes

/-- The body of a refusal: the records of admission, or the excess in Mb/s of the Assured streams' rates (06 R180). (log entry 83: DESIGN CHOICE) -/
def refusedWith (r : Reject) (rs : List Reject) : Bytes :=
  if r.reason = 0x0621 then fieldBe 4 r.value else refusalBody (rs.filter isAdmission)

/-- What of a port and of a SecY the admission checker judges (05 R159). -/
structure AdmPort where
  rate : Nat
  linkBoundNs : Nat
  preempt : Preempt
  holdAdvanceNs : Nat
  idleSlope : List Nat
  deriving DecidableEq, Repr

structure AdmSecy where
  secy : Nat
  port : Nat
  xpn : Bool
  conf : Conf
  includeSci : Bool
  deriving DecidableEq, Repr

/-- What of a configuration it judges. -/
structure AdmView where
  streams : Tbl StreamCfg
  lists : Tbl Gcl
  ports : List AdmPort
  secys : List AdmSecy
  deriving DecidableEq, Repr

/-- What of a configuration the admission checker depends on (05 R159). (log entry 27: DESIGN CHOICE) -/
def admissionView (c : Cfg) : AdmView :=
  { streams := c.sch.streams.filter (fun x => isAdmitted x.2)
    lists := c.sch.lists
    ports := (List.range 38).map (fun p => let x := cfgPort c p; {
      rate := x.rate, linkBoundNs := x.linkBoundNs, preempt := x.preempt, holdAdvanceNs := x.holdAdvanceNs, idleSlope := x.idleSlope })
    secys := c.msc.secys.map (fun x => {
      secy := x.1, port := x.2.port, xpn := x.2.xpn, conf := x.2.conf, includeSci := x.2.includeSci }) }

/-- Reservations that hold once a commit is accepted: until a SWITCH_TIME those of both sets (05 R148). -/
def resvFor (c : Cfg) (bs : List PortBound) (timed : Bool) (d : Device) : Tbl Resv :=
  if timed then resvMax d.sch.resv (resvAll c bs) else resvAll c bs

/-- What every manager finds of a resulting configuration; `asked`: the admission checker is asked too. -/
def judge (asked : Bool) (c : Cfg) (timed : Bool) (d : Device) : Prep :=
  let a : List PortBound × List Reject := if asked then checkAll d.cfg c d else ([], [])
  let resv := if asked then resvFor c a.1 timed d else d.sch.resv
  let rs := formChecks d.cfg c ++ standingChecks c ++ a.2 ++ cellCheck c resv ++ bpCheck c
  match firstReject rs with
  | some r => .refused r (refusedWith r rs)
  | none => .ok a.1

/-- Every manager's prepare of a resulting configuration; admission is checked when what it depends on changes (05 R159). -/
def prepare (c : Cfg) (timed : Bool) (d : Device) : Prep := judge (decide (admissionView d.cfg ≠ admissionView c)) c timed d

/-- ADMIT_REFUSED is raised where admission refuses (05 Table SCH-12). -/
def noteRefusal (r : Reject) (d : Device) : Device := if isAdmission r then raise sqSCH 0 0x0501 0 d else d

/-! ### The switch (01 R10, R11; 02 R64, R66) -/

def portOn (x : PortCfg) : Bool := x.configured && x.enabled

/-- A port without a wire that a commit disables loses what it has queued (02 R64, 03 R98). -/
def switchInner (old c : Cfg) (p : Nat) (d : Device) : Device :=
  if (cfgPort old p).enabled && !(cfgPort c p).enabled then flushPort p 8 true d else d

/-- An Ethernet port that a commit configures, enables or disables (02 R64, R65): whether it was in service is the port's own state, which a
reset clears. Ingress stops with the frame that is arriving, the transmitter with the one that leaves. (log entry 66: DESIGN CHOICE) -/
def switchPort (old c : Cfg) (d : Device) (p : Nat) : Device :=
  let a := cfgPort old p
  let b := cfgPort c p
  let s := portSt d p
  let on := s.ready && portOn a
  let stop := decide (d.pair.role = .failed) && d.cfg.pair.portsOff
  let d := if b.configured && !s.ready then modPort p (fun s => { s with ready := true }) d else d
  let d := if on && !portOn b then
      flushPort p 8 true (modPort p (fun s => { s with ingressOn := false, txOn := s.txOn && (s.cur.isSome || s.preempted.isSome) }) d)
    else if portOn b && !on then modPort p (fun s => { s with ingressOn := true, txOn := !s.retired && !stop }) d
    else d
  if a.preempt = b.preempt ∧ a.holdAdvanceNs = b.holdAdvanceNs then d
  else
    -- a verification that has succeeded stays good; one newly asked for has not yet (05 R151)
    let was := (portSt d p).preemptActive
    let d := modPort p (fun s => { s with
      preemptActive := s.linkUp && b.preempt.enabled && (b.preempt.verifyOff || (s.preemptActive && !a.preempt.verifyOff)) }) d
    let d := reviewHold p d
    if was && !(portSt d p).preemptActive then raise sqSCH 6 0x0507 p d else d

/-- Gate lists that change become operational (05 R147, R148); a removed list leaves all gates open (05 R144). (log entry 58: DESIGN CHOICE) -/
def switchLists (old c : Cfg) (d : Device) : Device :=
  (List.range 25).foldl (fun d p =>
    match lookup? c.sch.lists p with
    | none => if (gateSt d p).running then setGate p {} (modPort p (fun s => { s with macHold := false }) d) else d
    | some g =>
      if lookup? old.sch.lists p = some g ∧ (gateSt d p).running then d
      else
        -- CYCLE_COUNT starts again with a new list, and goes on for a list that a warm reset stopped (05 Table SCH-15, R176)
        let n := if lookup? old.sch.lists p = some g then (gateSt d p).cycles else 0
        applyGate p false (setGate p { running := true, entry := g.entries.length, gates := 0, cycles := n } d)) d

/-- Queued copies of a stream on a port it no longer leaves by (06 R197). -/
def flushStream (h p : Nat) (d : Device) : Device :=
  (portQueues p).foldl (fun d q =>
    let r := takeOut q (fun k => decide (k.stream = some h)) d
    if r.1.isEmpty then d else reviewAll (discardCopies q 8 r.1 r.2)) d

/-- Assured streams that a commit removes, or whose egress set it cuts, release what they accepted first (06 R197). -/
def leaveStreams (old c : Cfg) (d : Device) : Device :=
  d.asd.slots.foldl (fun d x =>
    let h := x.2.handle
    let before_ : List Nat := match lookup? old.sch.streams h with | some s => s.egress | none => []
    let after : List Nat := match lookup? c.sch.streams h with | some s => if isAssured s then s.egress else [] | none => []
    let cut := before_.filter (fun p => !after.contains p)
    if cut.isEmpty then d else cut.foldl (fun d p => flushStream h p d) (flushWindow x.1 d)) d

/-- The lowest free Assured slot (06 R177). (log entry 30: DESIGN CHOICE) -/
def freeAsdSlot (d : Device) : Nat := ((List.range 2048).find? (fun n => (slotAt d n).isNone)).getD 2048

/-- The eight counters of an Assured slot are cleared when a commit frees it (06 R206). -/
def clearAsdCtr (n : Nat) (d : Device) : Device :=
  { d with ctr := (List.range 8).foldl (fun m k => removeAt m (0x384000 + n * 64 + k * 8)) d.ctr }

/-- Slots of Assured streams: those removed are freed; a new DEVICE stream has M = 0 (06 R177, R182). (log entry 30: DESIGN CHOICE) -/
def switchSlots (c : Cfg) (d : Device) : Device :=
  let here (h : Nat) : Bool := match lookup? c.sch.streams h with | some s => isAssured s | none => false
  let gone := d.asd.slots.filter (fun x => !here x.2.handle)
  let d := { d with asd := { d.asd with slots := d.asd.slots.filter (fun x => here x.2.handle) } }
  let d := gone.foldl (fun d x => clearAsdCtr x.1 d) d
  c.sch.streams.foldl (fun d x =>
    if isAssured x.2 && (slotOf d x.1).isNone then
      let n := freeAsdSlot d
      let d := setSlot n { handle := x.1 } d
      if x.2.asd.device then
        let no := d.asd.nextNo
        tryComplete no (setRec no (fun r => { r with copy0 := true, copy1 := true, acked := true }) (writeMirror n 0 d))
      else d
    else d) d

/-- Groups, meters, stream gates and queues whose configuration the commit rewrites (02 R50, R66; 03 R85). The pending moves of a group stay
pending (02 R54), but for a group that is gone. -/
def switchTables (old c : Cfg) (d : Device) : Device :=
  let here (g : Nat) : Bool := (lookup? c.fwd.groups g).isSome
  let d := { d with fwd := { d.fwd with lg := d.fwd.lg.filter (fun x => here x.1), moves := d.fwd.moves.filter (fun m => here (m.1 / 256)) } }
  let d := c.fwd.groups.foldl (fun d x =>
    if lookup? old.fwd.groups x.1 = some x.2 then d
    else { d with fwd := { d.fwd with lg := insertAt d.fwd.lg x.1 x.2.table } }) d
  let gone (n : Nat) : Bool := decide (lookup? old.fwd.meters n ≠ lookup? c.fwd.meters n)
  let d := { d with fwd := { d.fwd with meters := d.fwd.meters.filter (fun x => !gone x.1) } }
  let same (n : Nat) : Bool := decide (lookup? old.sch.gates n = lookup? c.sch.gates n)
  let d := { d with sch := { d.sch with psfp := d.sch.psfp.filter (fun x => same x.1) } }
  let d := c.sch.gates.foldl (fun d x => if same x.1 then d else streamGateEvent x.1 d) d
  (old.buf.queues.map Prod.fst ++ c.buf.queues.map Prod.fst).foldl (fun d q =>
    if (queueCfg old q).profiles = (queueCfg c q).profiles then d else setQueue q { queueOf d q with avg := none } d) d

/-- The old configuration as frames decided under it go on seeing it (01 R11, 02 R66): a group that the commit rewrites keeps its live table. -/
def retiredCfg (old c : Cfg) (d : Device) : Cfg :=
  { old with fwd := { old.fwd with groups := old.fwd.groups.map (fun x =>
      if lookup? c.fwd.groups x.1 = some x.2 then x else (x.1, { x.2 with table := lookupD d.fwd.lg x.1 x.2.table })) } }

/-- SCs of SecYs and receive SCs that are gone lose their SAs (08 R252). -/
def switchMacsec (c : Cfg) (d : Device) : Device :=
  { d with msc := { d.msc with
    tx := d.msc.tx.filter (fun x => (lookup? c.msc.secys x.1).isSome), rx := d.msc.rx.filter (fun x => (lookup? c.msc.rxScs x.1).isSome) } }

/-- CAN and MVB channels join or leave their bus (10 R328, R329; 11 R351); both stay OFF before the blob's commit. -/
def switchBuses (old : Cfg) (d : Device) : Device :=
  if !d.ssn.blobDone then d
  else
    let d := (List.range 8).foldl (fun d n =>
      if (canCfg d.cfg n).enabled then canOn n d
      else if (canCfg old n).enabled then losePort (26 + n) (canOff n d) else d) d
    (List.range 2).foldl (fun d n =>
      if (mvbCfg d.cfg n).enabled then (if (mvbSt d n).role = .off then mvbOn n d else mvbChange n (mvbCfg old n) d)
      else if (mvbCfg old n).enabled then mvbOff n d else d) d

/-- Outputs that are new or changed begin their periods (12 R368, R370). -/
def switchOutputs (old c : Cfg) (d : Device) : Device :=
  let d := { d with gw := { d.gw with outs := d.gw.outs.filter (fun x => (lookup? c.gw.outputs x.1).isSome) } }
  c.gw.outputs.foldl (fun d x =>
    if lookup? old.gw.outputs x.1 = some x.2 then d
    else
      let g := gwOut d x.1
      let img : Option Bytes := if (lookup? old.gw.outputs x.1).map (·.len) = some x.2.len then g.image else none
      setGwOut x.1 { g with image := img, heard := d.now, cycled := d.now, fed := false, stale := false } d) d

/-- The seasons parameters reach retention and VAON (13 Table SSN-5, 10 R330); KEEPALIVE is the fallback throughout (13 R395). -/
def switchSeasons (old c : Cfg) (d : Device) : Device :=
  let d := modSsn (fun s => { s with params := c.ssn, canWakeCfg := c.can }) d
  let d := if old.ssn.keepalive = c.ssn.keepalive then d
    else if c.ssn.keepalive then enterFallback d else endConsent (modSsn (fun s => { s with fallback := false }) d)
  reviewReady d

/-- The pair unit starts or stops with PAIRED (14 R411, R426). -/
def switchPair (d : Device) : Device :=
  if d.cfg.pair.paired then (if d.pair.role = .unpaired then startElection d else d)
  else if d.pair.role = .unpaired then d
  else replicationLost (leaseLow (setRole .unpaired (wyusinDown d)))

/-- All units switch together at the epoch boundary (01 R10): the old configuration stays for frames decided under it (01 R11). -/
def switchEpoch (c : Cfg) (resv : Tbl Resv) (epoch : Word) (d : Device) : Device :=
  let old := d.cfg
  let d := leaveStreams old c d
  let d := { d with cfg := c, oldCfgs := insertAt d.oldCfgs d.glb.cfgEpoch.toNat (retiredCfg old c d), glb := { d.glb with cfgEpoch := epoch }, sch := { d.sch with resv := resv } }
  let d := ((List.range 13).map (· + 25)).foldl (fun d p => switchInner old c p d) ((List.range 25).foldl (switchPort old c) d)
  let d := switchMacsec c (switchTables old c (switchLists old c d))
  let d := switchSlots c d
  let d := if old.fwl.bank = c.fwl.bank then d else raise sqFWL 7 0x0707 0 d
  let d := switchSeasons old c (gwStart (switchOutputs old c (switchBuses old d)))
  let d := if d.cfg.top.configured then tryInsert d else d
  reviewAll (reviewWyusin (switchPair d))

/-- A commit takes effect now under an epoch number, and both blocks report it (01 R10, 02 R66). -/
def commitAt (c : Cfg) (bs : List PortBound) (epoch : Word) (reval : Bool) (d : Device) : Device :=
  let touched := decide (admissionView d.cfg ≠ admissionView c)
  let lists := decide (d.cfg.sch.lists ≠ c.sch.lists)
  let d := switchEpoch c (if touched then resvAll c bs else d.sch.resv) epoch d
  let d := raiseBit sqFWD 0 (raise sqGLB 2 0x0103 0 d)
  let d := if lists then raise sqSCH 1 0x0505 0 d else d
  if reval then { d with fwl := { d.fwl with revalPos := some 0 } } else d

/-- A commit of this device: the epoch advances by one (01 R10). -/
def commitNow (c : Cfg) (bs : List PortBound) (reval : Bool) (d : Device) : Device := commitAt c bs (d.glb.cfgEpoch + 1) reval d

/-! ### Commits with a SWITCH_TIME (05 R147 to R149) -/

/-- Conditions of R147 on SWITCH_TIME in ns; `limit` is false for a Solstice (20 R568). -/
def alignOk (c : Cfg) (t : Nat) (limit : Bool) (d : Device) : Bool :=
  let now := localNs d
  (!limit || (decide (now + 5000000 ≤ t) && decide (t ≤ now + 60000000000))) &&
  c.sch.lists.all (fun x =>
    decide (lookup? d.cfg.sch.lists x.1 = some x.2) ||
    (decide (listPos x.2 t = 0) && (match opList d x.1 with | some g => decide (listPos g t = 0) | none => true)))

/-- Reservations of both sets are held until the switch (05 R148). -/
def holdSwitch (x : PendingCommit) (bs : List PortBound) (d : Device) : Device :=
  let touched := decide (admissionView d.cfg ≠ admissionView x.cfg)
  reviewAll { d with switching := some x, sch := { d.sch with resv := if touched then resvFor x.cfg bs true d else d.sch.resv } }

/-- GCL_SWITCH (05 R148). -/
def gclSwitch (d : Device) : Device :=
  match d.switching with
  | none => d
  | some s =>
    if s.sec * 1000000000 + s.ns ≤ localNs d then
      let bs := (checkAll d.cfg s.cfg d).1
      commitAt s.cfg bs (s.epoch.getD (d.glb.cfgEpoch + 1)) false { d with switching := none }
    else d

/-- ADMISSION_RECHECK (05 R171), after a bound has risen: every stream that fails now is marked at risk and reported, and no stream stays
flagged. (log entry 28: DESIGN CHOICE) -/
def admissionRecheck (d : Device) : Device :=
  if !d.sch.recheck then d
  else
    let r := standingChecks d.cfg ++ (checkAll d.cfg d.cfg d).2
    let d := { d with sch := { d.sch with recheck := false, streams := d.sch.streams.map (fun x => (x.1, { x.2 with flagged := false, atRisk := false })) } }
    let due : Tbl StreamCfg := d.cfg.sch.streams.filter (fun x => isAdmitted x.2)
    due.foldl (fun d x =>
      match r.find? (fun y => decide (y.handle = x.1)) with
      | none => d
      | some y =>
        let d := setStream x.1 { lookupD d.sch.streams x.1 {} with atRisk := true } d
        lateRecord { reason := 0x0503, detail := rejectBytes y } (raise sqSCH 3 0x0503 x.1 d)) d

/-! ### The pair's commits (01 R13, 14 R434) -/

/-- PARTNER_COMMIT: the standby prepares the active's commit and applies it at the same epoch number, or refuses it. The answer goes
back on channel 5: the epoch, and the reason of a refusal. (log entry 48: DEDUCED) -/
def partnerCommit (c : Cfg) (epoch : Word) (at_ : Option (Nat × Nat)) (d : Device) : Device :=
  if !isStandby d ∨ !d.pair.wyUp then d
  else
    match prepare c at_.isSome d with
    | .refused r _ => sendPartner 5 .commit epoch.toNat r.reason.toNat d
    | .ok bs =>
      let d := sendPartner 5 .commit epoch.toNat 0 d
      match at_ with
      | some t => holdSwitch { sec := t.1, ns := t.2, cfg := c, epoch := some epoch } bs d
      | none => commitAt c bs epoch false d

/-- The active exchanges each commit with a ready partner. -/
def exchanges (d : Device) : Bool := decide (d.pair.role = .active) && d.pair.partnerReady && d.pair.wyUp

/-- The exchange of a commit waits for the standby's answer, at most COMMIT_WAIT (14 R434). -/
def awaitPartner (d : Device) : Device :=
  let t := d.now + msPs d.cfg.pair.commitWaitMs
  { d with pair := { d.pair with exchange := some t } }

/-- The configuration with the routes and next hops of an inauguration. -/
def routedCfg (routes : List Route) (hops : Tbl NextHop) (c : Cfg) : Cfg := { c with fwd := { c.fwd with routes := routes, nextHops := hops } }

/-- ROUTE_COMMIT: routes and next hops of an inauguration (09 R293): behind every commit that is on its way, held while a transition runs, prepared by every
manager but admission, and exchanged with a ready partner, whose answer is `ans`. One that is refused is not committed. (log entry 44: DESIGN CHOICE) -/
def routeCommit (routes : List Route) (hops : Tbl NextHop) (ans : PartnerAns) (d : Device) : Device :=
  if !d.top.routeQueued ∨ inTransition d ∨ d.switching.isSome ∨ configBusy d ∨ !isOwner d then d
  else
    let c := routedCfg routes hops d.cfg
    let d := { d with top := { d.top with routeQueued := false } }
    match prepare c false d with
    | .refused _ _ => d
    | .ok bs =>
      if !exchanges d then commitNow c bs false d
      else
        let d := sendPartner 5 .commit (d.glb.cfgEpoch.toNat + 1) 0 d
        match ans with
        | .ok => commitNow c bs false d
        | .refused _ _ => d
        | .waiting => awaitPartner { d with top := { d.top with routeWait := some (routes, hops) } }

/-! ### The configuration an opcode asks for (16 Table NCP-5) -/

/-- The resulting configuration of a class C opcode but CONFIG_LOAD. -/
def buildCfg (op : NcpOp) (c : Cfg) : Cfg :=
  match op with
  | .portConfig p x =>
    let o := cfgPort c p
    { c with ports := insertAt c.ports p { x with
        configured := true, enabled := o.enabled, preempt := o.preempt, holdAdvanceNs := o.holdAdvanceNs, idleSlope := o.idleSlope, ptp := o.ptp,
        springClear := o.springClear } }
  | .portEnable p on _ => { c with ports := insertAt c.ports p { cfgPort c p with enabled := on } }
  | .streamSet h s => { c with sch := { c.sch with streams := insertAt c.sch.streams h s } }
  | .streamRemove h => { c with sch := { c.sch with streams := removeAt c.sch.streams h } }
  | .gclSet lists _ _ => { c with sch := { c.sch with lists := lists.foldl (fun t x => insertAt t x.1 x.2) c.sch.lists } }
  | .shaperSet p slopes pre hold =>
    { c with ports := insertAt c.ports p { cfgPort c p with idleSlope := slopes, preempt := pre, holdAdvanceNs := hold } }
  | .zoneSet map hi cp zones => { c with fwl := { c.fwl with zoneMap := map, zoneHi := hi, zoneCp := cp, zones := zones } }
  | .rulesLoad bank _ => { c with fwl := { c.fwl with bank := bank } }
  | .profileSet n p => { c with fwl := { c.fwl with profiles := insertAt c.fwl.profiles n p } }
  | .gwConfig g => { c with gw := { g with loaded := c.gw.loaded, mac := c.gw.mac } }
  | .canConfig n x => { c with can := insertAt c.can n x }
  | .mvbConfig n x => { c with mvb := insertAt c.mvb n x }
  | .timeConfig t ports =>
    { c with tim := t, ports := ports.foldl (fun u x => insertAt u x.1 { cfgPort c x.1 with ptp := x.2 }) c.ports }
  | .seasonsConfig s => { c with ssn := s }
  | .pairConfig p => { c with pair := p }
  | .secySet m => { c with msc := m }
  | _ => c

end Sys2Proof.Machine
end

