-- ==== Sys2Proof/Machine/Security.lean ====
section
/-! DEFINITION. The security manager (19) and the key side of MACsec (08): slots and their use, installation and erasure, tamper, the
entropy source, measurements, derivation and attestation, Spring keys and packet-number checkpoints. -/

namespace Sys2Proof.Machine

def modSec (g : SecState → SecState) (d : Device) : Device := { d with sec := g d.sec }

def modMsc (g : MscState → MscState) (d : Device) : Device := { d with msc := g d.msc }

/-! ### Boot counter and measurements (R529, R543) -/

def bootCounter (d : Device) : Nat := d.otp.epochFuses * 281474976710656 + d.keeper.bootCount.toNat

def measOf (d : Device) (i : Nat) : BitVec 256 := lookupD d.sec.meas i 0

def measBytes (v : BitVec 256) : Bytes := toBe 32 v.toNat

/-- Extending a measurement register by a digest (R543). (log entry 60: DESIGN CHOICE) -/
def extendMeas (i : Nat) (digest : BitVec 256) (d : Device) : Device :=
  modSec (fun s => { s with meas := insertAt s.meas i (Config.sha256 (measBytes (measOf d i) ++ measBytes digest)) }) d

/-- BINDFW (Table SEC-7). -/
def bindFw (d : Device) : BitVec 256 := Config.sha256 (measBytes (measOf d 0) ++ measBytes (measOf d 1))

/-- The value a BIND names now. -/
def bindNow (d : Device) (b : Nat) : BitVec 256 := if b = 1 then measOf d 0 else if b = 2 then bindFw d else 0

/-- GLB_DEVID [31] and [11:0] as 16 bits (Table SEC-7). -/
def devId16 (d : Device) : Nat := devWord d.glb.deviceId

/-- The derivation context header (Table SEC-7). -/
def ctxHeader (boot bind : Nat) (d : Device) : Bytes :=
  toBe 8 boot ++ toBe 8 Config.uid.toNat ++ toBe 2 (devId16 d) ++ toBe 1 d.otp.lc ++ toBe 1 bind ++ measBytes (bindNow d bind)

/-- ASCII labels of Table SEC-8. -/
def labelAtt256 : Bytes := [0x41, 0x54, 0x54, 0x32, 0x35, 0x36]
def labelAtt384 : Bytes := [0x41, 0x54, 0x54, 0x33, 0x38, 0x34]

/-- A slot whose recorded binding differs is locked out; it is usable again when the matching image runs (R543). -/
def checkBinds (b : Nat) (d : Device) : Device :=
  d.sec.slots.foldl (fun d x =>
    if x.2.desc.bind ≠ b ∨ x.1 = 0 then d
    else
      let put (st : KeySt) : Device := modSec (fun s => { s with slots := insertAt s.slots x.1 { x.2 with st := st } }) d
      if x.2.bound = bindNow d b then (if x.2.st = .lockedOut then put .written else d)
      else if x.2.st = .written then raise sqSEC 7 0x1209 x.1 (put .lockedOut)
      else d) d

/-! ### Use of a slot (R540, R541) -/

/-- Why masked operations are refused at all: after a tamper, with the Gailalum core stopped, without entropy (R533, 15 R459, 08 R270,
R279). -/
def secRefusal (d : Device) : Option Res :=
  if d.sec.tampered then some { status := 0x0404, reason := 0x1231 }
  else if d.ccr.gaiStopped then some { status := 0x0402 }
  else if !d.msc.entropyOk ∨ d.msc.drbgDegraded then some { status := 0x0401 }
  else none

/-- A use by a master (0 control core, 1 split core, 2 Gailalum core, 3 PCIe function) and caller class, for a USE bit (R541). -/
def slotUse (master : Nat) (client : Bool) (bit n : Nat) (d : Device) : Option Res :=
  match keySlot d n with
  | none => some { status := 0x0404, reason := 0x1220 }
  | some x =>
    if x.st = .erasing then some { status := 0x0404, reason := 0x1224 }
    else if x.st ≠ .written ∨ !x.desc.use.getLsbD bit ∨ !x.desc.masters.getLsbD master ∨ !(if client then x.desc.client else x.desc.internal) ∨
        !x.desc.lc.getLsbD d.otp.lc then some { status := 0x0404, reason := 0x1220 }
    else if d.sec.debugTicket ∧ !x.desc.debugOk ∧ master ≠ 2 then some { status := 0x0404, reason := 0x1232 }
    else none

/-- Master of a request by its path (R541). -/
def masterOf : Option Transport → Nat
  | some .pcie => 3
  | some .split => 1
  | _ => 0

/-- A descriptor of Table SEC-6 whose TYPE matches its USE. (log entry 35: DESIGN CHOICE) -/
def descOk (x : SlotDesc) : Bool :=
  let t := x.type_.toNat
  let need (bit ty : Nat) : Bool := !x.use.getLsbD bit || decide (t = ty)
  decide (1 ≤ t ∧ t ≤ 4) && decide (x.use.toNat < 64) && decide (x.lc &&& 0xF9 = 0) && decide (x.bind ≤ 2) &&
  need 0 1 && need 1 2 && need 2 2 && need 4 2 && need 3 3 && need 5 4

/-! ### SAs (08 R268 to R271, R275) -/

/-- Position of a new SA in its SC: the free one of two. -/
def freePos (used : List Nat) : Nat := if used.contains 0 then 1 else 0

/-- SAs of SecYs on a port. -/
def portOfSecy (c : Cfg) (n : Nat) : Option Nat := (lookup? c.msc.secys n).map (·.port)

/-- An SA goes into its entry (08 R268, R269): SPRING_CLEAR operation of its port ends (R276); the SA number. -/
def putSa (x : SaDesc) (key salt src : Nat) (spring mka : Bool) (ckpt : Option Nat) (d : Device) : Nat × Device :=
  let back (p : Option Nat) (d : Device) : Device := match p with | some p => modPort p (fun s => { s with clearMode := false, clearFrame := false }) d | none => d
  if x.tx then
    let sc := txScOf d x.sc
    let pos := freePos (sc.sas.map (·.pos))
    let sa : TxSa := { an := x.an, pn := x.pn, key := key, ssci := x.ssci, salt := salt, src := src, mka := mka, spring := spring, ckpt := ckpt.getD 0, ckptPend := ckpt.map (fun _ => x.pn), pos := pos }
    let sc := { sc with
      sas := sc.sas ++ [sa], enc := if x.encode then some x.an else sc.enc, stopped := if x.encode then false else sc.stopped }
    (x.sc * 2 + pos, reviewWyusin (back (portOfSecy d.cfg x.sc) (setTxSc x.sc sc d)))
  else
    let l := rxSas d x.sc
    let pos := freePos (l.map (·.pos))
    let secy := (lookup? d.cfg.msc.rxScs x.sc).map (·.secy)
    (x.sc * 2 + pos, back (secy.bind (portOfSecy d.cfg))
      (setRxSas x.sc (l ++ [{ an := x.an, lowest := x.pn, high := x.pn, key := key, ssci := x.ssci, salt := salt, src := src, spring := spring, pos := pos }]) d))

/-- Checks of R269 on a descriptor: its SecY or receive SC, PN and CIPHER, and the entry. -/
def saCheck (x : SaDesc) (d : Device) : Option Res :=
  let secy : Option SecyCfg := if x.tx then lookup? d.cfg.msc.secys x.sc
    else (lookup? d.cfg.msc.rxScs x.sc).bind (fun r => lookup? d.cfg.msc.secys r.secy)
  match secy with
  | none => some { status := 0x0105, reason := 0x0822 }
  | some y =>
    if x.pn = 0 ∨ 18446744073709551616 ≤ x.pn ∨ (!y.xpn ∧ 4294967296 ≤ x.pn) ∨ x.xpnKey ≠ y.xpn then some { status := 0x0105, reason := 0x0822 }
    else
      let ans : List (BitVec 2) := if x.tx then (txScOf d x.sc).sas.map (·.an) else (rxSas d x.sc).map (·.an)
      if ans.contains x.an ∨ 2 ≤ ans.length then some { status := 0x0203 } else none

/-- Remove SAs: those a test names. -/
def dropSas (tx : Nat → TxSa → Bool) (rx : Nat → RxSa → Bool) (d : Device) : Device :=
  modMsc (fun m => { m with
    tx := m.tx.map (fun x => (x.1, { x.2 with
      sas := x.2.sas.filter (fun a => !tx x.1 a), enc := if x.2.sas.any (fun a => tx x.1 a && decide (x.2.enc = some a.an)) then none else x.2.enc }))
    rx := (m.rx.map (fun x => (x.1, x.2.filter (fun a => !rx x.1 a)))).filter (fun x => !x.2.isEmpty) }) d

/-! ### Installing (R546, 08 R269) -/

/-- A blob's wrap (R546 steps 2 and 3). (log entry 35: DESIGN CHOICE) -/
def wrapCheck (master : Nat) (b : KeyBlob) (d : Device) : Option Res :=
  let unwrap : Option Res := if b.opens ∧ b.uid = Config.uid then none else some { status := 0x0403, reason := 0x1221 }
  match b.wrap with
  | .slot n => match slotUse master true 0 n d with
    | some r => some r
    | none => unwrap
  | .plain => if d.otp.lc = 1 then unwrap else some { status := 0x0404, reason := 0x1222 }
  | .spring => some { status := 0x0105 }

/-- KEY_INSTALL of an accepted blob (R546, 08 R269); `flashOk`: the key table record could be written. (log entry 35: DESIGN CHOICE) -/
def keyInstall (master : Nat) (b : KeyBlob) (flashOk : Bool) (d : Device) : Res × Device :=
  match secRefusal d with
  | some r => (r, d)
  | none =>
    match b.body with
    | .slot n desc =>
      if n = 0 then ({ status := 0x0404 }, d)
      else if 64 ≤ n ∨ !descOk desc then ({ status := 0x0105 }, d)
      else if (lookup? d.sec.slots n).isSome then ({ status := 0x0203 }, d)
      else
        match wrapCheck master b d with
        | some r => (r, d)
        | none =>
          let bound := bindNow d desc.bind
          match desc.persist, d.keeper.root with
          | true, none => ({ status := 0x0404, reason := 0x1230 }, d)
          | p, root =>
            if p && !flashOk then ({ status := 0x0003, reason := 0x1225 }, d)
            else
              let rec_ : KeyRecord := { slot := n, root := root.getD 0, desc := desc, key := b.key, bound := bound }
              let d := if p then { d with keyTable := d.keyTable ++ [rec_] } else d
              let d := modSec (fun s => { s with slots := insertAt s.slots n { st := .written, desc := desc, key := b.key, bound := bound } }) d
              ({}, reviewReady (raise sqSEC 4 0x1205 n d))
    | .sa x =>
      match wrapCheck master b d with
      | some r => (r, d)
      | none =>
        match saCheck x d with
        | some r => (r, d)
        | none =>
          let src := match b.wrap with | .slot n => n | _ => 255
          let (no, d) := putSa x b.key b.salt src false false none d
          ({ body := toBe 2 no }, d)

/-! ### Erasing (R548, 08 R271) -/

/-- A frame in transmission or held by the MAC under an erased transmit SA. -/
def egressUnder (l : List (Bool × Nat × BitVec 2 × Nat)) (t : Option TxCur) : Option Nat :=
  match t with
  | some { sec := some x, .. } => if l.any (fun e => e.1 && decide (e.2.1 = x.n ∧ e.2.2.1 = x.an)) then some x.n else none
  | _ => none

/-- Receive SC of a frame in an ingress engine under an erased SA. -/
def ingressUnder (l : List (Bool × Nat × BitVec 2 × Nat)) (f : Frame) : Option Nat :=
  match f.mac with
  | .pending sc an _ => if l.any (fun e => !e.1 && decide (e.2.1 = sc ∧ e.2.2.1 = an)) then some sc else none
  | _ => none

/-- Frames that remain under the erased SAs. -/
def remaining (l : List (Bool × Nat × BitVec 2 × Nat)) (d : Device) : Bool :=
  d.ports.any (fun x => (egressUnder l x.2.cur).isSome || (egressUnder l x.2.preempted).isSome) ||
  d.buf.frames.any (fun x => (ingressUnder l x.2).isSome)

/-- The erase of a slot ends (R548 steps 3 and 4). -/
def slotErased (n : Nat) (d : Device) : Device :=
  let d := closeHmac (fun x => decide (x.slot = n)) d
  reviewReady (raise sqSEC 4 0x1206 n (modSec (fun s => { s with slots := removeAt s.slots n }) d))

/-- KEY_ERASE (R548, 08 R271): `none` while frames remain; the reply then comes with ERASE_ABORT. -/
def keyErase (who : Option (Nat × Word)) (t : KeyTarget) (d : Device) : Option Res × Device :=
  if d.sec.tampered then (some { status := 0x0404, reason := 0x1231 }, d)
  else if d.ccr.gaiStopped then (some { status := 0x0402 }, d)
  else
    match t with
    | .slot n =>
      if n = 0 then (some { status := 0x0404 }, d)
      else if 64 ≤ n then (some { status := 0x0105 }, d)
      else
        match lookup? d.sec.slots n with
        | none => (some {}, d)
        | some x =>
          if x.st = .erasing then (some { status := 0x0404, reason := 0x1224 }, d)
          else
            let l := (d.msc.tx.flatMap (fun c => (c.2.sas.filter (fun a => decide (a.src = n))).map (fun a => (true, c.1, a.an, d.now)))) ++
              (d.msc.rx.flatMap (fun c => (c.2.filter (fun a => decide (a.src = n))).map (fun a => (false, c.1, a.an, d.now))))
            let d := { d with keyTable := d.keyTable.map (fun r => if r.slot = n then { r with retired := true } else r) }
            let d := dropSas (fun _ a => decide (a.src = n)) (fun _ a => decide (a.src = n)) d
            let d := reviewReady (modSec (fun s => { s with slots := insertAt s.slots n { x with st := .erasing } }) d)
            if remaining l d then
              (none, modNcp (fun m => { m with pend := m.pend ++ [{ who := who, kind := .eraseSlot n }] }) (modMsc (fun m => { m with erasing := l }) d))
            else (some { body := toBe 4 0 }, slotErased n d)
    | .sa tx sc an =>
      let l := [(tx, sc, an, d.now)]
      let d := dropSas (fun n a => tx && decide (n = sc ∧ a.an = an)) (fun n a => !tx && decide (n = sc ∧ a.an = an)) d
      if remaining l d then
        (none, modNcp (fun m => { m with pend := m.pend ++ [{ who := who, kind := .eraseSa tx sc an }] }) (modMsc (fun m => { m with erasing := l }) d))
      else (some { body := toBe 4 0 }, d)

/-- A group 0x09 command that waits for frames in an engine: the next ones wait behind it (R546). -/
def isErase (p : PendOp) : Bool :=
  match p.kind with
  | .eraseSlot _ => true
  | .eraseSa _ _ _ => true
  | _ => false

/-- An egress remainder ends with an invalid mCRC and FCS (08 R271). -/
def abortEgress (l : List (Bool × Nat × BitVec 2 × Nat)) (d : Device) : Nat × Device :=
  (d.ports.map Prod.fst).foldl (fun (a : Nat × Device) p =>
    let s := portSt a.2 p
    let one (a : Nat × Device) (t : Option TxCur) : Nat × Device := match egressUnder l t with
      | some n => (a.1 + 1, txScCtr n 7 (mscCount 0x0817 a.2))
      | none => a
    let mark (t : Option TxCur) : Option TxCur := if (egressUnder l t).isSome then t.map (fun x => { x with abort := true }) else t
    let a := one (one a s.cur) s.preempted
    (a.1, modPort p (fun s => { s with cur := mark s.cur, preempted := mark s.preempted }) a.2)) (0, d)

/-- An ingress frame is discarded, or given AUTH_FAIL toward HI and CP (08 R271). -/
def abortIngress (l : List (Bool × Nat × BitVec 2 × Nat)) (d : Device) : Nat × Device :=
  (d.buf.frames.map Prod.fst).foldl (fun (a : Nat × Device) id =>
    match (frameOf a.2 id).bind (ingressUnder l) with
    | some sc => (a.1 + 1, authFailFrame id (rxScCtr sc 11 (mscCount 0x0817 a.2)))
    | none => a) (0, d)

/-- ERASE_ABORT: 1 ms after the erase (08 R271). (log entry 66: DESIGN CHOICE) -/
def eraseAbort (d : Device) : Device :=
  match d.msc.erasing with
  | [] => d
  | e :: rest =>
    if e.2.2.2 + 1000000000 ≤ d.now then
      let l := e :: rest
      let (n, d) := abortEgress l d
      let (m, d) := abortIngress l d
      let d := if n + m = 0 then d else raise sqMSC 3 0x0804 (n + m) d
      let d := modMsc (fun x => { x with erasing := [] }) d
      match d.ncp.pend.find? isErase with
      | none => d
      | some p =>
        let d := modNcp (fun x => { x with pend := x.pend.filter (fun y => !isErase y) }) d
        let d := match p.kind with | .eraseSlot k => slotErased k d | _ => d
        finish p.who 0 0 (toBe 4 (n + m)) d
    else d

/-! ### Checkpoints and Spring SAs (08 R274 to R276) -/

/-- PN_CKPT_WRITE_DONE of an SA: the Keeper holds the value; copies that waited for it go on. -/
def pnCkptWriteDone (tx : Bool) (sc : Nat) (an : BitVec 2) (d : Device) : Device :=
  let k := sc * 4 + an.toNat
  if tx then
    let x := txScOf d sc
    match (x.sas.find? (fun a => a.an = an)).bind (·.ckptPend) with
    | none => d
    | some v => { setTxSc sc { modSa x an (fun a => { a with ckpt := v, ckptPend := none }) with stalled := false } d with
        keeper := { d.keeper with ckptTx := insertAt d.keeper.ckptTx k v } }
  else
    match (rxSaOf d sc an).bind (·.ckptPend) with
    | none => d
    | some v => { setRxSas sc ((rxSas d sc).map (fun a => if a.an = an then { a with ckptPend := none } else a)) d with
        keeper := { d.keeper with ckptRx := insertAt d.keeper.ckptRx k v } }

/-- A Spring SA returns: transmit at C + 2^26, whose checkpoint is written first, receive at D + 2^25 (08 R274, R275). (log entry 34: DESIGN CHOICE) -/
def putSpringSa (x : SaDesc) (key salt : Nat) (d : Device) : Device :=
  let k := x.sc * 4 + x.an.toNat
  let c := lookupD (if x.tx then d.keeper.ckptTx else d.keeper.ckptRx) k 0
  let pn := if x.tx then c + 67108864 else c + 33554432
  (putSa { x with pn := pn } key salt 253 true false (if x.tx then some c else none) d).2

/-- Spring SAs of an image or of a warm reset are unwrapped and installed (08 R269, R273), or lost with the Keeper or without entropy
(08 R276, 19 R549): a port with SPRING_CLEAR then runs clear, another keeps its transmitter off. (log entry 34: DESIGN CHOICE) -/
def springKeys (blobs : List KeyBlob) (d : Device) : Device :=
  let sas := blobs.filterMap (fun b => match b.body with | .sa x => some (b, x) | _ => none)
  if sas.isEmpty then d
  else if d.keeper.root.isNone ∨ !d.msc.entropyOk ∨ d.ccr.gaiStopped then
    let ports := (d.cfg.msc.secys.map (fun x => x.2.port)).eraseDups
    raise sqMSC 5 0x0806 0 (ports.foldl (fun d p =>
      if (portCfg d p).springClear then modPort p (fun s => { s with clearMode := true }) d else modPort p (fun s => { s with txOn := false }) d) d)
  else sas.foldl (fun d x => if x.1.opens ∧ x.1.uid = Config.uid ∧ x.2.xpnKey ∧ (saCheck { x.2 with pn := 1 } d).isNone then putSpringSa x.2 x.1.key x.1.salt d else d) d

/-! ### MKA (08 R251, R264, R265, R268) -/

/-- What MKA decides on a received MKPDU: a SAK installed under the CAK's slot, an SA made the encoding SA, an SA retired. -/
inductive MkaAct where
  | install (x : SaDesc) (key salt : Nat)
  | encode (sc : Nat) (an : BitVec 2)
  | retire (tx : Bool) (sc : Nat) (an : BitVec 2)
  deriving DecidableEq, Repr

/-- What a participant of MKA does to an SA (08). (log entry 34: DESIGN CHOICE) -/
def mkaAct (cak : Nat) (a : MkaAct) (d : Device) : Device :=
  match a with
  | .install x key salt => if (saCheck x d).isNone then (putSa x key salt cak false true none d).2 else d
  | .encode sc an =>
    let x := txScOf d sc
    if x.sas.any (fun a => decide (a.an = an)) then reviewWyusin (setTxSc sc { x with enc := some an, stopped := false } d) else d
  | .retire tx sc an => dropSas (fun n a => tx && decide (n = sc ∧ a.an = an)) (fun n a => !tx && decide (n = sc ∧ a.an = an)) d

/-- MKA_PDU: MKA uses the CAK's slot as Renioft's own function (R541). (log entry 34: DESIGN CHOICE) -/
def mkaPdu (cak : Nat) (acts : List MkaAct) (d : Device) : Device :=
  if (secRefusal d).isSome ∨ (slotUse 0 false 3 cak d).isSome then d else acts.foldl (fun d a => mkaAct cak a d) d

/-! ### Entropy (R549, 08 R270, R279) -/

/-- SEC's ledger entry and what its retirement does: impairment alone (21 Table FLT-1). -/
def secHard (code : BitVec 16) (d : Device) : Device := enterImpaired (hardFault 152 code id d)

/-- Records of the flash key table that unwrap under the root secret come back; the others are marked retired (R547). -/
def loadKeys (d : Device) : Device :=
  let live := d.keyTable.filter (fun r => !r.retired)
  let good (r : KeyRecord) : Bool := decide (d.keeper.root = some r.root)
  let d := { d with keyTable := d.keyTable.map (fun r => if r.retired || good r then r else { r with retired := true }) }
  let d := if live.any (fun r => !good r) then raise sqSEC 2 0x1203 0 d else d
  (live.filter good).foldl (fun d r =>
    modSec (fun s => { s with slots := insertAt s.slots r.slot { st := .written, desc := r.desc, key := r.key, bound := r.bound } }) d) d

/-- The start-up tests pass: the DRBG is seeded, a due root secret is made and the key table loaded (R530, R547). (log entry 65: DEDUCED) -/
def entropyPass (d : Device) : Device :=
  let (seed, d) := drawFree 18446744073709551616 d
  let d := modMsc (fun m => { m with entropyOk := true, entropyDone := true, drbg := seed, drbgDegraded := false }) d
  let d := if d.sec.rootDue ∧ d.keeper.root.isNone then
      let (r, d) := drawFree 18446744073709551616 d
      modSec (fun s => { s with rootDue := false }) { d with keeper := { d.keeper with root := some r, valid := true } }
    else d
  if d.sec.loadDue then
    let d := modSec (fun s => { s with loadDue := false }) (loadKeys d)
    let d := checkBinds 1 d
    reviewReady (if (lookup? d.sec.meas 1).isSome then checkBinds 2 d else d)
  else d

/-- ENTROPY_TEST_DONE (R549): a first failure is a transient and the source is tested once more; a second is a hard fault. (log entry 65: DEDUCED) -/
def entropyTestDone (ok : Bool) (d : Device) : Device :=
  if d.msc.entropyDone then d
  else if ok then entropyPass d
  else if d.msc.entropyTries = 0 then
    transient 152 0x12F0 id (modMsc (fun m => { m with entropyTries := 1 }) d)
  else raise sqSEC 3 0x1204 0 (secHard 0x1204 (modMsc (fun m => { m with entropyOk := false, entropyDone := true }) d))

/-- DRBG_RESEED (08 R279). -/
def drbgReseed (d : Device) : Device :=
  if !d.msc.entropyOk ∨ d.msc.drbgDegraded then d
  else
    let (seed, d) := drawFree 18446744073709551616 d
    modMsc (fun m => { m with drbg := seed }) d

/-- HEALTH_TEST_FAIL (08 R279). -/
def healthTestFail (d : Device) : Device :=
  if d.msc.entropyDone ∧ d.msc.entropyOk then raise sqMSC 8 0x0809 0 (modMsc (fun m => { m with drbgDegraded := true }) d) else d

/-! ### Tamper (R531 to R534, 08 R272) -/

/-- Sources of Table SEC-2; VOLT and CLOCK by their parts. -/
inductive TamperSrc where
  | mesh | lid | voltBat | voltVdd | temp | crystal | refclk
  deriving DecidableEq, Repr

def TamperSrc.bit : TamperSrc → Nat
  | .mesh => 0
  | .lid => 1
  | .voltBat | .voltVdd => 2
  | .temp => 3
  | .crystal | .refclk => 4

/-- A source is watched now: its fuse is burnt and the season is one of Table SEC-2's; VDD once its detector is armed (22 R604). -/
def watched (x : TamperSrc) (d : Device) : Bool :=
  let up := decide (d.ssn.season = .summer) || decide (d.ssn.season = .spring)
  d.otp.tamperEn.getLsbD x.bit && (match x with | .voltVdd => up && d.clk.vddArmed | .refclk => up | _ => true)

/-- The Keeper's part (R532). -/
def zeroKeeper (x : TamperSrc) (d : Device) : Device :=
  let count := beAt d.keeper.tamperRecord 2 2 + 1
  let r : Bytes := toBe 2 (2 ^ x.bit) ++ toBe 2 count ++ toBe 4 d.keeper.timeSec.toNat ++ toBe 8 0
  { d with keeper := { d.keeper with valid := false, timeOk := false, root := none, bootCount := 0, ckptTx := [], ckptRx := [], tamperRecord := r } }

/-- The MSC engines' part (08 R272). (log entry 65: DEDUCED) -/
def tamperErase (d : Device) : Device :=
  let ends (t : Option TxCur) : Option TxCur := t.map (fun x => if x.sec.isSome then { x with abort := true } else x)
  let d := { d with ports := d.ports.map (fun (x : Nat × PortState) => (x.1, { x.2 with cur := ends x.2.cur, preempted := ends x.2.preempted })) }
  let d := (d.buf.frames.map Prod.fst).foldl (fun d id =>
    match (frameOf d id).map (fun (f : Frame) => f.mac) with
    | some (.pending sc _ _) => authFailFrame id (rxScCtr sc 11 (mscCount 0x0817 d))
    | _ => d) d
  let d := modMsc (fun m => { m with
    tx := d.cfg.msc.secys.map (fun x => (x.1, { stopped := true })), rx := [], erasing := [] }) d
  raise sqMSC 4 0x0805 0 d

/-- TAMPER_DETECT. (log entry 65: DEDUCED) -/
def tamperDetect (x : TamperSrc) (d : Device) : Device :=
  if !watched x d then d
  else
    let d := zeroKeeper x d
    if d.ssn.season = .summer ∨ d.ssn.season = .spring then
      let d := tamperErase (modSec (fun s => { s with slots := [], tampered := true }) d)
      let d := raise sqSEC 0 0x1201 0 d
      let d := d.ncp.pend.foldl (fun d p => if isErase p then finish p.who 0x0404 0x1231 [] d else d) d
      let d := modNcp (fun m => { m with pend := m.pend.filter (fun p => !isErase p) }) d
      reviewReady (secHard 0x1201 (closeHmac (fun _ => true) d))
    else d

/-! ### Attestation (R550) -/

def clockCode (m : ClockMode) : Nat := match m with | .freeRun => 0 | .locked => 1 | .holdover => 2

/-- FLAGS (Table SEC-10). -/
def reportFlags (d : Device) : Nat :=
  let b (x : Bool) (n : Nat) : Nat := if x then 2 ^ n else 0
  b d.sec.keeperWasValid 7 + b d.keeper.root.isSome 6 + b d.sec.debugTicket 5 + b d.sec.debugSeen 4 + b d.ccr.split 3 + b d.ccr.fromStrap 2 +
  b (d.sec.everUncompared || decide (d.ccr.mode = .uncompared) || decide (d.ccr.mode = .halted)) 1 + b d.sec.tampered 0

/-- Bytes 0 to 339 of the report (Table SEC-9). (log entry 65: DEDUCED) -/
def reportBody (nonce : Bytes) (p384 : Bool) (d : Device) : Bytes :=
  let rec_ := if d.keeper.tamperRecord.isEmpty then toBe 16 0 else d.keeper.tamperRecord
  let meas : Bytes := (List.range 8).flatMap (fun i => measBytes (measOf d i))
  [0x01, if p384 then 2 else 1] ++ toBe 2 (if p384 then 436 else 404) ++ toBe 8 Config.uid.toNat ++ toBe 2 (devId16 d) ++ toBe 1 d.otp.lc ++
  toBe 1 (reportFlags d) ++ toBe 8 (bootCounter d) ++ toBe 2 d.otp.epochFuses ++ rec_ ++ toBe 4 d.glb.cfgEpoch.toNat ++ toBe 1 d.glb.prot.toNat ++
  [0] ++ toBe 6 d.tim.sec.toNat ++ toBe 4 (clockCode d.tim.mode * 1073741824 + d.tim.ns.toNat) ++ nonce ++ meas.take 250

/-- Order of P-256 and P-384, as FIPS 186 gives them. -/
def curveOrder (p384 : Bool) : Nat :=
  if p384 then 0xFFFFFFFFFFFFFFFFFFFFFFFFFFFFFFFFFFFFFFFFFFFFFFFFC7634D81F4372DDF581A0DB248B0A77AECEC196ACCC52973
  else 0xFFFFFFFF00000000FFFFFFFFFFFFFFFFBCE6FAADA7179E84F3B9CAC2FC632551

/-- The attestation scalar (R544, Table SEC-8): (K mod (n − 1)) + 1. -/
def attestKey (p384 : Bool) (d : Device) : Nat :=
  deriveKey Config.uds (if p384 then labelAtt384 else labelAtt256) (ctxHeader 0 1 d) (if p384 then 448 else 320) % (curveOrder p384 - 1) + 1

/-- ATTEST: the report, and the certificate in flash where there is one. (log entry 65: DEDUCED) -/
def attest (nonce : Bytes) (p384 : Bool) (d : Device) : Res :=
  match secRefusal d with
  | some r => r
  | none =>
    if nonce.length ≠ 32 then { status := 0x0105 }
    else if d.otp.lc = 4 then { status := 0x0404 }
    else
      let b := reportBody nonce p384 d
      { body := b ++ toBe (if p384 then 96 else 64) (Config.ecdsaSign p384 (attestKey p384 d) b) ++ lookupD d.certs (if p384 then 2 else 1) [] }

end Sys2Proof.Machine
end

