-- ==== Sys2Proof/Machine/Hif.lean ====
section
/-! DEFINITION. The rows of the host interface (17): rings, the transmit fetch, the receive write, completion errors, resets of the
endpoint, the link, interrupts. -/

namespace Sys2Proof.Machine

/-- The engine may issue requests (17 R488). -/
def engineOn (d : Device) : Bool := d.hif.linkUp && d.hif.bme

/-! ### Interrupts (17 R496) -/

/-- Vector q fires for a DD, at most once per IRQ_DELAY. (log entry 57: PRESUMED) -/
def fireQueue (q : Nat) (d : Device) : Device :=
  let delay := (hifPage d q).irqDelay * 1000000
  let free : Bool := match lookup? d.hif.irqLast q with | some t => decide (t + delay ≤ d.now) | none => true
  if delay = 0 ∨ free then
    let now := d.now
    emit (.msix q) (modHif (fun h => { h with irqLast := insertAt h.irqLast q now }) d)
  else modHif (fun h => { h with irqPend := if h.irqPend.contains q then h.irqPend else h.irqPend ++ [q] }) d

/-- IRQ_DELAY_EXPIRY of a queue. -/
def irqDelayExpiry (q : Nat) (d : Device) : Device :=
  if d.hif.irqPend.contains q ∧ lookupD d.hif.irqLast q 0 + (hifPage d q).irqDelay * 1000000 ≤ d.now then
    fireQueue q (modHif (fun h => { h with irqPend := h.irqPend.filter (· ≠ q) }) d)
  else d

/-! ### Rings (17 R489) -/

/-- Descriptors of a ring; none before its size is set. -/
def ringLen (n : Nat) : Nat := if n = 0 then 1 else 2 ^ n

/-- Posted descriptors. -/
def posted (size pi ci : Nat) : Nat := (pi + ringLen size - ci) % ringLen size

/-- A new PI would pass CI: it lies outside the ring or behind what is posted. (log entry 56: DESIGN CHOICE) -/
def passesCi (size pi ci new : Nat) : Bool := decide (ringLen size ≤ new) || decide (posted size new ci < posted size pi ci)

/-- TX_DOORBELL: a write to TX_PI. -/
def txDoorbell (q pi : Nat) (d : Device) : Device :=
  let p := hifPage d q
  if 64 ≤ q then d
  else if passesCi p.txSize p.txPi p.txCi pi then cmdIgnored q d
  else setPage q { p with txPi := pi } d

/-- RX_DOORBELL: a write to RX_PI. -/
def rxDoorbell (q pi : Nat) (d : Device) : Device :=
  let p := hifPage d q
  if 64 ≤ q then d
  else if passesCi p.rxSize p.rxPi p.rxCi pi then cmdIgnored q d
  else setPage q { p with rxPi := pi } d

/-! ### Transmit (17 R491, R492) -/

/-- Word 7 with DD and RESULT (Table HIF-2). -/
def doneWord (result : Nat) : Bytes := leWord (BitVec.ofNat 32 (2147483648 + result))

/-- Word 7 of a transmit descriptor is written and CI advances; a fault stalls the channel after the frame (Table HIF-5). -/
def writeDd (q result : Nat) (v : HostView) (d : Device) : Device :=
  let p := hifPage d q
  let a := p.txBase.toNat + p.txCi * 32 + 28
  match translate q a true v d with
  | (.fault ty w, d) =>
    let d := hifFault q .txDd ty w true p.txCi a (BitVec.ofNat 32 p.txCi) d
    setChannel q false { channel d q false with result := result } d
  | (.ok _, d) =>
    let d := setPage q { hifPage d q with txCi := (p.txCi + 1) % ringLen p.txSize } d
    fireQueue q (emit (.txDone q p.txCi (doneWord result)) (setChannel q false { channel d q false with retries := 0 } d))

/-- A frame of the host enters on port HI whole, with its TC and timestamp request (17 R491). -/
def injectHost (tc : Nat) (txId : Option (BitVec 16)) (b : Bytes) (d : Device) : Device := injectFrame 25 (some tc) txId none true b d

/-- Rings that could be served: RUNNING, with a posted descriptor. -/
def txReady (d : Device) (q : Nat) : Bool :=
  let p := hifPage d q
  isRunning d q false && decide (posted p.txSize p.txPi p.txCi ≠ 0)

/-- The ring that is served next: the highest TC, round robin within it; back-pressured classes wait (17 R491, Table HIF-7). (log entry 56: DESIGN CHOICE) -/
def pickTx (heads : Tbl TxDesc) (d : Device) : Option Nat :=
  let order := (List.range 64).map (fun k => (d.hif.rrTx + 1 + k) % 64)
  let able (q : Nat) : Bool := txReady d q && !(allotOf d (200 + ((lookup? heads q).map (·.tc)).getD 0)).exhausted
  let best (tc : Nat) : Option Nat := order.find? (fun q => able q && decide (((lookup? heads q).map (·.tc)).getD 0 = tc))
  classOrder.findSome? best

/-- TX_FRAME_FETCH: the head descriptors of the rings, and what host memory answers to the reads (17 R491, R492, R497). (log entry 56: DESIGN CHOICE) -/
def txFrameFetch (heads : Tbl TxDesc) (v : HostView) (d : Device) : Device :=
  if !engineOn d then d
  else
    match pickTx heads d with
    | none => d
    | some q =>
      let p := hifPage d q
      let t : TxDesc := (lookup? heads q).getD {}
      let da := p.txBase.toNat + p.txCi * 32
      let d := modHif (fun h => { h with rrTx := q }) d
      match translate q da false v d with
      | (.fault ty w, d) => hifFault q .txDesc ty w false p.txCi da (BitVec.ofNat 32 p.txCi) d
      | (.ok _, d) =>
        if t.rsv ∨ t.len < 60 ∨ 9212 < t.len then writeDd q 2 v (raise sqHIF 6 0x1107 q d)
        else
          match translateRange q t.addr t.len false v d with
          | (some (a, ty, w), d) => hifFault q .txData ty w false p.txCi a (BitVec.ofNat 32 p.txCi) d
          | (none, d) =>
            let b := padTo t.len (v.data.take t.len)
            let b := if t.gw then patch (patch b 17 (toBe 1 (128 + q))) 26 (toBe 4 p.txCi) else b
            let d := hifCtr q 1 t.len (hifCtr q 0 1 d)
            writeDd q 0 v (injectHost t.tc (if t.tsReq then some t.tsId else none) b d)

/-! ### Receive (17 R493 to R495) -/

/-- A copy toward HI may be written: its frame is whole and its verdict final (17 R494). -/
def rxReadyCopy (d : Device) (c : Copy) : Bool :=
  match frameOf d c.frame with
  | none => false
  | some f => f.ended && (match f.mac with | .pending _ _ _ => false | _ => true)

/-- Rings that could be served: RUNNING, with a copy and a posted descriptor. -/
def rxReady (d : Device) (q : Nat) : Bool :=
  let p := hifPage d q
  isRunning d q true && decide (posted p.rxSize p.rxPi p.rxCi ≠ 0) &&
  (match (queueOf d (304 + q)).copies with | c :: _ => rxReadyCopy d c | [] => false)

/-- Highest RX_PRIO first, round robin within it (17 R506). (log entry 56: DESIGN CHOICE) -/
def pickRx (d : Device) : Option Nat :=
  let order := (List.range 64).map (fun k => (d.hif.rrRx + 1 + k) % 64)
  classOrder.findSome? (fun pr => order.find? (fun q => rxReady d q && decide ((hifPage d q).prio = pr)))

/-- Bytes of a copy as the host gets them: without an Assured frame's R-tag (17 R493). -/
def hostBytes (d : Device) (f : Frame) (c : Copy) : Bytes :=
  let b := copyBytes d f c
  let h := parse (cfgAt d f.epoch).fwd.userTypes b
  if c.asd.isSome ∧ h.rtag.isSome then b.take h.rtagOff ++ b.drop (h.rtagOff + 6) else b

/-- Buffers a frame takes: (descriptor's place in the ring, address, bytes), or none when too few are posted. (log entry 56: DESIGN CHOICE) -/
def splitBuffers : List RxDesc → Nat → Bytes → Option (List (Nat × Nat × Bytes))
  | _, _, [] => some []
  | [], _, _ => none
  | x :: rest, i, b => (splitBuffers rest (i + 1) (b.drop x.bufLen)).map (fun l => (i, x.addr, b.take x.bufLen) :: l)

/-- Words 3 to 7 of a descriptor (Table HIF-3). (log entry 56: DESIGN CHOICE) -/
def rxWords (f : Frame) (c : Copy) (total n : Nat) (sof eof : Bool) : List Word :=
  let b (x : Bool) (n : Nat) : Nat := if x then 2 ^ n else 0
  let base := 2147483648 + b sof 14 + n
  if !eof then [BitVec.ofNat 32 base, 0, 0, 0, 0]
  else
    let asd := c.asd.getD (0, 0)
    [BitVec.ofNat 32 (base + b c.asd.isSome 29 + b c.stream.isSome 28 + b f.stamp.holdover 27 + b f.stamp.freeRun 26 + b f.authFail 25 +
      c.itc % 8 * 4194304 + f.port % 64 * 65536 + 32768),
     f.stamp.ts32, BitVec.ofNat 32 (c.stream.getD 0 * 65536 + total), BitVec.ofNat 32 (asd.1 * 65536 + asd.2 % 65536),
     BitVec.ofNat 32 f.stamp.step.toNat]

/-- The accesses of one frame in their order: each descriptor read, its buffer's write, its words' write; the first fault, with its point,
direction and ring index. -/
def rxAccess (q base len : Nat) (v : HostView) : List (Nat × Nat × Bytes) → Device → Option (StallAt × Bool × Nat × Nat × Nat × Bool) × Device
  | [], d => (none, d)
  | (i, a, b) :: rest, d =>
    let da := base + i % len * 32
    match translate q da false v d with
    | (.fault ty w, d) => (some (.rxDesc, false, i % len, da, ty, w), d)
    | (.ok _, d) =>
      match translateRange q a b.length true v d with
      | (some (x, ty, w), d) => (some (.rxWrite, true, i % len, x, ty, w), d)
      | (none, d) =>
        match translate q (da + 12) true v d with
        | (.fault ty w, d) => (some (.rxWrite, true, i % len, da + 12, ty, w), d)
        | (.ok _, d) => rxAccess q base len v rest d

/-- RX_FRAME_WRITE: the posted descriptors of the ring served, and what host memory answers (17 R494, R503, R506). -/
def rxFrameWrite (v : HostView) (d : Device) : Device :=
  if !engineOn d then d
  else
    match pickRx d with
    | none => d
    | some q =>
      let d := dropAged (304 + q) ((queueOf d (304 + q)).copies.length) (modHif (fun h => { h with rrRx := q }) d)
      let p := hifPage d q
      let n := posted p.rxSize p.rxPi p.rxCi
      match (queueOf d (304 + q)).copies with
      | [] => d
      | c :: rest =>
        match frameOf d c.frame with
        | none => setQueue (304 + q) { queueOf d (304 + q) with copies := rest } d
        | some f =>
          if !rxReadyCopy d c then d
          else
            let b := hostBytes d f c
            match splitBuffers (v.rx.take n) p.rxCi b with
            | none => d
            | some l =>
              match rxAccess q p.rxBase.toNat (ringLen p.rxSize) v l d with
              | (some (pt, wr, i, a, ty, w), d) => hifFault q pt ty w wr i a (BitVec.ofNat 32 i) d
              | (none, d) =>
                let words := l.map (fun x => rxWords f c b.length x.2.2.length (decide (x.1 = p.rxCi)) (decide (x.1 + 1 = p.rxCi + l.length)))
                let d := setPage q { hifPage d q with rxCi := (p.rxCi + l.length) % ringLen p.rxSize, rx := { p.rx with retries := 0 } } d
                let d := setQueue (304 + q) { queueOf d (304 + q) with copies := rest } d
                let d := emit (.rxFrame q p.rxCi b (words.map (fun w => w.flatMap leWord))) (hifCtr q 3 b.length (hifCtr q 2 1 (bump (queueCtr (304 + q) 2) d)))
                let d := l.foldl (fun d _ => fireQueue q d) d
                let d := if f.port = 36 then d else { d with ssn := { d.ssn with lastForward := d.now } }
                copyGone 25 { c with txId := none } true true d

/-! ### Q_CTRL (17 R504, Table HIF-5) -/

/-- START of one channel. (log entry 56: DESIGN CHOICE) -/
def startCh (q : Nat) (rx : Bool) (d : Device) : Device :=
  let c := channel d q rx
  if c.st = .disabled ∨ c.st = .stopped then setChannel q rx { st := .running } d else d

/-- A stopped transmit ring completes its posted descriptors with ABORTED, writing DD where the ring translates. -/
def abortPosted (q : Nat) (v : HostView) : Nat → Device → Device
  | 0, d => d
  | n + 1, d =>
    let p := hifPage d q
    let next (d : Device) : Device := setPage q { hifPage d q with txCi := (p.txCi + 1) % ringLen p.txSize } d
    match translate q (p.txBase.toNat + p.txCi * 32 + 28) true v d with
    | (.fault _ _, d) => abortPosted q v n (next d)
    | (.ok _, d) => abortPosted q v n (fireQueue q (emit (.txDone q p.txCi (doneWord 1)) (next d)))

/-- STOP of one channel. -/
def stopCh (q : Nat) (rx : Bool) (v : HostView) (d : Device) : Device :=
  let p := hifPage d q
  let d := if !rx ∧ engineOn d then abortPosted q v (posted p.txSize p.txPi p.txCi) d else d
  setChannel q rx { st := .stopped } d

/-- Channels a Q_CTRL write names: bit 8 transmit, bit 9 receive or mailbox; pages 64 to 67 have the mailbox alone (17 R510). -/
def eachCh (q : Nat) (tx rx : Bool) (g : Bool → Device → Device) (d : Device) : Device :=
  if 68 ≤ q then d
  else
    let d := if tx ∧ q < 64 then g false d else d
    if rx then g true d else d

/-- RESUME of a ring's channel, whose head descriptor is read again but after a failed write of word 7 (R497); a mailbox takes its work up itself. (log entry
56: DESIGN CHOICE) -/
def resumeCh (q : Nat) (rx : Bool) (v : HostView) (d : Device) : Device :=
  let c := channel d q rx
  if c.st ≠ .stalled then cmdIgnored q d
  else
    let d := hifCtr q 5 1 (setChannel q rx { st := .running } d)
    let d := if c.stall = some .txDd then d else hifCtr q 7 1 d
    match c.stall with
    | some .txDd => if engineOn d then writeDd q c.result v d else setChannel q rx c d
    | _ => d

/-- The copy that a stalled receive channel holds is discarded as HIF_SKIP (Table HIF-5). -/
def skipCopy (q : Nat) (d : Device) : Device :=
  match (queueOf d (304 + q)).copies with
  | [] => d
  | c :: rest =>
    let d := countCode 0x1110 q (setQueue (304 + q) { queueOf d (304 + q) with copies := rest } d)
    reviewAll (copyGone 25 c false true d)

/-- SKIP of a ring's channel. -/
def skipCh (q : Nat) (rx : Bool) (v : HostView) (d : Device) : Device :=
  let c := channel d q rx
  if c.st ≠ .stalled then cmdIgnored q d
  else
    let go (d : Device) : Device := hifCtr q 6 1 (setChannel q rx { st := .running } d)
    match c.stall with
    | some .txData => if engineOn d then writeDd q 3 v (go d) else d
    | some .txDd =>
      let p := hifPage d q
      go (setPage q { p with txCi := (p.txCi + 1) % ringLen p.txSize } d)
    | some .rxWrite => skipCopy q (go d)
    | _ => cmdIgnored q d

/-! ### Invalidation (17 R501) -/

/-- INV_CMD: scope 0 page, 1 2 MiB region, 2 space, 3 all. -/
def invCmd (space scope : Nat) (d : Device) : Device :=
  let a := d.hif.invAddr.toNat
  let hit (t : TlbEntry) : Bool :=
    if scope = 3 then true
    else decide (t.space = space) &&
      (if scope = 2 then true
       else if scope = 1 then decide (t.page * 2 ^ t.shift / 2097152 = a / 2097152)
       else decide (t.page = a / 2 ^ t.shift))
  modHif (fun h => { h with tlb := h.tlb.filter (fun t => !hit t), invDone := h.invDone + 1 }) d

/-! ### Completion errors (17 R502, 21 R583, R585) -/

/-- PCIe lanes in service, and the widest width they allow (17 R485, 21 Table FLT-1). -/
def widest (d : Device) : Nat :=
  let a := inService d 26
  let b := inService d 27
  let c := inService d 28
  let e := inService d 29
  if a && b && c && e then 4 else if (a && b) || (c && e) then 2 else if a || e then 1 else 0

/-- A PCIe lane retires: the link retrains without it. (log entry 56: DESIGN CHOICE) -/
def pcieLaneRetired (i : Nat) (d : Device) : Device :=
  let w := widest { d with flt := { d.flt with ledger := insertAt d.flt.ledger i { ledgerOf d i with state := .retired } } }
  modHif (fun h => { h with width := min h.width w, linkUp := h.linkUp && decide (w ≠ 0) }) d

/-- COMPLETION_ERROR on a read of a channel: the lane charged, the read's point, whether a table walk met it, its index and address. -/
def completionError (lane q : Nat) (at_ : StallAt) (walk : Bool) (idx iova : Nat) (ref : Word) (d : Device) : Device :=
  let rx := decide (pointNo at_ ≠ 0)
  if !isRunning d q rx ∨ 4 ≤ lane then d
  else
    let i := 26 + lane
    let d := transient i 0x1102 (pcieLaneRetired i) d
    let c := channel d q rx
    let maxTries := if inService d i then (ledgerCfg d i).retryMax else 0
    if c.retries < maxTries then
      let d := if at_ = .txDesc ∨ at_ = .rxDesc then hifCtr q 7 1 d else d
      setChannel q rx { c with retries := c.retries + 1 } d
    else hifFault q at_ (if walk then 6 else 7) walk false idx iova ref d

/-! ### Resets of the endpoint and the link (17 R488, R505) -/

/-- Mailbox sessions are unbound; they stay open (16 R468). -/
def unbindMailboxes (d : Device) : Device :=
  d.ncp.sessions.foldl (fun d x =>
    if x.2.transport = some .pcie ∨ x.2.transport = some .split then modSession x.1 (fun y => { y with transport := none, rings := { y.rings with waiting := [] } }) d
    else d) d

def unbindPcie (d : Device) : Device :=
  d.ncp.sessions.foldl (fun d x =>
    if x.2.transport = some .pcie then modSession x.1 (fun y => { y with transport := none, rings := { y.rings with waiting := [] } }) d else d) d

/-- Status of the HIF block returns to its cold value, and BAR0 becomes available. -/
def hifCold (h : HifState) (d : Device) : Device := { d with hif := h, sq := removeAt d.sq sqHIF }

/-- FLR: the HIF block alone returns to its cold state; link training is not touched (17 R488). (log entry 56: DESIGN CHOICE) -/
def flr (d : Device) : Device :=
  let d := unbindPcie (hifCold { linkUp := d.hif.linkUp, speed := d.hif.speed, width := d.hif.width } d)
  raise sqHIF 3 0x1104 0 d

/-- PERST: the endpoint is reset and its link is down until it trains again. (log entry 56: DESIGN CHOICE) -/
def perst (d : Device) : Device := unbindPcie (hifCold {} d)

/-- Channels stop when the link goes down (Table HIF-6). -/
def stopAllCh (d : Device) : Device :=
  let halt (c : HostCh) : HostCh := if c.st = .disabled then c else { st := .stopped }
  modHif (fun h => { h with pages := h.pages.map (fun (x : Nat × HifPage) => (x.1, { x.2 with tx := halt x.2.tx, rx := halt x.2.rx })) }) d

/-- Speeds and widths of the endpoint (17 Table HIF-1). -/
def linkModeOk (speed width : Nat) : Bool := decide (1 ≤ speed ∧ speed ≤ 4) && (decide (width = 1) || decide (width = 2) || decide (width = 4))

/-- HIF_LINK_CHANGE: the link goes up at a speed and width, with Bus Master Enable as configured, or down. (log entry 57: PRESUMED) -/
def hifLinkChange (up : Bool) (speed width : Nat) (bme : Bool) (d : Device) : Device :=
  if up then
    if linkModeOk speed width then raise sqHIF 2 0x1103 1 (modHif (fun h => { h with linkUp := true, speed := speed, width := width, bme := bme }) d) else d
  else raise sqHIF 2 0x1103 0 (stopAllCh (modHif (fun h => { h with linkUp := false, speed := 0, width := 0, bme := false }) d))

end Sys2Proof.Machine
end

