-- ==== Sys2Proof/Machine/Faults.lean ====
section
/-! DEFINITION. Restore and function reset (21 R586 to R589), the late error ring's readers (R596), ledger reads (R597), and the faults of the
control complex that reach other units (15 R439, R448, R457). -/

namespace Sys2Proof.Machine

/-! ### Ledger and ring reads -/

def ledgerStateNo : LedState → Nat
  | .inService => 0
  | .retired => 1
  | .testing => 2

/-- The four words of a ledger entry (Table FLT-5). -/
def ledgerWords (i : Nat) (d : Device) : List Word :=
  let e := ledgerOf d i
  [BitVec.ofNat 32 (ledgerStateNo e.state + (if e.lastHard then 4 else 0) + windowCount d i % 256 * 256), e.transients,
   BitVec.ofNat 32 (e.retirements.toNat * 65536 + e.hard.toNat), BitVec.ofNat 32 (e.corrected.toNat * 65536 + e.lastCode.toNat)]

def wordBytes (l : List Word) : Bytes := l.flatMap (fun w => toBe 4 w.toNat)

/-- FAULT_READ of one entry. (log entry 51: DESIGN CHOICE) -/
def faultRead (i : Nat) (d : Device) : Res :=
  if ledgerValid i then { body := wordBytes (ledgerWords i d) } else { status := 0x0105 }

/-- A late error record (Table FLT-3). -/
def lateBytes (r : LateRec) : Bytes :=
  toBe 2 r.reason.toNat ++ toBe 1 (r.origin.toNat * 64 + r.who.toNat) ++ [0] ++ toBe 4 r.ref.toNat ++ toBe 4 r.ts.toNat ++ toBe 4 r.epoch.toNat ++
  (r.detail ++ List.replicate 16 0).take 16

/-- LATE_RING_READ: up to 32 records, oldest first. (log entry 51: DESIGN CHOICE) -/
def lateRingRead (n : Nat) (d : Device) : Res := { body := (d.flt.late.take (min n 32)).flatMap lateBytes }

/-- Release of the oldest records (R596): LATE_POP and LATE_RING_ACK. -/
def releaseLate (n : Nat) (d : Device) : Device := { d with flt := { d.flt with late := d.flt.late.drop n } }

/-! ### Return to service (R586, Table FLT-2) -/

def setGlbPort (p : Nat) (d : Device) : Device :=
  modPort p (fun s => { s with retired := false, txOn := portOn (portCfg d p) }) d

/-- A device leaves FAILED: its ports and its line come back, and it elects again (14 R426, R430). (log entry 59: DEDUCED) -/
def leaveFailed (d : Device) : Device :=
  if d.pair.role = .failed then
    let d := if d.cfg.pair.portsOff then
        bypassOrder false ((List.range 25).foldl (fun d p => modPort p (fun s => { s with txOn := portOn (portCfg d p) && !s.retired }) d) d)
      else d
    startElection d
  else d

/-- A restored CAN channel joins its bus when it is enabled and the blob has been committed (10 R328, R329). -/
def canBack (n : Nat) (d : Device) : Device :=
  let d := modCan n (fun x => { x with retired := false }) d
  if (canCfg d.cfg n).enabled ∧ d.ssn.blobDone then canOn n d else d

def mvbBack (n : Nat) (d : Device) : Device :=
  let d := modMvb n (fun x => { x with retired := false }) d
  if (mvbCfg d.cfg n).enabled ∧ d.ssn.blobDone then mvbOn n d else d

/-- The control complex after its tests pass: COMPARED again with core 1 reloaded, or restarted from HALTED (15 R449, R453). (log entry 49: DEDUCED) -/
def coreBack (i : Nat) (d : Device) : Device :=
  let d := modCcr (fun c => { c with
    ret0 := c.ret0 && decide (i ≠ 144), ret1 := c.ret1 && decide (i ≠ 145), retCmp := c.retCmp && decide (i ≠ 146) }) d
  if d.ccr.ret0 ∨ d.ccr.ret1 ∨ d.ccr.retCmp then d
  else if d.ccr.mode = .uncompared then
    modCcr (fun c => { c with
      mode := .compared, onCore1 := false, reloading := true, window := 0, core0 := if c.onCore1 then c.core1 else c.core0 }) d
  else if d.ccr.mode = .halted then modCcr (fun c => { c with mode := .restarting }) (gwResume d)
  else d

/-- What a unit does with a channel that has passed its test. (log entry 59: DEDUCED) -/
def rejoin (i : Nat) (d : Device) : Device :=
  if i < 24 then setGlbPort i d
  else if i < 26 then d
  else if i < 30 then modHif (fun h => { h with width := if h.linkUp then widest d else h.width }) d
  else if i < 34 then d
  else if i < 48 then canBack (i - 40) d
  else if i < 50 then mvbBack (i - 48) d
  else if i < 96 then reviewAll { d with buf := { d.buf with cellsWithdrawn := d.buf.cellsWithdrawn - 4096 } }
  else if i < 108 then d
  else if i < 110 then d
  else if i < 112 then mvbBack 0 d
  else if i < 114 then mvbBack 1 d
  else if i = 114 then (List.range 8).foldl (fun d n => if inService d (40 + n) then canBack n d else d) d
  else if i = 115 ∨ i = 147 then (if inService d 115 && inService d 147 then modCcr (fun c => { c with gaiStopped := false }) d else d)
  else if 144 ≤ i ∧ i < 147 then coreBack i d
  else if i = 152 then entropyPass d
  else if i = 156 then leaveFailed d
  else d

/-! ### Reports to the ledger (R580 to R585) -/

/-- What COMPLETION_ERROR carries, the row of the ledger's rules: a completion error on a read of a channel (17 R502), the report of a unit
on ledger entry `i` with its code and class (`held`: the frames with cells in a packet-buffer bank), or a corrected DRAM error (R581). -/
inductive FaultReport where
  | read (lane q : Nat) (at_ : StallAt) (walk : Bool) (idx iova : Nat) (ref : Word)
  | unit (i : Nat) (code : BitVec 16) (hard : Bool) (held : List Nat)
  | corrected (ch : Nat)
  deriving DecidableEq, Repr

/-- Entries whose faults no other row reports: lanes, DRAM channels, SRAM banks but those of the TCM, tables. -/
def reportable (i : Nat) : Bool :=
  decide (i < 30) || decide (i = 32) || decide (i = 33) || decide (64 ≤ i) && decide (i < 108) || decide (110 ≤ i) && decide (i < 116) ||
  decide (128 ≤ i) && decide (i < 138)

def FaultReport.ok : FaultReport → Bool
  | .read lane q _ _ idx _ _ => decide (lane < 4) && decide (q < 68) && decide (idx < 4096)
  | .unit i _ _ _ => reportable i
  | .corrected ch => decide (ch < 2)

/-- The retirement effect of Table FLT-1 for lanes, SRAM banks and tables (a table stays in use, R590). (log entry 59: DEDUCED) -/
def unitRetired (i : Nat) (held : List Nat) (d : Device) : Device :=
  if i < 24 then laneRetired i d
  else if i < 26 then wyLaneRetired d
  else if i < 30 then pcieLaneRetired i d
  else if i < 96 then reviewAll (dropHeld held { d with buf := { d.buf with cellsWithdrawn := d.buf.cellsWithdrawn + 4096 } })
  else if i < 108 then bypassBank (i - 96) d
  else if i < 112 then mvbRetired 0 d
  else if i < 114 then mvbRetired 1 d
  else if i = 114 then (List.range 8).foldl (fun d n => canRetired n d) d
  else if i = 115 then gailalumStop d
  else d

/-- COMPLETION_ERROR. (log entry 59: DEDUCED) -/
def faultReport (x : FaultReport) (d : Device) : Device :=
  match x with
  | .read lane q at_ walk idx iova ref => completionError lane q at_ walk idx iova ref d
  | .unit i code hard held =>
    if !reportable i then d
    else if i = 32 ∨ i = 33 then dramFault (i - 32) code hard d
    else enterImpaired (if hard then hardFault i code (unitRetired i held) d else transient i code (unitRetired i held) d)
  | .corrected ch =>
    let e := ledgerOf d (32 + ch)
    if 2 ≤ ch then d else setLedger (32 + ch) { e with corrected := satInc e.corrected } d

def isRestore (i : Nat) (p : PendOp) : Bool := match p.kind with | .restore j => decide (j = i) | _ => false

/-- The RESTORE that waits for entry i is answered. -/
def answerRestore (i : Nat) (r : Res) (d : Device) : Device :=
  let l := d.ncp.pend.filter (isRestore i)
  let d := modNcp (fun m => { m with pend := m.pend.filter (fun p => !isRestore i p) }) d
  l.foldl (fun d p => finish p.who r.status r.reason r.body d) d

/-- RESTORE (R586): `none` while the test runs. -/
def restoreOp (who : Option (Nat × Word)) (i : Nat) (d : Device) : Option Res × Device :=
  if !ledgerValid i then (some { status := 0x0105 }, d)
  else
    let e := ledgerOf d i
    match e.state with
    | .inService => (some {}, d)
    | .testing => (some { status := 0x0206 }, d)
    | .retired =>
      if i = 152 ∧ d.sec.tampered then (some { status := 0x0404, reason := 0x1231 }, d)
      else (none, modNcp (fun m => { m with pend := m.pend ++ [{ who := who, kind := .restore i }] })
        (setLedger i { e with state := .testing, faulted := false } d))

/-- RESTORE_TEST_DONE: a restored DRAM channel first gets its journal copy (R586, R587). -/
def restoreTestDone (i : Nat) (pass : Bool) (d : Device) : Device :=
  let e := ledgerOf d i
  if e.state ≠ .testing ∨ d.flt.copying.contains i then d
  else if pass && !e.faulted then
    if i = 32 ∨ i = 33 then { d with flt := { d.flt with copying := d.flt.copying ++ [i] } }
    else answerRestore i {} (noteImpaired (rejoin i (restored i d)))
  else
    let d := setLedger i { e with state := .retired } d
    let d := raise sqFLT 3 (ledgerCode i 0xF3) (ledgerChan i) d
    answerRestore i { status := 0x0207, reason := ledgerCode i 0xF3 } d

/-- JOURNAL_COPY_DONE on a DRAM channel: both copies are in service again (R587, 01 R33). -/
def journalCopyDone (ch : Nat) (d : Device) : Device :=
  if !d.flt.copying.contains (32 + ch) then d
  else
    let bit : BitVec 2 := if ch = 0 then 1 else 2
    let d := { d with
      flt := { d.flt with copying := d.flt.copying.filter (· ≠ 32 + ch) }, asd := { d.asd with copiesIn := d.asd.copiesIn ||| bit } }
    answerRestore (32 + ch) {} (reviewProt (restored (32 + ch) d))

/-! ### Function reset (R589) -/

/-- An open message of a unit that resets: a record RESET_LOST, and at a function reset the reply of a command that waits for it; at a warm
reset the command journal completes that command (16 Table NCP-7). -/
def resetLost (warm : Bool) (m : GwMsg) (d : Device) : Device :=
  let d := gwResult m .resetLost d
  match m.origin with
  | .ncp s q => if !warm ∧ isOpen d s q then finish (some (s, q)) 0x0003 0x0A30 [] d else d
  | _ => d

/-- Messages of a CAN channel that were requested and not seen completed. -/
def loseCan (warm : Bool) (n : Nat) (d : Device) : Device :=
  let mine (x : Nat × GwMsg) : Bool := decide (x.1 / 64 = n)
  let ms := (d.gw.entries.filter mine).map Prod.snd ++ lookupD d.gw.waits n []
  ms.foldl (fun d m => resetLost warm m d) { d with gw := { d.gw with entries := d.gw.entries.filter (fun x => !mine x), waits := removeAt d.gw.waits n } }

def loseMvb (warm : Bool) (n : Nat) (d : Device) : Device :=
  let mine (x : Nat × GwMsg) : Bool := decide (x.1 / 4096 = n)
  let ms := (d.gw.pages.filter mine).map Prod.snd
  ms.foldl (fun d m => resetLost warm m d) { d with gw := { d.gw with pages := d.gw.pages.filter (fun x => !mine x) } }

/-- CAN channel n returns to its cold values, its retirement kept, and its configuration is applied again. -/
def resetCan (n : Nat) (d : Device) : Device :=
  let d := setCan n { retired := (canSt d n).retired } (loseCan false n d)
  if (canCfg d.cfg n).enabled ∧ d.ssn.blobDone then canOn n d else d

def resetMvb (n : Nat) (d : Device) : Device :=
  let d := setMvb n { retired := (mvbSt d n).retired } (loseMvb false n d)
  if (mvbCfg d.cfg n).enabled ∧ d.ssn.blobDone then mvbOn n d else d

/-- FUNC_RESET of the gateway (21 R589). (log entry 39: DESIGN CHOICE) -/
def resetGateway (d : Device) : Device :=
  let d := (List.range 8).foldl (fun d n => loseCan false n d) d
  let d := (List.range 2).foldl (fun d n => loseMvb false n d) d
  gwStart { d with gw := { stopped := d.gw.stopped, made := d.gw.made } }

def resetTopology (d : Device) : Device :=
  let d := driveBypass false d
  let now := d.now
  let d := { d with top := { since := now, lastRefresh := now } }
  tryInsert (topoChanged d)

def resetHost (d : Device) : Device :=
  unbindPcie { d with hif := { linkUp := d.hif.linkUp, speed := d.hif.speed, width := d.hif.width, bme := d.hif.bme } }

/-- Core 1 starts again in Split-core mode with its image verified (15 R457). -/
def restartSplit (d : Device) : Device := modCcr (fun c => { c with core1 := {}, splitStopped := false }) d

/-- FUNC_RESET (R589): a split core exists in Split-core mode alone. -/
def funcReset (b : FuncBlock) (d : Device) : Res × Device :=
  let bad : Res := { status := 0x0105, reason := 0x0120 }
  match b with
  | .can n => if n < 8 then ({}, resetCan n d) else (bad, d)
  | .mvb n => if n < 2 then ({}, resetMvb n d) else (bad, d)
  | .gateway => ({}, resetGateway d)
  | .topology => ({}, resetTopology d)
  | .host => ({}, resetHost d)
  | .splitCore => if d.ccr.split then ({}, restartSplit d) else (bad, d)
  | .other _ => (bad, d)

/-! ### Faults of the control complex -/

/-- GAILALUM_FAULT: a failed integrity check stops the Gailalum core; only RESTORE brings it back (15 R459). -/
def gailalumFault (d : Device) : Device := noteImpaired (gailalumStop d)

/-- CONTROL_RESTART_DONE (15 R448): the managers rebuild, accepted commands resume, a Solstice is gone, the pair elects again. -/
def controlRestartDone (d : Device) : Device :=
  if d.ccr.mode ≠ .restarting then d
  else
    let d := modCcr (fun c => { c with
      mode := .compared, window := 0, lastWin := 0, held := [], shadow := [], fifo := [], debugQ := [], core0 := {}, core1 := {} }) d
    let d := raise sqCCR 6 0x0F07 0 (ccrCtr 5 d)
    let d := abandonSolstice { d with ncp := { d.ncp with replayDue := true } }
    if d.cfg.pair.paired then
      let d := leaveFailed d
      if d.pair.role = .electing then d else startElection (replicationLost (leaseLow d))
    else d

end Sys2Proof.Machine
end

