-- ==== Sys2Proof/Machine/Boot.lean ====
section
/-! DEFINITION. Starts (20 R557 to R560, R572 to R577; 19 R529 to R539): image checks, slot selection, rollback, tickets, the boot ROM's part of
a start, and what the reset of the main domain and a warm reset clear. -/

namespace Sys2Proof.Machine

def modBoot (g : BootState → BootState) (d : Device) : Device := { d with boot := g d.boot }

/-! ### Images (R545, R557) -/

/-- What an image check finds wrong. -/
inductive ImgErr where
  | format | target | sig
  deriving DecidableEq, Repr

/-- Bytes of a slot of kind k (Table BOOT-2). (log entry 21: DESIGN CHOICE) -/
def slotBytes (k : Nat) : Nat :=
  if k = 0 then 65536 else if k = 1 then 8388608 else if k < 4 then 1048576 else (max 64 (min 512 Config.flashMiB) - 24) / 2 * 1048576

/-- Bit of the life-cycle mask an entry needs (Table SEC-3): Returned counts as Development; Blank and Scrapped have none. (log entry 60: DESIGN CHOICE) -/
def maskBit (lc : Nat) : Option Nat :=
  if lc = 1 ∨ lc = 3 then some 1 else if lc = 2 then some 2 else none

/-- The signer's key matches an unrevoked entry of a role whose mask holds the state (R545). -/
def entryOk (role : Nat) (signer : BitVec 256) (o : Otp) : Bool :=
  match maskBit o.lc with
  | none => false
  | some b => o.entries.any (fun e => decide (e.2.digest = signer) && decide (e.2.role = role) && !e.2.revoked && e.2.mask.getLsbD b)

/-- Validity of an image of kind k (R557); `none`: valid. (log entry 60: DESIGN CHOICE, 61: PRESUMED) -/
def checkImage (k : Nat) (x : Image) (d : Device) : Option ImgErr :=
  let b := x.bytes
  let len := x.length
  let shape := decide (beAt b 0 4 = 0x4E56494D) && decide (beAt b 4 1 = k + 1) && decide (beAt b 5 1 = 1) && decide (beAt b 6 2 = 0) &&
    decide (192 ≤ len) && decide (len ≤ slotBytes k) && decide (b.length = len) && decide (beAt b 26 2 = 0)
  let content : Bool := match x.content with | .opaqueCode => decide (k ≠ 2 ∧ k ≠ 4) | .blob _ => decide (k = 4) | .spring _ => decide (k = 2)
  if !shape then some .format
  else if x.uid ≠ 0 ∧ x.uid ≠ Config.uid then some .target
  else if !x.sigOk ∨ !entryOk (if k < 2 then 1 else 2) x.signer d.otp then some .sig
  else if !x.digestOk ∨ !content then some .format
  else none

def imageOk (k : Nat) (x : Option Image) (d : Device) : Bool :=
  match x with
  | some i => (checkImage k i d).isNone
  | none => false

/-- The pointed slot, and its image's version for SLOT_VERSION. -/
def pointed (x : KindSlots) : FlashSlot := slotAtB x x.ptrB

def trialKind (d : Device) (k : Nat) : Bool := decide ((pointed (imageKind d k)).state = .trial)

def anyTrial (d : Device) : Bool := (List.range 5).any (fun k =>
  decide ((imageKind d k).a.state = .trial) || decide ((imageKind d k).b.state = .trial))

/-- Kinds whose free slot is STAGED. -/
def stagedKinds (d : Device) : List Nat := (List.range 5).filter (fun k => decide ((freeSlot (imageKind d k)).state = .staged))

/-! ### Rollback (R574) -/

/-- A rolled-back slot becomes INVALID and its kind points to the free slot. -/
def rollKind (k : Nat) (d : Device) : Device :=
  let x := imageKind d k
  setKind k { setSlotB x x.ptrB { pointed x with state := .invalid } with ptrB := !x.ptrB, starts := 0 } d

/-- Rollback of those kinds whose pointed slot is TRIAL: one event, one late record with the kinds. (log entry 62: DEDUCED) -/
def rollback (ks : List Nat) (d : Device) : Device :=
  let l := ks.filter (trialKind d)
  if l.isEmpty then d
  else
    let mask := (l.map (fun k => 2 ^ k)).sum
    let d := l.foldl (fun d k => rollKind k d) d
    let d := modBoot (fun b => { b with watchdog := none }) d
    lateRecord { reason := 0x1333, detail := toBe 1 mask } (raise sqBOOT 3 0x1306 mask d)

/-! ### Slot selection (R558) -/

/-- A GOOD pointed slot that is invalid is left for a GOOD and valid free slot. (log entry 62: DEDUCED) -/
def takeOther (k : Nat) (d : Device) : Option Image × Device :=
  let x := imageKind d k
  let f := freeSlot x
  let y := setSlotB x x.ptrB { pointed x with state := .invalid }
  if f.state = .good ∧ imageOk k f.image d then (f.image, raise sqBOOT 8 0x130B k (setKind k { y with ptrB := !x.ptrB } d))
  else (none, setKind k y d)

/-- The image of a kind whose slot is TRIAL or GOOD, once rollbacks are done. -/
def takePointed (k : Nat) (d : Device) : Option Image × Device :=
  let s := pointed (imageKind d k)
  if (s.state = .good ∨ s.state = .trial) ∧ imageOk k s.image d then (s.image, d)
  else if s.state = .good then takeOther k d
  else (none, d)

/-- The image a start takes of a kind (R558): an invalid TRIAL image rolls back first, with every TRIAL kind for a ROM patch or Renioft, alone
for another kind. (log entry 62: DEDUCED) -/
def selectKind (k : Nat) (d : Device) : Option Image × Device :=
  let s := pointed (imageKind d k)
  let d := if s.state = .trial ∧ !imageOk k s.image d then rollback (if k < 2 then List.range 5 else [k]) d else d
  takePointed k d

/-! ### Tickets (19 R536 to R539) -/

/-- Boot counter of the start that runs, before its increase is written (R529, R530). (log entry 60: DESIGN CHOICE) -/
def counterAfter (d : Device) : Nat :=
  if !d.keeper.valid ∧ (d.otp.lc = 1 ∨ d.otp.lc = 2) ∧ d.otp.epochFuses < 64 then (d.otp.epochFuses + 1) * 281474976710656 + 1
  else bootCounter d + 1

/-- A transition of Table SEC-4 that a ticket may order now. -/
def transitionOk (t : Ticket) (d : Device) : Bool :=
  if t.dest = 4 then decide (t.from_ ≠ 4)
  else if t.from_ = 1 ∧ t.dest = 2 then
    d.otp.cpk.isSome && d.otp.entries.any (fun e => decide (e.2.role = 2) && !e.2.revoked && e.2.mask.getLsbD 2)
  else decide (t.from_ = 2 ∧ t.dest = 3)

/-- What the ROM does before it burns the fuse. -/
def transition (t : Ticket) (d : Device) : Device :=
  let o := { d.otp with lc := t.dest }
  if t.dest = 2 then { d with otp := o, keyTable := d.keyTable.map (fun r => if r.desc.lc.getLsbD 2 then r else { r with retired := true }) }
  else { d with
    otp := { o with cpkGone := true, udsGone := o.udsGone || decide (t.dest = 4) }, keyTable := [], keeper := { d.keeper with root := none } }

/-- A ticket only revokes an entry. -/
def revokesOnly (t : Ticket) : Bool := t.setEntry && !t.setCpk && !t.setTamper && decide (t.entry.digest = 0)

/-- A burn that is refused (R538). -/
def burnRefused (t : Ticket) (d : Device) : Bool :=
  (t.setCpk && d.otp.cpk.isSome) || (t.setEntry && (decide (8 ≤ t.entryNo) ||
    (decide (t.entry.digest ≠ 0) && (lookup? d.otp.entries t.entryNo).isSome)))

def provision (t : Ticket) (d : Device) : Device :=
  let o := d.otp
  let o := if t.setCpk then { o with cpk := some t.cpk } else o
  let o := if !t.setEntry then o
    else if t.entry.digest ≠ 0 then { o with entries := insertAt o.entries t.entryNo t.entry }
    else { o with entries := o.entries.map (fun e => if e.1 = t.entryNo then (e.1, { e.2 with revoked := true }) else e) }
  { d with otp := if t.setTamper then { o with tamperEn := o.tamperEn ||| t.tamperEn } else o }

/-- The ROM acts on a ticket or rejects it (R537); the ticket area is erased either way. (log entry 60: DESIGN CHOICE) -/
def applyTicket (t : Ticket) (d : Device) : Device :=
  let no (detail : Nat) : Device := raise sqSEC 5 0x1207 detail d
  let done (d : Device) : Device := raise sqSEC 5 0x1207 0 d
  if !t.sigOk ∨ !entryOk 3 t.signer d.otp ∨ t.uid ≠ Config.uid ∨ t.from_ ≠ d.otp.lc then no 1
  else if t.kind = 1 then (if transitionOk t d then done (transition t d) else no 1)
  else if t.kind = 2 then
    if d.otp.lc = 2 ∧ t.boot.toNat = counterAfter d then
      raise sqSEC 6 0x1208 0 (done (modSec (fun s => { s with debugTicket := true }) d))
    else no 1
  else if t.kind = 3 then
    if d.otp.lc = 1 ∨ (d.otp.lc = 2 ∧ revokesOnly t) then (if burnRefused t d then no 2 else done (provision t d)) else no 1
  else no 1

/-! ### The boot ROM (19 R529, R530, R543; 20 R559, R572) -/

/-- A Keeper found invalid costs a KEEPER_EPOCH fuse; with all 64 burnt there is no root secret any more (R530). (log entry 60: DESIGN CHOICE) -/
def checkKeeper (d : Device) : Device :=
  let ok := d.keeper.valid
  let d := modSec (fun s => { s with keeperWasValid := ok }) d
  if d.otp.lc ≠ 1 ∧ d.otp.lc ≠ 2 then d
  else
    let d := if ok then d
      else
        let n := d.otp.epochFuses
        let d := { d with otp := { d.otp with epochFuses := min 64 (n + 1) }, keeper := { d.keeper with bootCount := 0, root := none } }
        raise sqSEC 1 0x1202 0 (if n < 63 then { d with keeper := { d.keeper with valid := true } } else d)
    if d.otp.epochFuses < 64 then
      let due := d.keeper.root.isNone
      modSec (fun s => { s with rootDue := due }) d
    else if ok then d
    else raise sqSEC 1 0x120A 0 d

/-- Every start increases the boot counter (R529). -/
def countBoot (d : Device) : Device := { d with keeper := { d.keeper with bootCount := d.keeper.bootCount + 1 } }

/-- The OTP configuration that M5 measures (R543). (log entry 60: DESIGN CHOICE) -/
def otpBytes (d : Device) : Bytes :=
  toBe 1 d.otp.lc ++ toBe 1 (if d.otp.splitMode then 1 else 0) ++
  d.otp.entries.flatMap (fun e => toBe 1 e.1 ++ measBytes e.2.digest ++ toBe 1 e.2.role ++ toBe 1 e.2.mask.toNat ++ toBe 1 (if e.2.revoked then 1 else 0)) ++
  toBe 1 d.otp.tamperEn.toNat ++ toBe 1 d.otp.epochFuses

/-- TRIAL_STARTS and the boot watchdog of a start with a TRIAL ROM patch or Renioft (R572); two starts already made roll back (R574). -/
def countTrial (d : Device) : Device :=
  let ks := ([0, 1] : List Nat).filter (trialKind d)
  if ks.isEmpty then d
  else if ks.any (fun k => decide (2 ≤ (imageKind d k).starts)) then rollback (List.range 5) d
  else
    let d := ks.foldl (fun d k => let x := imageKind d k
      setKind k { x with starts := x.starts + 1 } d) d
    let t := d.now + d.cfg.boot.confirmS * 1000000000000 + msPs 400
    modBoot (fun b => { b with watchdog := some t }) d

/-- ROM recovery mode (R575): the transmitter of MG0 is the only one on. -/
def enterRecovery (d : Device) : Device :=
  raise sqBOOT 5 0x1308 0 (modHif (fun h => { h with spaces := insertAt h.spaces 64 { mode := 1 } }) (modPort 24 (fun s => { s with txOn := true }) (modBoot (fun b => { b with recovery := true }) d)))

/-- What a start of the ROM meets: the flash answers SFDP as it should, the comparator passes its test, and the ledger entries that pass the
tests of 21 R588. -/
structure RomEnv where
  flashOk : Bool := true
  compOk : Bool := true
  passes : List Nat := []
  deriving DecidableEq, Repr

/-- RETIRED entries that pass their test return to service before their unit starts; a DRAM channel waits for Summer (21 R588). -/
def startTests (passes : List Nat) (d : Device) : Device :=
  d.flt.ledger.foldl (fun d x =>
    if x.2.state = .retired ∧ x.1 ≠ 32 ∧ x.1 ≠ 33 ∧ passes.contains x.1 then rejoin x.1 (restored x.1 d) else d) d

/-- The PLLs have locked (20 Table BOOT-5). FL_RESET_N goes low for 10 µs at each start and rises before the first flash command (22 R617). -/
def flashReset (d : Device) : Device :=
  emit (.pin .flReset true) (emit (.pin .flReset false) (modBoot (fun b => { b with flReset := true }) { d with clk := { d.clk with plls := 0x7F } }))

/-- The ROM's part of a start: boot counter, comparator test, slots, measurements; `strapRecovery`: a cold reset with RECOVERY_N low. (log entry 60: DESIGN CHOICE) -/
def romStart (e : RomEnv) (strapRecovery : Bool) (d : Device) : Device :=
  let d := countBoot (checkKeeper d)
  let d := startComplex e.compOk d
  let d := modSec (fun s => { s with loadDue := true }) d
  let d := if d.boot.rollbackDue then rollback (List.range 5) (modBoot (fun b => { b with rollbackDue := false }) d) else countTrial d
  let patch := selectKind 0 d
  let d := extendMeas 0 (match patch.1 with
    | some i => Config.sha256 (measBytes Config.romDigest ++ i.bytes)
    | none => Config.romDigest) patch.2
  let d := extendMeas 5 (Config.sha256 (otpBytes d)) d
  let fw := selectKind 1 d
  let d := modBoot (fun b => { b with romDone := true }) fw.2
  let strap := strapRecovery && (decide (d.otp.lc = 1) || decide (d.otp.lc = 3))
  if fw.1.isNone ∨ strap ∨ d.otp.lc = 0 then enterRecovery d else d

/-! ### The main domain at its cold values -/

/-- Levels of the pins that a reset drives (22 Table ELE-6), where they change. -/
def pinsLow (pwr : Bool) (d : Device) : Device :=
  let d := driveBypass false (leaseLow d)
  let d := if d.boot.flReset then emit (.pin .flReset false) (modBoot (fun b => { b with flReset := false }) d) else d
  let d := (List.range 8).foldl (fun d n =>
    if (canSt d n).standby then d
    else emit (.pin (.canStb n) (lookupD d.ssn.canWakeCfg n {}).stbPol) (modCan n (fun x => { x with standby := true }) d)) d
  let d := if d.flt.hlthLow then emit (.pin .hlthN true) { d with flt := { d.flt with hlthLow := false } } else d
  let d := if d.ssn.wakeOut.isSome then emit (.pin .wakeOut false) d else d
  if !pwr then d
  else
    (List.range 4).foldl (fun d n => if d.ssn.pwrEn.getLsbD n then emit (.pin (.pwrEn n) false) d else d) d

/-- What no loss of the main rails touches: the Keeper, OTP, flash, and the model's own fields. -/
def freshMain (d : Device) : Device :=
  { now := d.now, keeper := d.keeper, otp := d.otp, flash := d.flash, dseq := d.dseq, keyTable := d.keyTable, certs := d.certs, freeCtr := d.freeCtr,
    out := d.out }

/-- A cold reset (22 R608, 18 Table REG-4): the always-on domain as well; STB_POL stays (22 R611). (log entry 64: DEDUCED) -/
def coldReset (cause : Nat) (keepStb : Bool) (d : Device) : Device :=
  let d := pinsLow true d
  let stb : Tbl CanCfg := if keepStb then d.ssn.canWakeCfg.map (fun x => (x.1, { x.2 with wakeSrc := .off })) else []
  let r := freshMain d
  { r with boot := { coldCause := cause, wrstLow := d.boot.wrstLow }, ssn := { canWakeCfg := stb, wakeIn := d.ssn.wakeIn, canWake := d.ssn.canWake } }

/-- Counters of the SSN block. -/
def ssnCounters (t : Tbl (BitVec 64)) : Tbl (BitVec 64) := t.filter (fun x => decide (0x21000 ≤ x.1 ∧ x.1 < 0x21050))

/-- Autumn reached (13 Table SSN-7): the main domain loses its state; retention memory and the always-on domain keep theirs (13 R410, 14 R426,
22 R610). (log entry 44: DESIGN CHOICE, 64: DEDUCED) -/
def autumnState (d : Device) : Device :=
  let s := d.ssn
  let r := freshMain (leaveRound d)
  { r with
    boot := { coreStrap := d.boot.coreStrap, coreMode := d.boot.coreMode, recoveryStrap := d.boot.recoveryStrap, coldCause := d.boot.coldCause }
    pair := { epoch := d.pair.epoch }
    -- TOPO_COUNT outlives Autumn: after a wake in the same formation it equals the counter before (09 R292) (log entry 44: DESIGN CHOICE)
    top := { bypassEn := d.top.bypassEn, count := d.top.count, inaugurated := d.top.inaugurated }
    sq := d.sq.filter (fun x => decide (x.1 = sqSSN))
    ctr := ssnCounters d.ctr
    clk := { peak := d.clk.peak }
    glb := { rstCause := d.glb.rstCause }
    ssn := {
      season := .autumn, round := s.round, params := s.params, sleepReady := s.sleepReady, wakeHold := s.wakeHold, fallback := s.params.keepalive,
      wakeSource := s.wakeSource, wakeChan := s.wakeChan, wakeBefore := s.wakeBefore, wakeKsec := s.wakeKsec, wakeKsub := s.wakeKsub,
      wakeLatched := s.wakeLatched, wakeIn := s.wakeIn, wakeOut := s.wakeOut, canWake := s.canWake, later := s.later,
      pwrFell := s.pwrFell, powerFails := s.powerFails, retryAt := s.retryAt, canWakeCfg := s.canWakeCfg } }

/-- A reset cause is shown in GLB_RST_CAUSE (18 Table REG-4). (log entry 46: DESIGN CHOICE) -/
def setCause (bit : Nat) (cold : Bool) (d : Device) : Device :=
  let hi := if cold then BitVec.ofNat 32 (2 ^ bit * 65536) else d.glb.rstCause &&& 0xFFFF0000
  { d with glb := { d.glb with rstCause := hi ||| BitVec.ofNat 32 (2 ^ bit) } }

/-! ### Warm reset (20 R560, Table BOOT-6) -/

/-- SQ bits that a warm reset keeps: registers and masks of the chapters' reset columns. -/
def warmMask (reg : Nat) : BitVec 24 :=
  if reg = sqBUF then 0x000080
  else if reg = sqTIM then 0x000100
  else if reg = sqSCH then 0x000008
  else if reg = sqASD then 0x000007
  else if reg = sqMSC then 0x000030
  else if reg = sqTOP then 0x000058
  else if 0x540000 ≤ reg ∧ reg < 0x560000 then 0x000008
  else if 0x580000 ≤ reg ∧ reg < 0x5A0000 then 0x00000C
  else if reg = sqGWY then 0x000002
  else if reg = sqSSN then 0x000CA0
  else if reg = sqPAIR then 0x00064A
  else if reg = sqCCR then 0x00015C
  else if reg = sqNCP then 0x000010
  else if reg = sqSEC then 0x00000B
  else if reg = sqBOOT then 0x0003CC
  else if reg = sqFLT then 0x000033
  else if reg = sqCLK then 0x000003
  else 0

def warmSq (t : Tbl Sq) : Tbl Sq :=
  (t.map (fun (x : Nat × Sq) => (x.1, { x.2 with seq := 0, bits := x.2.bits &&& warmMask x.1 }))).filter (fun x => decide (x.2.bits ≠ 0))

/-- Why a warm reset starts. -/
inductive WarmCause where
  | pin | command | activation
  deriving DecidableEq, Repr

/-- The bit of a warm reset's cause in GLB_RST_CAUSE (18). (log entry 63: DEDUCED) -/
def WarmCause.bit : WarmCause → Nat
  | .pin => 4
  | .command | .activation => 5

/-- A frame in transmission ends truncated (R560). (log entry 63: DEDUCED) -/
def cutFrames (d : Device) : Device :=
  d.ports.foldl (fun d x => match x.2.cur with
    | some t => (match frameOf d t.copy.frame with | some f => emit (.frame x.1 (copyBytes d f t.copy) false) d | none => d)
    | none => d) d

/-- Live port state after the start of a warm reset. (log entry 63: DEDUCED) -/
def warmPort (x : PortState) : PortState := { retired := x.retired, txtsLost := x.txtsLost }

/-- Sessions lose their mailbox and its rings; HMAC and other state is in the command journal (16 R468, R481). (log entry 63: DEDUCED) -/
def warmSession (x : Session) : Session :=
  { x with
    rings := {}, transport := match x.transport with | some .pcie => none | some .split => none | t => t }

/-- The configuration a warm reset will re-apply: that in force, once the blob has been committed; or the one an earlier reset kept. -/
def keepConfig (d : Device) : Option (Cfg × Option (BitVec 12)) := if d.ssn.blobDone then some (d.cfg, d.glb.deviceId) else d.boot.saved

/-- What the start of a warm reset does to units that announce it: bus messages are lost, an update closes, a Solstice is abandoned. -/
def warmNotice (d : Device) : Device :=
  let d := (List.range 8).foldl (fun d n => loseCan true n d) d
  let d := (List.range 2).foldl (fun d n => loseMvb true n d) d
  abandonSolstice (closeUpdate (clearSwitch (cutFrames d)))

/-- The registers and memories of the main domain after the start of a warm reset. (log entry 63: DEDUCED) -/
def warmState (cause : WarmCause) (d : Device) : Device :=
  let s := d.ssn
  let saved := keepConfig d
  { d with
    oldCfgs := []
    glb := { uidValid := d.glb.uidValid, cfgEpoch := d.glb.cfgEpoch, rstCount := satInc d.glb.rstCount, rstCause := d.glb.rstCause,
             berrAddr := d.glb.berrAddr, berrInfo := d.glb.berrInfo, berrCount := d.glb.berrCount }
    flt := { d.flt with
      copying := [], ledger := d.flt.ledger.map (fun (x : Nat × Ledger) => (x.1, if x.2.state = .testing then { x.2 with state := .retired } else x.2)) }
    sq := warmSq d.sq
    ports := d.ports.map (fun (x : Nat × PortState) => (x.1, warmPort x.2))
    buf := { cellsWithdrawn := d.buf.cellsWithdrawn }
    fwd := { d.fwd with hashKey := [], pipe := [], recirc := [], arrivals := [], calSlot := 0, rr := 0, rrExpress := 0, moves := [], icmpCount := 0 }
    tim := { d.tim with domA := {}, domB := {}, splitD := 0, slewLeft := 0, slewStep := 0, unselected := true, lost := false }
    sch := { d.sch with gates := d.sch.gates.map (fun (x : Nat × GateState) => (x.1, ({ cycles := x.2.cycles } : GateState))), psfp := [], credit := [], effBound := [], recheck := false }
    asd := { d.asd with waiting := [], replicating := false, replayDue := true, fallAge := d.buf.ageClock }
    fwl := { d.fwl with
      spring := true, restartSec := d.fwl.fwSec, ct := relearnAll d.fwl.ct, cache := [], frags := [], missQ := [], verdicts := [], missBkt := [], setupBkt := [],
      ctSync := false, revalPos := none, bankLoaded := false }
    msc := {}
    pair := { epoch := d.pair.epoch }
    wy := []
    top := { d.top with
      line := .bypassed, bypassCmd := false, wdReleased := false, neighbours := [], viewA := none, viewB := none, conflict := false, limit := false,
      routeQueued := false, routeWait := none, since := d.now }
    can := d.can.map (fun (x : Nat × CanState) => (x.1, { retired := x.2.retired, rxLost := x.2.rxLost }))
    mvb := d.mvb.map (fun (x : Nat × MvbState) => (x.1, { retired := x.2.retired }))
    gw := { outs := d.gw.outs, made := d.gw.made }
    ssn := { s with
      round := 0, pass := none, roundEnd := none, consent := none, commit := none, wait := none, skipped := 0, again := none, vetoed := false,
      lostRuns := 0, notLockedRuns := 0, fallback := s.params.keepalive, leaving := none, imageStaged := false, springPaths := false,
      renioft := false, blobDone := false, rebuilt := false, wakeOut := none }
    boot := { coreStrap := d.boot.coreStrap, coreMode := d.boot.coreMode, recoveryStrap := d.boot.recoveryStrap, coldCause := d.boot.coldCause, inReset := true, warm := true,
              saved := saved, byActivation := decide (cause = .activation), rollbackDue := d.boot.rollbackDue }
    ccr := { split := d.ccr.split, fromStrap := d.ccr.fromStrap, ret0 := d.ccr.ret0, ret1 := d.ccr.ret1, retCmp := d.ccr.retCmp,
             gaiStopped := d.ccr.gaiStopped, peakLag := d.ccr.peakLag, mmWin := d.ccr.mmWin, cause := d.ccr.cause, verdicts := d.ccr.verdicts }
    sec := {}
    hif := { linkUp := d.hif.linkUp, speed := d.hif.speed, width := d.hif.width, bme := d.hif.bme }
    ncp := { d.ncp with
      pend := [], waitCommit := none, replayDue := true, sessions := d.ncp.sessions.map (fun (x : Nat × Session) => (x.1, warmSession x.2)) } }

/-- A warm reset starts, in Summer or Spring (13 R384): within 1 µs transmitters off, BYPASS_EN low, HLTH_N released. -/
def warmBegin (cause : WarmCause) (d : Device) : Device :=
  let d := pinsLow false (warmNotice d)
  let d := if d.tim.mode = .locked then enterHoldover d else d
  setCause cause.bit false (warmState cause d)

/-- The ROM restarts: its own part, and the start-up tests of retired entries (21 R588). -/
def warmRom (e : RomEnv) (d : Device) : Device := romStart e false (startTests e.passes (flashReset d))

/-- A commanded or activation reset: the ROM runs 10 µs after its start (R560). -/
def warmNow (cause : WarmCause) (e : RomEnv) (d : Device) : Device :=
  if powered d then warmRom e (warmBegin cause d) else d

end Sys2Proof.Machine
end

