-- ==== Sys2Proof/Machine/Starts.lean ====
section
/-! DEFINITION. The rows of starts, resets and power (13 Table SSN-7, Table SSN-9; 20 Table BOOT-5, Table BOOT-6; 22 R601 to R613), and the faults of
TCM and sandbox (15 R439, R457). -/

namespace Sys2Proof.Machine

/-! ### Cold start and the always-on domain -/

/-- What a cold start samples and finds (22 R609, R610; 19 R537). -/
structure ColdEnv where
  rom : RomEnv := {}
  coreMode : Bool := false
  recoveryLow : Bool := false
  wrstLow : Bool := false
  ticket : Option Ticket := none
  deriving DecidableEq, Repr

/-- The ROM of a cold start: a flash that fails stops it (20 R553); tickets first (Table BOOT-5). (log entry 60: DESIGN CHOICE, 64: DEDUCED) -/
def coldRom (e : ColdEnv) (d : Device) : Device :=
  let d := flashReset (modBoot (fun b => { b with coldHeld := false }) d)
  if !e.rom.flashOk then raise sqBOOT 7 0x130A 0 d
  else
    let d := match e.ticket with | some t => applyTicket t d | none => d
    let d := if d.boot.coldCause = 1 ∧ d.otp.lc = 1 then { d with keeper := { d.keeper with tamperRecord := [] } } else d
    let d := romStart e.rom d.boot.recoveryStrap d
    raise sqHIF 4 0x1105 0 d

/-- COLD_START (20 R559): Spring, PWR_EN[0] rises, the clock comes from the Keeper in FREE_RUN; a low WRST_N holds the ROM (22 R609). (log entry 60: DESIGN CHOICE) -/
def coldStart (e : ColdEnv) (d : Device) : Device :=
  if d.ssn.season ≠ .off then d
  else
    let now := d.now
    let d := raiseVdd (modSsn (fun s => { s with season := .spring, pwrEn := 0, powerUp := now, wakeSource := 0 }) d)
    let d := setCause d.boot.coldCause true d
    let d := loadClock (modBoot (fun b => { b with coreStrap := e.coreMode, coreMode := none, recoveryStrap := e.recoveryLow, wrstLow := e.wrstLow }) d)
    if e.wrstLow then modBoot (fun b => { b with coldHeld := true }) d else coldRom e d

/-- PORST_N_LOW (22 R608). -/
def porstLow (d : Device) : Device := if d.ssn.season = .winter then d else coldReset 1 true d

/-- VAON_BROWNOUT (13 Table SSN-2, 22 R604, R606): Winter; the Keeper goes on from VBAT. -/
def vaonBrownout (d : Device) : Device :=
  let r := freshMain (pinsLow true d)
  { r with ssn := { season := .winter } }

/-- VAON_RISE (22 R606): the always-on domain starts; GLB_RST_CAUSE will show [6] after Winter. (log entry 64: DEDUCED) -/
def vaonRise (d : Device) : Device :=
  if d.ssn.season = .winter then { d with ssn := { season := .off }, boot := { coldCause := 6 } } else d

/-- VBAT_LOSS (22 R606): with VAON gone the Keeper is lost. -/
def vbatLoss (d : Device) : Device := if d.ssn.season = .winter then { d with keeper := {} } else d

/-! ### Entry to Autumn, power-up (13 R402, R404; 22 R602 to R605) -/

/-- Highest rail that is up. -/
def topRail (d : Device) : Option Nat := ([3, 2, 1, 0] : List Nat).find? (fun n => d.ssn.pwrEn.getLsbD n)

def lowRail (d : Device) : Option Nat := ([0, 1, 2, 3] : List Nat).find? (fun n => !d.ssn.pwrEn.getLsbD n)

/-- The local clock as the entry to Autumn writes it to the Keeper (13 Table SSN-7). (log entry 25: DEDUCED) -/
def saveClock (d : Device) : Device :=
  { d with keeper := { d.keeper with
    timeSec := d.tim.sec, timeSub := BitVec.ofNat 15 (d.tim.ns.toNat * 32768 / 1000000000), timeOk := d.keeper.timeOk || !d.tim.keeperInvalid } }

/-- A rail's output falls; the VDD detector disarms with PWR_EN[0] (22 R604). (log entry 46: DESIGN CHOICE) -/
def lowerRail (n : Nat) (d : Device) : Device :=
  let d := emit (.pin (.pwrEn n) false) (modSsn (fun s => { s with pwrEn := s.pwrEn &&& ~~~((1 : BitVec 4) <<< n) }) d)
  let now := d.now
  if n = 0 then modSsn (fun s => { s with pwrFell := now }) { d with clk := { d.clk with vddArmed := false } } else d

/-- POWER_DOWN_STEP (13 Table SSN-7): PWR_EN[3] two steps after the commit time, each further output one step later; Autumn with PWR_EN[0], and
Spring at once when a wake was latched (13 R399). (log entry 46: DESIGN CHOICE) -/
def powerDownStep (d : Device) : Device :=
  match d.ssn.leaving, topRail d with
  | some t, some n =>
    if t + (5 - n) * (d.ssn.params.pwrStepUs * 1000000) ≤ d.now then
      let d := if n = 3 then (List.range 25).foldl (fun d p => modPort p (fun s => { s with txOn := false }) d) (saveClock d) else d
      let d := lowerRail n d
      if n = 0 then
        let d := autumnState d
        if d.ssn.wakeLatched then beginSpring d.ssn.wakeSource (ssnCtr 7 d) else d
      else d
    else d
  | _, _ => d

/-- POWER_UP_STEP (13 Table SSN-9): one output a step; with PWR_EN[2] of a wake the core reset is released, the clock is loaded from the Keeper and
the ROM runs its shortened step. A PWR_EN[0] that was held low rises when its tick is over (22 R603). The second attempt of a cold start goes through the ROM of a cold start (22 R605). (log entry 60: DESIGN CHOICE) -/
def powerUpStep (e : ColdEnv) (d : Device) : Device :=
  match lowRail d with
  | none => d
  | some n =>
    if d.ssn.season ≠ .spring then d
    else if n = 0 then (if d.ssn.pwrFell + keeperTickPs ≤ d.now then raiseVdd d else d)
    else if d.ssn.powerUp + n * (d.ssn.params.pwrStepUs * 1000000) ≤ d.now then
      let d := emit (.pin (.pwrEn n) true) (modSsn (fun s => { s with pwrEn := s.pwrEn ||| ((1 : BitVec 4) <<< n) }) d)
      if n ≠ 2 ∨ d.boot.romDone then d
      else if d.ssn.wakeSource ≠ 0 then romStart e.rom false (flashReset (loadClock (setCause 3 false d)))
      else if 0 < d.ssn.powerFails then coldRom e (loadClock (setCause d.boot.coldCause true d))
      else d
    else d

/-- VDD_IN_RANGE (22 R604). -/
def vddInRange (d : Device) : Device :=
  if d.ssn.pwrEn.getLsbD 0 then { d with ssn := { d.ssn with vddOk := true }, clk := { d.clk with vddArmed := true } } else d

/-- VDD_START_TIMEOUT (22 R605). -/
def vddStartTimeout (d : Device) : Device :=
  if d.ssn.season = .spring ∧ d.ssn.pwrEn.getLsbD 0 ∧ !d.ssn.vddOk ∧ d.ssn.pwrRose + msPs 5 ≤ d.now then
    let fails := d.ssn.powerFails + 1
    let d := ([3, 2, 1, 0] : List Nat).foldl (fun d n => if d.ssn.pwrEn.getLsbD n then lowerRail n d else d) d
    let again : Option Nat := if fails < 2 then some (d.now + msPs 100) else none
    modSsn (fun s => { s with powerFails := fails, retryAt := again }) (autumnState d)
  else d

/-- PWR_RETRY (22 R605): one more attempt, counted with the first. -/
def pwrRetry (d : Device) : Device :=
  match d.ssn.retryAt with
  | some t =>
    if d.ssn.season = .autumn ∧ t ≤ d.now then
      let now := d.now
      loadClock (raiseVdd (modSsn (fun s => { s with season := .spring, powerUp := now, pwrEn := 0, retryAt := none, vddOk := false }) d))
    else d
  | none => d

/-! ### Images of a start (13 R404, R405; 20 R558) -/

/-- The ROM part of this start is done and the device is no ROM recovery. -/
def starting (d : Device) : Bool := powered d && d.boot.romDone && !d.boot.recovery

/-- Ports that the image configures: those enabled turn their transmitters on (02 R65); ingress waits for SPRING_PATHS. -/
def springPorts (d : Device) : Device :=
  (List.range 38).foldl (fun d p =>
    let on := portOn (portCfg d p)
    if (portCfg d p).configured then modPort p (fun s => { s with ready := true, txOn := if on then !s.retired else s.txOn }) d else d) d

/-- The admission digest is that of the image's Scheduled section and LINK_BOUND values, and the ports carry those values (05 R172).
(log entry 61: PRESUMED) -/
def admittedOk (x : SpringImage) : Bool :=
  decide (x.digest = Config.sha256 (x.scheduled ++ x.linkBounds.flatMap (fun b => toBe 1 b.1 ++ toBe 4 b.2))) &&
  x.linkBounds.all (fun b => decide ((cfgPort x.cfg b.1).linkBoundNs = b.2))

/-- Gate lists and Scheduled streams of the image when its admission digest fails (05 R172). -/
def dropScheduled (c : Cfg) : Cfg :=
  { c with sch := { c.sch with lists := [], streams := c.sch.streams.filter (fun x => decide (x.2.cls ≠ .scheduled)) } }

/-- The parameters of a configuration that stands in the Spring image take effect, under the epoch that is current. -/
def loadSpring (c : Cfg) (d : Device) : Device :=
  let d := { d with cfg := c }
  let d := { d with sch := { d.sch with resv := resvAll c (checkAll c c d).1 } }
  let d := { d with fwd := { d.fwd with lg := c.fwd.groups.map (fun (x : Nat × LinkGroup) => (x.1, x.2.table)) } }
  let d := switchLists {} c d
  let d := modSsn (fun s => { s with params := c.ssn, fallback := c.ssn.keepalive }) d
  springPorts d

/-- A Spring image that fails (13 R405): no Spring path opens; a TRIAL image rolls back (20 R574). -/
def springFail (d : Device) : Device := rollback [2] (raise sqSSN 10 0x0D0B 0 d)

/-- SPRING_IMAGE_LOADED: `readOk` says whether a read has succeeded within one retry (13 R405). (log entry 61: PRESUMED) -/
def springImageLoaded (readOk : Bool) (d : Device) : Device :=
  if !starting d ∨ d.ssn.imageStaged ∨ d.ssn.renioft then d
  else
    let r : Option Image × Device := if readOk then selectKind 2 d else (none, d)
    match (r.1.map (fun i => (i, i.content)) : Option (Image × ImageContent)) with
    | some (i, .spring x) =>
      let d := extendMeas 3 i.digest r.2
      let d := if admittedOk x then d else raise sqSCH 0 0x0509 0 d
      let d := springKeys x.keys (loadSpring (if admittedOk x then x.cfg else dropScheduled x.cfg) d)
      let d := modSsn (fun s => { s with imageStaged := true }) d
      if d.boot.warm then d else switchPair d
    | _ => springFail r.2

/-- SPRING_PATHS (13 R404, 09 R300, 20 R573). -/
def springPaths (d : Device) : Device :=
  if !d.ssn.imageStaged ∨ d.ssn.springPaths then d
  else
    let d := (List.range 38).foldl (fun d p => if portOn (portCfg d p) then modPort p (fun s => { s with ingressOn := true }) d else d) d
    let d := raise sqSSN 8 0x0D09 0 (modSsn (fun s => { s with springPaths := true }) d)
    let d := if d.top.bypassEn ∧ d.cfg.top.configured then enterDiscovering d else tryInsert d
    if trialKind d 2 then
      let x := imageKind d 2
      raise sqBOOT 4 0x1307 2 (setKind 2 (setSlotB x x.ptrB { pointed x with state := .good }) d)
    else d

/-- Core 1 starts once Renioft has verified the split-core image (15 R456, 20 R558). -/
def startSplit (d : Device) : Device :=
  let r := selectKind 3 d
  match r.1 with
  | none => r.2
  | some i =>
    if r.2.ccr.split then
      let now := r.2.now
      modBoot (fun b => { b with splitSince := some now }) (restartSplit (extendMeas 4 i.digest r.2))
    else r.2

/-- Events of Autumn are raised once the control cores run (13 R409). -/
def raiseLater (d : Device) : Device :=
  let l := d.ssn.later
  l.foldl (fun d x => match x.2.1 with
    | some b => raise x.1 b x.2.2.1 x.2.2.2 d
    | none => event x.2.2.1 x.2.2.2 d) (modSsn (fun s => { s with later := [] }) d)

/-- RENIOFT_RUNNING, once the key table is loaded or the entropy test has failed (19 R547): M1, the version, FIRMWARE bindings, the split core; after a warm reset BAR0 comes back and the pair elects again (Table BOOT-6,
14 R426). (log entry 63: DEDUCED, 95: DESIGN CHOICE) -/
def renioftRunning (d : Device) : Device :=
  if !starting d ∨ d.ssn.renioft ∨ (d.sec.loadDue ∧ !d.msc.entropyDone) then d
  else
    match (pointed (imageKind d 1)).image with
    | none => d
    | some i =>
      let d := extendMeas 1 i.digest d
      let d := { d with glb := { d.glb with fwVer := i.version }, ssn := { d.ssn with renioft := true } }
      let d := reviewProt (startSplit (raiseLater (if d.sec.loadDue then d else checkBinds 2 d)))
      if d.boot.inReset then
        let d := raise sqHIF 4 0x1105 0 (raise sqGLB 3 0x0104 0 (modBoot (fun b => { b with inReset := false }) d))
        if d.cfg.pair.paired then startElection d else d
      else d

/-! ### The blob (20 R561, R562) -/

def devIdOf (i : Image) : Option (BitVec 12) := if i.devIdWord.getLsbD 15 then some (i.devIdWord.setWidth 12) else none

/-- A blob is committed as one commit and measured; DEVID is in force from then on. (log entry 80: DEDUCED) -/
def commitBlob (i : Image) (c : Cfg) (bs : List PortBound) (d : Device) : Device :=
  let d := extendMeas 2 i.digest { d with glb := { d.glb with deviceId := devIdOf i }, ssn := { d.ssn with blobDone := true } }
  commitNow c bs false d

/-- The blob of the pointed slot, or after its refusal as TRIAL of the other slot (20 R574). (log entry 62: DEDUCED) -/
def tryBlob : Nat → Device → Device
  | 0, d => d
  | n + 1, d =>
    let r := selectKind 4 d
    match (r.1.map (fun i => (i, i.content)) : Option (Image × ImageContent)) with
    | some (i, .blob c) =>
      (match prepare c false r.2 with
       | .ok bs => commitBlob i c bs r.2
       | .refused x _ =>
         let d := noteRefusal x r.2
         if trialKind d 4 then tryBlob n (rollback [4] d) else d)
    | _ => raise sqBOOT 8 0x130B 4 r.2

/-- A warm reset re-applies the blob and the commits since, under the kept epoch (20 R561). (log entry 63: DEDUCED) -/
def reapply (c : Cfg) (id : Option (BitVec 12)) (d : Device) : Device :=
  let d := match (pointed (imageKind d 4)).image with | some i => extendMeas 2 i.digest d | none => d
  let d := { d with
    glb := { d.glb with deviceId := id }, ssn := { d.ssn with blobDone := true }, boot := { d.boot with saved := none },
    cfg := { d.cfg with gw := c.gw } }
  pubRestart (gwStart (switchEpoch c (resvAll c (checkAll c c d).1) d.glb.cfgEpoch d))

/-- BLOB_COMMIT (20 R558, R561). -/
def blobCommit (d : Device) : Device :=
  if !starting d ∨ !d.ssn.renioft ∨ d.ssn.blobDone then d
  else match d.boot.saved with
    | some x => reapply x.1 x.2 d
    | none => tryBlob 2 d

/-- SUMMER_REACHED: STATE_REBUILT and the blob committed (13 R404, R385); after a warm reset retired DRAM channels begin their test (21 R588). -/
def summerReached (d : Device) : Device :=
  if !powered d ∨ d.ssn.leaving.isSome ∨ d.ssn.rebuilt ∨ !d.ssn.blobDone ∨ d.fwl.spring then d
  else
    let now := d.now
    let d := modSsn (fun s => { s with season := .summer, rebuilt := true, sleepReady := false, wasReady := false }) d
    let d := raise sqSSN 9 0x0D0A 0 (modBoot (fun b => { b with cleanSince := some now }) d)
    if !d.boot.warm then d
    else ([32, 33] : List Nat).foldl (fun d i =>
      let e := ledgerOf d i
      if e.state = .retired then setLedger i { e with state := .testing, faulted := false } d else d) d

/-! ### Warm reset rows -/

/-- WARM_RESET by WRST_N (22 R609): the ROM waits for the pin to rise. -/
def warmPin (d : Device) : Device :=
  if powered d then
    if d.boot.coldHeld then d else modBoot (fun b => { b with wrstLow := true }) (warmBegin .pin d)
  else d

/-- WRST_N_RISE: the ROM restarts, or a held cold start proceeds (22 R609). -/
def wrstRise (e : ColdEnv) (d : Device) : Device :=
  if !d.boot.wrstLow then d
  else
    let d := modBoot (fun b => { b with wrstLow := false }) d
    if d.boot.coldHeld then coldRom e d else if d.boot.inReset then warmRom e.rom d else d

/-! ### Clock and temperature (22 R601, R613) -/

/-- TJ_HIGH: a reading of the sensor in 1/16 °C. -/
def tjReading (t : BitVec 16) (d : Device) : Device :=
  let peak := if d.clk.peak.toInt < t.toInt then t else d.clk.peak
  let d := { d with clk := { d.clk with temp := t, peak := peak } }
  if !d.clk.hot ∧ 2000 < t.toInt then raise sqCLK 0 0x0106 0 { d with clk := { d.clk with hot := true } }
  else if d.clk.hot ∧ t.toInt < 1920 then { d with clk := { d.clk with hot := false } }
  else d

/-- REFCLK_FAULT: a reading of the monitor in ppm. -/
def refclkReading (ppm : BitVec 16) (d : Device) : Device :=
  let d := { d with clk := { d.clk with ppm := ppm } }
  if !d.clk.refBad ∧ 1000 < ppm.toInt.natAbs then raise sqCLK 1 0x0107 0 { d with clk := { d.clk with refBad := true } }
  else if d.clk.refBad ∧ ppm.toInt.natAbs ≤ 50 then { d with clk := { d.clk with refBad := false } }
  else d

/-! ### TCM and sandbox (15 R439, R457) -/

/-- SANDBOX_FAULT: core 1 stops; the split mailbox session closes; an unconfirmed split-core image rolls back (20 R574). -/
def sandboxFault (d : Device) : Device :=
  if !d.ccr.split ∨ d.ccr.splitStopped then d
  else
    let d := modCcr (fun c => { c with splitStopped := true }) (modBoot (fun b => { b with splitSince := none }) d)
    let d := raise sqCCR 7 0x0F08 0 d
    let d := d.ncp.sessions.foldl (fun d x => if x.2.open_ ∧ x.2.transport = some .split then closeSession x.1 d else d) d
    rollback [3] d

/-- A TCM bank's ledger entry (21 Table FLT-1): SRAM banks 44 and 45, entries 108 and 109. -/
def tcmEntry (core1 : Bool) : Nat := if core1 then 109 else 108

/-- A retired TCM bank takes its core (21 Table FLT-1). -/
def tcmRetired (core1 : Bool) (d : Device) : Device :=
  if core1 then modCcr (fun c => { c with ret1 := true }) d else modCcr (fun c => { c with ret0 := true }) d

/-- TCM_ERROR: corrected, a transient of the bank; uncorrected, a mismatch with cause TCM, or in Split-core mode HALTED or a sandbox fault. -/
def tcmError (core1 corrected : Bool) (main : List CcrTxn) (d : Device) : Device :=
  let i := tcmEntry core1
  if corrected then transient i 0x01F0 (tcmRetired core1) d
  else if core1 ∧ d.ccr.split then sandboxFault (hardFault i 0x01F0 (tcmRetired core1) d)
  else tcmUncorrected core1 main (hardFault i 0x01F0 (tcmRetired core1) d)

end Sys2Proof.Machine
end

