-- ==== Sys2Proof/Machine/Update.lean ====
section
/-! DEFINITION. Field update (20 R563 to R567, R577), Solstice (R568 to R571), confirmation and the boot watchdog (R572 to R574). -/

namespace Sys2Proof.Machine

/-! ### Packages (R563, Table BOOT-7, Table BOOT-8) -/

def maxPackage : Nat := 268435456

/-- First of `n` bytes from an offset on that has not arrived. -/
def firstMissing (u : Update) : Nat → Nat → Option Nat
  | 0, _ => none
  | n + 1, i => if (updByte u i).isNone then some i else firstMissing u n (i + 1)

/-- Bytes of the staged package; bytes that have not arrived count as 0 here. -/
def updBytes (u : Update) (off n : Nat) : Bytes := (List.range n).map (fun i => (updByte u (off + i)).getD 0)

/-- PKG_LENGTH, once its four bytes have arrived. -/
def pkgLength (u : Update) : Option Nat := if (firstMissing u 4 8).isNone then some (beAt (updBytes u 8 4) 0 4) else none

/-- Bytes of the package received so far. -/
def receivedBytes (u : Update) : Nat :=
  (u.blocks.foldl (fun (a : Nat × Nat) b => (a.1 + ((b.1 + b.2.length) - max b.1 a.2), max a.2 (b.1 + b.2.length))) (0, 0)).1

/-- Output of one record: COPY from the base image, LITERAL from the package, FILL. -/
def recordOut (base : Option Bytes) (pkg : Bytes) (r : Bytes) : Option Bytes :=
  let len := beAt r 4 4
  let src := beAt r 8 4
  if len = 0 ∨ beAt r 2 2 ≠ 0 then none
  else match beAt r 0 1 with
    | 1 => (match base with
      | some b => if beAt r 1 1 = 0 ∧ src + len ≤ b.length then some ((b.drop src).take len) else none
      | none => none)
    | 2 => if beAt r 1 1 = 0 ∧ src + len ≤ pkg.length then some ((pkg.drop src).take len) else none
    | 3 => if src = 0 then some (List.replicate len (r.getD 1 0)) else none
    | _ => none

/-- The target image that the records produce in order. -/
def runRecords (base : Option Bytes) (pkg : Bytes) : Nat → Nat → Option Bytes
  | 0, _ => some []
  | n + 1, i => match recordOut base pkg ((pkg.drop (64 + 12 * i)).take 12), runRecords base pkg n (i + 1) with
    | some a, some b => some (a ++ b)
    | _, _ => none

/-- A package whose header and records are well formed: its kind and whether it is full. -/
def headerOk (pkg : Bytes) : Bool :=
  decide (beAt pkg 0 4 = 0x4E565550) && decide (1 ≤ beAt pkg 4 1 ∧ beAt pkg 4 1 ≤ 5) && decide (beAt pkg 5 1 = 1) && decide (beAt pkg 6 2 = 0) &&
  decide (beAt pkg 52 12 = 0) && decide (64 + 12 * beAt pkg 16 4 ≤ pkg.length)

def isFullPkg (pkg : Bytes) : Bool := decide (beAt pkg 20 32 = 0)

def rebuild (base : Option Bytes) (pkg : Bytes) : Option Bytes :=
  match runRecords (if isFullPkg pkg then none else base) pkg (beAt pkg 16 4) 0 with
  | some b => if b.length = beAt pkg 12 4 then some b else none
  | none => none

/-! ### UPDATE_BLOCK, UPDATE_VERIFY, UPDATE_ABORT (R564 to R567, R577) -/

/-- What the read-back of a rebuilt image finds beside its bytes, and whether the flash could be programmed (R554, R566). -/
structure VerifyEnv where
  flashOk : Bool := true
  digestOk : Bool := true
  sigOk : Bool := true
  signer : BitVec 256 := 0
  content : ImageContent := .opaqueCode
  deriving DecidableEq, Repr

/-- Update commands need Summer and SPILL_READY, or ROM recovery (R565, R576). -/
def updateGate (d : Device) : Bool :=
  d.boot.recovery || (decide (d.ssn.season = .summer) && d.ssn.leaving.isNone && d.buf.spillReady)

def range (reason : BitVec 16) : Res := { status := 0x0105, reason := reason }

/-- A received byte differs from the block's byte at the same offset. -/
def conflicts (u : Update) (off : Nat) (data : Bytes) : Bool :=
  (List.range data.length).any (fun i => match updByte u (off + i) with
    | some b => decide (b ≠ data.getD i 0)
    | none => false)

/-- The block joins those received; of two at one offset the longer stays. -/
def addBlock (u : Update) (off : Nat) (data : Bytes) : Update :=
  match lookup? u.blocks off with
  | some b => if b.length < data.length then { u with blocks := insertAt u.blocks off data } else u
  | none => { u with blocks := insertAt u.blocks off data }

/-- The block carries a KIND, and it is not that of the open update. -/
def otherKind (u : Update) (off : Nat) (data : Bytes) : Bool :=
  match updByte u 4 with
  | some b => decide (off ≤ 4) && decide (4 < off + data.length) && decide (data.getD (4 - off) 0 ≠ b)
  | none => false

/-- UPDATE_BLOCK with TARGET SELF (R564, R565): its KIND is tested before its other bytes. The staging area is the top of the spill region.
(log entry 54: DESIGN CHOICE) -/
def updateBlock (off : Nat) (data : Bytes) (d : Device) : Res × Device :=
  if !updateGate d then ({ status := 0x0204 }, d)
  else if data.isEmpty ∨ 1984 < data.length then (range 0, d)
  else if d.boot.update.isNone ∧ !d.boot.recovery ∧ (d.boot.solstice.isSome ∨ anyTrial d) then ({ status := 0x0206, reason := 0x1326 }, d)
  else
    let u := d.boot.update.getD {}
    let v := addBlock u off data
    let past : Bool := decide (maxPackage < off + data.length) || (match pkgLength u with | some n => decide (n < off + data.length) | none => false)
    if otherKind u off data then (range 0x1323, d)
    else if conflicts u off data then (range 0x1328, d)
    else if past then (range 0x1325, d)
    else
      let first := d.boot.update.isNone
      let d := modBoot (fun b => { b with update := some v }) d
      ({}, if first then reviewSpill (raise sqBOOT 0 0x1301 0 d) else d)

/-- UPDATE_ABORT (R565). -/
def updateAbort (d : Device) : Res × Device := if updateGate d then ({}, closeUpdate d) else ({ status := 0x0204 }, d)

def imgErrRes : ImgErr → Res
  | .format => range 0x1323
  | .target => range 0x1324
  | .sig => { status := 0x0404, reason := 0x1322 }

/-- The slot an update writes: the free one; in recovery A when neither slot is valid (R577). -/
def updateSlot (k : Nat) (d : Device) : Bool :=
  let x := imageKind d k
  if d.boot.recovery ∧ !imageOk k x.a.image d ∧ !imageOk k x.b.image d then false else !x.ptrB

/-- Steps 4 to 6 of R566: erase, write, read back, mark. In recovery the slot becomes GOOD and pointed (R577). (log entry 54: DESIGN CHOICE) -/
def writeImage (k : Nat) (img : Image) (flashOk : Bool) (d : Device) : Res × Device :=
  let s := updateSlot k d
  let x := imageKind d k
  let d := setKind k (setSlotB x s {}) d
  if !flashOk then ({ status := 0x0003, reason := 0x1331 }, raise sqBOOT 7 0x130A 0 d)
  else match checkImage k img d with
    | some e => (imgErrRes e, d)
    | none =>
      let y := imageKind d k
      let done : FlashSlot := { state := if d.boot.recovery then .good else .staged, image := some img }
      let y := setSlotB y s done
      let y := if d.boot.recovery then { y with ptrB := s, starts := 0 } else y
      ({}, raise sqBOOT 1 0x1302 k (reviewSpill (modBoot (fun b => { b with update := none }) (setKind k y d))))

/-- UPDATE_VERIFY (R566): the first missing offset is the body of PACKAGE_INCOMPLETE. -/
def updateVerify (e : VerifyEnv) (d : Device) : Res × Device :=
  if !updateGate d then ({ status := 0x0204 }, d)
  else
    let u := d.boot.update.getD {}
    match firstMissing u (match pkgLength u with | some n => n | none => 64) 0 with
    | some i => ({ range 0x1321 with body := toBe 4 i }, d)
    | none =>
      let pkg := updBytes u 0 ((pkgLength u).getD 0)
      let k := beAt pkg 4 1 - 1
      let base := (pointed (imageKind d k)).image.map (·.bytes)
      if !headerOk pkg ∨ (d.boot.recovery ∧ !isFullPkg pkg) then (range 0x1323, d)
      else if !isFullPkg pkg ∧ base.map (fun b => (Config.sha256 b).toNat) ≠ some (beAt pkg 20 32) then (range 0x1320, d)
      else match rebuild base pkg with
        | none => (range 0x1323, d)
        | some b =>
          writeImage k { bytes := b, digestOk := e.digestOk, sigOk := e.sigOk, signer := e.signer, content := e.content } e.flashOk d

/-! ### Solstice (R568 to R571) -/

def blobOf (x : Option Image) : Option Cfg :=
  match x with
  | some i => (match i.content with | .blob c => some c | _ => none)
  | none => none

/-- A STAGED blob passes its full prepare, and SWITCH_TIME's alignment without the 60 s limit (R568). -/
def stagedBlobOk (t : Nat) (d : Device) : Bool :=
  if !(stagedKinds d).contains 4 then true
  else match blobOf (freeSlot (imageKind d 4)).image with
    | none => false
    | some c => alignOk c t false d && (match prepare c true d with | .ok _ => true | .refused .. => false)

/-- Whether SOLSTICE_SET may set TIME (R568); 0 cancels. -/
def solsticeOk (sec ns : Nat) (d : Device) : Bool :=
  let t := sec * 1000000000 + ns
  let now := localNs d
  decide (t = 0) || (decide (now + 1000000000 ≤ t) && decide (t ≤ now + 604800000000000) && !(stagedKinds d).isEmpty &&
    decide (d.tim.mode = .locked) && stagedBlobOk t d)

/-- TIME in force; a pending Solstice is replaced, or cancelled by 0 (R568). -/
def setSolstice (sec ns : Nat) (d : Device) : Device :=
  modBoot (fun b => { b with solstice := if sec = 0 ∧ ns = 0 then none else some (sec, ns) }) d

/-- A STAGED slot becomes GOOD and pointed. -/
def makeGood (k : Nat) (d : Device) : Device :=
  let x := imageKind d k
  setKind k { setSlotB x (!x.ptrB) { freeSlot x with state := .good } with ptrB := !x.ptrB, starts := 0 } d

/-- A STAGED slot becomes TRIAL and pointed (R569). -/
def makeTrial (k : Nat) (d : Device) : Device :=
  let x := imageKind d k
  setKind k { setSlotB x (!x.ptrB) { freeSlot x with state := .trial } with ptrB := !x.ptrB, starts := 0 } d

def activated (d : Device) : Device :=
  raise sqBOOT 2 0x1305 0 (modBoot (fun b => { b with solstice := none, pairWait := none }) d)

/-- A ROM patch or Renioft is STAGED: every STAGED slot on trial, and a warm reset (R569). -/
def activateReset (e : RomEnv) (d : Device) : Device :=
  warmNow .activation e (activated ((stagedKinds d).foldl (fun d k => makeTrial k d) d))

/-- A staged blob is committed at the Solstice (R569); one that is refused then is rolled back by its kind's rule. (log entry 62: DEDUCED) -/
def activateBlob (d : Device) : Device :=
  match blobOf (freeSlot (imageKind d 4)).image, (freeSlot (imageKind d 4)).image with
  | some c, some i =>
    (match prepare c false d with
     | .ok bs => commitBlob i c bs (makeGood 4 d)
     | .refused r _ =>
       let x := imageKind d 4
       noteRefusal r (setKind 4 (setSlotB x (!x.ptrB) { freeSlot x with state := .invalid }) d))
  | _, _ => d

/-- Kinds that need no reset (R569). -/
def activateLive (ks : List Nat) (d : Device) : Device :=
  let d := if ks.contains 2 then makeGood 2 d else d
  let d := if ks.contains 3 then
      let d := makeGood 3 d
      if d.ccr.split then startSplit d else d
    else d
  activated (if ks.contains 4 then activateBlob d else d)

/-- The Solstice has arrived at a device that takes part in it (R569, 01 R15). -/
def solsticeDue (d : Device) : Bool :=
  match d.boot.solstice with
  | some (s, n) => decide (s * 1000000000 + n ≤ localNs d) && decide (d.ssn.season = .summer) && d.ssn.leaving.isNone && d.glb.deviceId.isSome
  | none => false

/-- SOLSTICE (R569, R570). -/
def solstice (e : RomEnv) (d : Device) : Device :=
  if !solsticeDue d ∨ d.boot.pairWait.isSome then d
  else
    let ks := stagedKinds d
    if ks.contains 0 ∨ ks.contains 1 then
      if d.pair.role = .active ∧ d.pair.partnerReady then
        let t := d.now + msPs d.cfg.boot.pairWaitMs
        modBoot (fun b => { b with pairWait := some t }) d
      else activateReset e d
    else activateLive ks d

/-- SOLSTICE_PAIR_WAIT: the partner has returned STANDBY_READY on its new images, or the wait expires (R570). -/
def solsticePairWait (newImages : Bool) (e : RomEnv) (d : Device) : Device :=
  match d.boot.pairWait with
  | none => d
  | some t =>
    if newImages ∧ d.pair.partnerReady then activateReset e (switchover d)
    else if t ≤ d.now then activateReset e (raise sqBOOT 9 0x130C 0 d)
    else d

/-! ### Confirmation and the watchdog (R572 to R574) -/

def goodKind (k : Nat) (d : Device) : Device :=
  let x := imageKind d k
  if (pointed x).state = .trial then setKind k { setSlotB x x.ptrB { pointed x with state := .good } with starts := 0 } d else d

/-- CONFIRM: Renioft has run CONFIRM_TIME in Summer without a fault, and every TRIAL slot becomes GOOD; or core 1 has run that long (R573). (log entry 62: DEDUCED) -/
def confirm (d : Device) : Device :=
  let t := d.cfg.boot.confirmS * 1000000000000
  let finished (s : Option Nat) : Bool := match s with | some x => decide (x + t ≤ d.now) | none => false
  let live := decide (d.ssn.season = .summer) && renioftRuns d
  let main := live && finished d.boot.cleanSince && ([0, 1, 4] : List Nat).any (trialKind d)
  let core1 := finished d.boot.splitSince && !d.ccr.splitStopped && trialKind d 3
  if main then
    raise sqBOOT 4 0x1307 0 (modBoot (fun b => { b with watchdog := none }) ((List.range 5).foldl (fun d k => goodKind k d) d))
  else if core1 then raise sqBOOT 4 0x1307 3 (goodKind 3 d)
  else d

/-- BOOT_WATCHDOG (R574): a warm reset, whose ROM rolls back every TRIAL kind. -/
def bootWatchdog (e : RomEnv) (d : Device) : Device :=
  match d.boot.watchdog with
  | some t => if t ≤ d.now then warmNow .activation e (modBoot (fun b => { b with rollbackDue := true, watchdog := none }) d) else d
  | none => d

/-- PARTNER_COMMIT of a SOLSTICE_SET at the standby (R568, 01 R13): both devices of a pair hold one Solstice. -/
def partnerSolstice (sec ns : Nat) (epoch : Word) (d : Device) : Device :=
  if !isStandby d ∨ !d.pair.wyUp then d
  else if !solsticeOk sec ns d then sendPartner 5 .commit epoch.toNat 0x1327 d
  else setSolstice sec ns (partnerCommit d.cfg epoch none d)

end Sys2Proof.Machine
end

