-- ==== Sys2Proof/Machine/RegRead.lean ====
section
/-! DEFINITION. What every register of the BAR0 map reads as (18 R511, R515; the register tables of each block's chapter). An address that no
table defines answers `none`: it is reserved (00 R7). No read has an effect (00 R6). -/

namespace Sys2Proof.Machine

/-! ### Words and counters -/

/-- Fields as (value, lowest bit). -/
def pack (l : List (Nat × Nat)) : Word := BitVec.ofNat 32 ((l.map (fun x => x.1 * 2 ^ x.2)).sum)

def hi32 (v : BitVec 64) : Word := v.extractLsb' 32 32
def lo32 (v : BitVec 64) : Word := v.extractLsb' 0 32

/-- One word of a 64-bit value: the low word is first in address (03 R100). -/
def half (a : Nat) (v : BitVec 64) : Word := if a % 8 = 0 then lo32 v else hi32 v

/-- A location within `n` items of `stride` bytes from `lo`: the item and the offset in it. -/
def within_ (a lo n stride : Nat) : Option (Nat × Nat) :=
  if lo ≤ a ∧ a < lo + n * stride then some ((a - lo) / stride, (a - lo) % stride) else none

/-- Word k of a byte string, byte 4k in bits 31 to 24. (log entry 44: DESIGN CHOICE) -/
def beWord (b : Bytes) (k : Nat) : Word := BitVec.ofNat 32 (beAt b (4 * k) 4)

/-! ### Status registers (00 Table SCP-4, 18 R519) -/

/-- RO bits that stand in status registers (03 Table BUF-11, 07 Table FWL-13, 12 Table GWY-11). -/
def roBits (reg : Nat) (d : Device) : Nat :=
  if reg = sqBUF then bitN d.buf.spillReady * 256
  else if reg = sqFWL then
    bitN d.fwl.spring * 1024 + bitN (d.fwl.ctSync && d.pair.partnerReady && decide (d.pair.role = .active)) * 512 + bitN (graceOn d) * 256
  else if reg = sqGWY then bitN d.gw.running * 16
  else 0

def sqWord (reg : Nat) (d : Device) : Word :=
  let q := sqOf reg d
  BitVec.ofNat 32 (q.seq.toNat * 16777216) ||| q.bits.setWidth 32 ||| BitVec.ofNat 32 (roBits reg d)

/-- Port pages that hold registers (18 R525). -/
def hasPage (p : Nat) : Bool := decide (p < 25) || decide (p = 37)

/-- Addresses of status registers (18 R511). -/
def isStatusReg (a : Nat) : Bool :=
  [sqGLB, sqCLK, sqSSN, sqFLT, sqSEC, sqBOOT, sqNCP, sqFWD, sqBUF, sqTIM, sqSCH, sqASD, sqFWL, sqMSC, sqTOP, sqGWY, sqPAIR, sqCCR, sqHIF].contains a ||
  (List.range 8).any (fun n => decide (a = sqCXL n)) || (List.range 2).any (fun n => decide (a = sqMVB n)) ||
  (decide (0x800000 ≤ a) && decide (a < 0x826000) && hasPage ((a - 0x800000) / 4096) &&
    (decide (a % 4096 = 0x40) || (decide (a % 4096 = 0x300) && decide ((a - 0x800000) / 4096 < 25))))

/-- EVT_SUMMARY bit of an event ID (18 R521). -/
def summaryBit (d : Device) (id : Nat) : Bool :=
  d.sq.any (fun x =>
    decide (sqId x.1 = id) &&
    (if 0x800000 ≤ x.1 ∧ x.1 % 0x1000 = 0x40 then
      decide (x.2.bits &&& (lookupD d.glb.prtIrq ((x.1 - 0x800000) / 0x1000) 0).setWidth 24 ≠ 0)
     else decide (x.2.bits ≠ 0)))

def evtSummary (d : Device) : Word := pack (((List.range 21).map (· + 1)).map (fun id => (bitN (summaryBit d id), id)))

/-! ### Global, clock, seasons (18 Table REG-4, 22 Table ELE-11, 13 Table SSN-13) -/

def modeWord (d : Device) : Word :=
  pack [(d.otp.lc, 0), (bitN d.ccr.split, 4), (bitN d.ccr.fromStrap, 5), (bitN d.cfg.pair.paired, 8)]

def devIdWord (d : Device) : Word := match d.glb.deviceId with | some v => BitVec.ofNat 32 (2147483648 + v.toNat) | none => 0

def revWord : Word := BitVec.ofNat 32 (Config.stepping.toNat + Config.romVersion.toNat * 256)

def readGlb (d : Device) (a : Nat) : Option Word :=
  match a with
  | 0x00 => some 0x4E560008
  | 0x04 => some revWord
  | 0x08 => some (hi32 Config.uid)
  | 0x0C => some (lo32 Config.uid)
  | 0x10 => some d.glb.fwVer
  | 0x14 => some (devIdWord d)
  | 0x18 => some (modeWord d)
  | 0x20 => some d.glb.cfgEpoch
  | 0x24 => some (d.glb.prot.setWidth 32)
  | 0x100 => some (d.glb.lock.setWidth 32)
  | 0x110 => some (evtSummary d)
  | 0x114 => some ((d.glb.evtLo &&& 0xFFFE).setWidth 32)
  | 0x118 => some (d.glb.evtHi.setWidth 32)
  | 0x120 => some d.glb.rstCause
  | 0x124 => some (d.glb.rstCount.setWidth 32)
  | 0x130 => some d.glb.berrAddr
  | 0x134 => some d.glb.berrInfo
  | 0x138 => some d.glb.berrCount
  | 0x200 => some d.glb.scratch
  | _ => none

def readClk (d : Device) (a : Nat) : Option Word :=
  match a with
  | 0x100 => some (pack [(d.clk.temp.toNat, 0), (d.clk.peak.toNat, 16)])
  | 0x104 => some (d.clk.ppm.setWidth 32)
  | 0x108 => some (d.clk.plls.setWidth 32)
  | _ => none

def ssnState (d : Device) : Word :=
  pack [(bitN (decide (d.ssn.season = .spring)), 0), (if d.ssn.commit.isSome then 2 else if d.ssn.consent.isSome then 1 else 0, 2),
    (bitN d.ssn.fallback, 4), (bitN (isOrigin d), 5), (bitN (isReady d), 6), (bitN d.ssn.wakeHold.isSome, 7), (bitN d.ssn.springPaths, 8)]

def readSsn (d : Device) (a : Nat) : Option Word :=
  match within_ a 0x1000 10 8 with
  | some _ => some (half a (counter (0x20000 + a - a % 8) d))
  | none =>
    let t := d.ssn.commit.getD (0, 0)
    match a with
    | 0x100 => some (ssnState d)
    | 0x104 => some (pack [(d.ssn.wakeSource, 0), (d.ssn.wakeChan, 8), (bitN d.ssn.wakeBefore, 16)])
    | 0x108 => some d.ssn.wakeKsec
    | 0x10C => some (d.ssn.wakeKsub.setWidth 32)
    | 0x110 => some (pack [((ring d).length, 0), (d.ssn.round.toNat, 16)])
    | 0x114 => some (BitVec.ofNat 32 (t.1 / 4294967296 % 65536))
    | 0x118 => some (BitVec.ofNat 32 t.1)
    | 0x11C => some (pack [(t.2, 0), (bitN d.ssn.commit.isSome, 31)])
    | 0x120 => some (pack [(bitN d.ssn.wakeIn, 0), (bitN d.ssn.wakeOut.isSome, 1), (d.ssn.canWake.toNat, 8)])
    | _ => none

/-! ### Fault, security, boot (21 Table FLT-5, 19 Table SEC-12, 20 Table BOOT-11) -/

def readFlt (d : Device) (a : Nat) : Option Word :=
  match within_ a 0x1000 158 16 with
  | some (i, o) => if ledgerValid i then (ledgerWords i d)[o / 4]? else none
  | none =>
    match within_ a 0x110 8 4 with
    | some (k, _) => some (match d.flt.late.head? with | some r => beWord (lateBytes r) k | none => 0)
    | none =>
      match a with
      | 0x100 => some (pack [((d.flt.ledger.filter (fun x => decide (x.2.state = .retired))).length, 0), (bitN (impairedNow d), 8), (bitN d.flt.hlthLow, 9),
          (bitN (d.cfg.flt.any (fun x => x.2.strict)), 10)])
      | 0x104 => some (BitVec.ofNat 32 d.flt.late.length)
      | 0x108 => some d.flt.lateLost
      | 0x10C => some 0
      | 0x130 => some d.flt.noteLost
      | _ => none

def keyStNo : KeySt → Nat
  | .free => 0 | .written => 1 | .erasing => 2 | .lockedOut => 3

def slotWord (x : KeySlot) : Word :=
  pack [(keyStNo x.st, 30), (x.desc.type_.toNat, 16), (x.desc.use.toNat, 8), (x.desc.masters.toNat, 4), (bitN x.desc.persist, 3),
    (bitN x.desc.debugOk, 2), (x.desc.bind, 0)]

def secState (d : Device) : Word :=
  pack [(d.otp.lc, 0), (bitN d.keeper.valid, 3), (bitN d.keeper.root.isSome, 4), (bitN d.sec.tampered, 5), (bitN d.msc.entropyOk, 6),
    (bitN d.sec.debugTicket, 7), (d.otp.epochFuses % 128, 8), (bitN (decide (64 ≤ d.otp.epochFuses)), 15), (d.otp.tamperEn.toNat, 16)]

def readSec (d : Device) (a : Nat) : Option Word :=
  match within_ a 0x200 64 4 with
  | some (n, _) => some (match keySlot d n with | some x => slotWord x | none => 0)
  | none =>
    match within_ a 0x1000 8 0x20 with
    | some (i, o) => some (beWord (measBytes (measOf d i)) (o / 4))
    | none =>
      match within_ a 0x1100 8 4 with
      | some (w, _) => some (beWord (measBytes (bindFw d)) w)
      | none =>
        match within_ a 0x110 4 4 with
        | some (k, _) => some (beWord d.keeper.tamperRecord k)
        | none =>
          match a with
          | 0x100 => some (secState d)
          | 0x104 => some (BitVec.ofNat 32 (bootCounter d / 4294967296))
          | 0x108 => some (BitVec.ofNat 32 (bootCounter d))
          | _ => none

def slotStNo : SlotSt → Nat
  | .empty => 0 | .staged => 1 | .trial => 2 | .good => 3 | .invalid => 4

/-- State of the update (20 Table BOOT-11): staged where no update is open and a slot is STAGED. (log entry 58: DESIGN CHOICE) -/
def updateState (d : Device) : Nat :=
  match d.boot.update with
  | some u => if u.rebuilding then 2 else 1
  | none => if (List.range 5).any (fun k => let x := imageKind d k; decide (x.a.state = .staged) || decide (x.b.state = .staged)) then 3 else 0

def bootState (d : Device) : Word :=
  pack ([(bitN d.boot.recovery, 0), (updateState d, 1), (bitN d.boot.solstice.isSome, 4), (bitN d.boot.watchdog.isSome, 5), (bitN d.boot.byActivation, 16)] ++
    (List.range 5).map (fun k => (bitN (imageKind d k).ptrB, 6 + k)) ++ (List.range 5).map (fun k => (bitN (trialKind d k), 11 + k)))

def readBoot (d : Device) (a : Nat) : Option Word :=
  match within_ a 0x200 5 8 with
  | some (k, o) =>
    let x := imageKind d k
    some (if o / 4 = 0 then pack [(slotStNo x.a.state, 0), (slotStNo x.b.state, 4), (bitN x.ptrB, 8), (x.starts, 10)]
      else match (pointed x).image with | some i => i.version | none => 0)
  | none =>
    let t := d.boot.solstice.getD (0, 0)
    match a with
    | 0x100 => some (bootState d)
    | 0x104 => some (match d.boot.update with | some u => BitVec.ofNat 32 (receivedBytes u) | none => 0)
    | 0x108 => some (match d.boot.update with | some u => BitVec.ofNat 32 ((pkgLength u).getD 0) | none => 0)
    | 0x10C => some (match d.boot.watchdog with | some t => BitVec.ofNat 32 (ceilDiv (t - d.now) 1000000000) | none => 0)
    | 0x110 => some (BitVec.ofNat 32 (t.1 / 4294967296 % 65536))
    | 0x114 => some (BitVec.ofNat 32 t.1)
    | 0x118 => some (pack [(t.2, 0), (bitN d.boot.solstice.isSome, 31)])
    | _ => none

/-! ### Commands (16 Table NCP-10) -/

/-- Commands received and not final. -/
def unfinished (x : Session) : Nat := (x.recs.filter (fun r => !isFinal r.2)).length

def sessState (x : Session) : Word :=
  pack [(bitN x.open_, 31), (transportNo x.transport, 28), (authNo x.auth, 26), (unfinished x, 0)]

def readNcp (d : Device) (a : Nat) : Option Word :=
  match within_ a 0x1000 8 8 with
  | some _ => some (half a (counter (0x80000 + a - a % 8) d))
  | none =>
    match within_ a 0x100 4 0x40 with
    | none => none
    | some (s, o) =>
      let x := sessionOf d s
      match o with
      | 0x00 => some (sessState x)
      | 0x04 => some (lowOf x)
      | 0x08 => some x.high
      | 0x10 => some (lo32 x.rings.cmdBase)
      | 0x14 => some (hi32 x.rings.cmdBase)
      | 0x18 => some (lo32 x.rings.rplBase)
      | 0x1C => some (hi32 x.rings.rplBase)
      | 0x20 => some (BitVec.ofNat 32 x.rings.cmdPi)
      | 0x24 => some (BitVec.ofNat 32 x.rings.cmdCi)
      | 0x28 => some (BitVec.ofNat 32 x.rings.rplPi)
      | 0x2C => some (BitVec.ofNat 32 x.rings.rplCi)
      | _ => none

/-! ### Frame path, buffers, time (02 Table FWD-9, 03 Table BUF-10, 04 Table TIM-7) -/

/-- The test key: byte 4k + j in bits [8j+7:8j] of HASH_KEYk. -/
def hashKeyBytes (d : Device) : Bytes := (List.range 10).flatMap (fun k => leWord (lookupD d.fwd.hashKey k 0))

/-- C of 02 R51 over the test key. -/
def hashCrc (d : Device) : Word := crc32c (hashKeyBytes d)

def readFwd (d : Device) (a : Nat) : Option Word :=
  match within_ a 0x110 10 4 with
  | some (k, _) => some (lookupD d.fwd.hashKey k 0)
  | none =>
    match a with
    | 0x100 => some d.cfg.fwd.hashSeed
    | 0x104 => some (BitVec.ofNat 32 d.cfg.fwd.flowletUs)
    | 0x138 => some (hashCrc d)
    | 0x13C => some (BitVec.ofNat 32 (hashIndex d.cfg.fwd.hashSeed (hashKeyBytes d)))
    | _ => none

/-- Counter k of queue q: 12 is the depth and 14 the average A as they stand (03 Table BUF-9). -/
def queueCounter (d : Device) (q k : Nat) : BitVec 64 :=
  if k = 12 then BitVec.ofNat 64 (depth d q)
  else if k = 14 then (match (queueOf d q).avg with | some v => BitVec.ofNat 64 v | none => Config.avgUndefined q)
  else counter (queueCtr q k) d

def readBuf (d : Device) (a : Nat) : Option Word :=
  match within_ a 0x4000 368 0x80 with
  | some (q, o) => some (half a (queueCounter d q (o / 8)))
  | none =>
    match within_ a 0x10000 304 0x20 with
    | some (i, o) => some (half a (if o / 8 = 0 then BitVec.ofNat 64 (allotOf d i).used else counter (allotCtr i (o / 8)) d))
    | none =>
      match a with
      | 0x100 => some (BitVec.ofNat 32 (freeCells d))
      | 0x104 => some (BitVec.ofNat 32 (sharedFree d))
      | 0x108 => some (BitVec.ofNat 32 (freeDesc d))
      | 0x10C => some (BitVec.ofNat 32 (schedResv d))
      | 0x110 => some (BitVec.ofNat 32 d.buf.spillCopies)
      | 0x114 => some (BitVec.ofNat 32 (spillPageLimit d - d.buf.spillPages))
      | 0x118 => some d.buf.ageClock
      | _ => none

def modeNo : ClockMode → Nat
  | .freeRun => 0 | .locked => 1 | .holdover => 2

def domWord (d : Device) (b : Bool) : Word :=
  let x := domOf d b
  pack [((domCfg d b).number.toNat, 0), (x.vec.getD 1 0 % 256, 16), (bitN x.gmIsSelf, 30), (bitN (usable d b), 31)]

def readTim (d : Device) (a : Nat) : Option Word :=
  let s := d.tim.snap
  match a with
  | 0x100 => some 0
  | 0x104 => some (BitVec.ofNat 32 (s.sec.toNat / 4294967296))
  | 0x108 => some (BitVec.ofNat 32 s.sec.toNat)
  | 0x10C => some (s.ns.setWidth 32)
  | 0x110 => some s.frac
  | 0x114 => some s.ts32
  | 0x118 => some (pack [(modeNo d.tim.mode, 0), (bitN (if d.tim.mode = .freeRun then d.cfg.tim.preferredB else d.tim.selB), 2),
      (bitN d.tim.keeperInvalid, 3), (d.tim.step.toNat, 8), (s.step.toNat, 16)])
  | 0x11C => some (BitVec.ofNat 32 (d.tim.incr.toNat / 4294967296))
  | 0x120 => some (BitVec.ofNat 32 d.tim.incr.toNat)
  | 0x130 => some (domWord d false)
  | 0x134 => some (hi32 d.tim.domA.gm)
  | 0x138 => some (lo32 d.tim.domA.gm)
  | 0x140 => some (domWord d true)
  | 0x144 => some (hi32 d.tim.domB.gm)
  | 0x148 => some (lo32 d.tim.domB.gm)
  | 0x150 => some (splitOf d)
  | _ => none

/-! ### Scheduled traffic, Assured delivery, firewall, MACsec (05 Table SCH-13, 06 Table ASD-7, 07 Table FWL-12, 08 Table MSC-8) -/

def readSch (d : Device) (a : Nat) : Option Word :=
  let t : Nat × Nat := match d.switching with | some x => (x.sec, x.ns) | none => (0, 0)
  match a with
  | 0x100 => some (BitVec.ofNat 32 (d.cfg.sch.streams.filter (fun x => isAdmitted x.2)).length)
  | 0x104 => some (BitVec.ofNat 32 (d.sch.streams.filter (fun (x : Nat × StreamState) => x.2.atRisk)).length)
  | 0x108 => some (BitVec.ofNat 32 (t.1 / 4294967296 % 65536))
  | 0x10C => some (BitVec.ofNat 32 t.1)
  | 0x110 => some (pack [(t.2, 0), (bitN d.switching.isSome, 31)])
  | _ => none

/-- Records that wait for the partner's acknowledgement. -/
def replPending (d : Device) : Nat := if d.asd.replicating then (d.asd.journal.filter (fun r => !r.acked)).length else 0

def readAsd (d : Device) (a : Nat) : Option Word :=
  match within_ a 0x2000 2048 4 with
  | some (n, _) => some (match slotAt d n with | some s => pack [(s.handle, 0), (1, 31)] | none => 0)
  | none =>
    match within_ a 0x4000 2048 0x40 with
    | some _ => some (half a (counter (0x380000 + a - a % 8) d))
    | none =>
      match a with
      | 0x100 => some (BitVec.ofNat 32 d.asd.slots.length)
      | 0x104 => some (BitVec.ofNat 32 ((d.cfg.sch.streams.filter (fun x => isAssured x.2)).map (fun x => x.2.asd.rateMbps)).sum)
      | 0x108 => some (BitVec.ofNat 32 (journalFill d))
      | 0x10C => some (d.asd.copiesIn.setWidth 32)
      | 0x110 => some (BitVec.ofNat 32 (replPending d % 65536))
      | _ => none

/-- CT keys that wait for a lookup; at most 1,024 reads run (07 R232). -/
def waitingKeys (d : Device) : Nat :=
  ((d.fwl.missQ.filter (fun x => (lookup? d.fwl.verdicts x.1).isNone)).map Prod.snd).eraseDups.length

def readFwl (d : Device) (a : Nat) : Option Word :=
  match within_ a 0x2000 13 8 with
  | some _ => some (half a (counter (0x400000 + a - a % 8) d))
  | none =>
    match within_ a 0x4000 256 0x40 with
    | some _ => some (half a (counter (0x400000 + a - a % 8) d))
    | none =>
      match a with
      | 0x100 => some (BitVec.ofNat 32 d.fwl.ct.length)
      | 0x104 => some (BitVec.ofNat 32 (d.fwl.cache.map (fun (x : Nat × List (Option Way)) => (x.2.filter Option.isSome).length)).sum)
      | 0x108 => some (BitVec.ofNat 32 d.fwl.missQ.length)
      | 0x10C => some (BitVec.ofNat 32 (Config.readsInFlight (waitingKeys d) % (min (waitingKeys d) 1024 + 1)))
      | 0x110 => some d.fwl.fwSec
      | 0x114 => some d.fwl.restartSec
      | 0x118 => some d.fwl.seed
      | 0x11C => some (BitVec.ofNat 32 (d.fwl.ct.filter (fun (x : Nat × Ct) => x.2.napt && !x.2.alias_)).length)
      | 0x120 => some (match d.fwl.revalPos with | some p => pack [(p, 0), (1, 31)] | none => 0)
      | 0x124 => some (BitVec.ofNat 32 d.fwl.frags.length)
      | _ => none

/-- The SA a transmit SC encodes with. -/
def encodingSa (x : TxSc) : Option TxSa := match x.enc with | some an => x.sas.find? (fun s => decide (s.an = an)) | none => none

def txScWord (d : Device) (n : Nat) : Word :=
  match lookup? d.cfg.msc.secys n with
  | none => 0
  | some y =>
    let x := lookupD d.msc.tx n {}
    pack [(1, 31), (bitN x.stopped, 30), (match encodingSa x with | some s => bitN s.softDone | none => 0, 29),
      (match x.enc with | some an => an.toNat | none => 0, 24), (y.port, 16), (n, 0)]

def rxScWord (d : Device) (n : Nat) : Word :=
  match lookup? d.cfg.msc.rxScs n with
  | none => 0
  | some r => pack [(1, 31), (bitN r.defaultRx, 30), (match lookup? d.cfg.msc.secys r.secy with | some y => y.port | none => 0, 16), (r.secy, 0)]

/-- Next PN of transmit SA s: the first or second SA of SC s / 2. (log entry 34: DESIGN CHOICE) -/
def txSaPn (d : Device) (s : Nat) : BitVec 64 :=
  match (lookupD d.msc.tx (s / 2) {}).sas.find? (fun x => decide (x.pos = s % 2)) with
  | some x => BitVec.ofNat 64 x.pn
  | none => 0

def readMsc (d : Device) (a : Nat) : Option Word :=
  match within_ a 0x800 10 8 with
  | some _ => some (half a (counter (0x480000 + a - a % 8) d))
  | none =>
    match within_ a 0x1000 256 4 with
    | some (n, _) => some (txScWord d n)
    | none =>
      match within_ a 0x2000 1024 4 with
      | some (n, _) => some (rxScWord d n)
      | none =>
        match within_ a 0x3000 512 8 with
        | some (s, _) => some (half a (txSaPn d s))
        | none =>
          match within_ a 0x4000 256 0x40 with
          | some _ => some (half a (counter (0x480000 + a - a % 8) d))
          | none =>
            match within_ a 0x8000 1024 0x80 with
            | some _ => some (half a (counter (0x480000 + a - a % 8) d))
            | none =>
              match a with
              | 0x100 => some (pack [(d.cfg.msc.rxScs.length, 0), (d.cfg.msc.secys.length, 16)])
              | 0x104 => some (pack [((d.msc.rx.map (fun (x : Nat × List RxSa) => x.2.length)).sum, 0),
                  ((d.msc.tx.map (fun (x : Nat × TxSc) => x.2.sas.length)).sum, 16)])
              | 0x108 => some (pack [(bitN d.msc.entropyOk, 0), (bitN d.msc.drbgDegraded, 1)])
              | _ => none

/-! ### Topology, CAN, MVB, gateway (09 Table TOP-8, 10 Table CXL-10, 11 Table MVB-8, 12 Table GWY-10) -/

def lineNo : LineState → Nat
  | .bypassed => 0 | .inserting => 1 | .discovering => 2 | .stableWait => 3 | .inaugurated => 4 | .inhibited => 5

def topoState (d : Device) : Word :=
  let me := d.top.list.find? (·.self)
  pack [(lineNo d.top.line, 0), (bitN (position d), 4), (ownPos d.top.list, 8), (match me with | some x => bitN x.reversed | none => 0, 14),
    (bitN (inhibited d), 15), (d.top.list.length, 16)]

def readTop (d : Device) (a : Nat) : Option Word :=
  match within_ a 0x1000 63 8 with
  | some (i, o) => some (match d.top.list[i]? with | some x => beWord (nodeEntry (i + 1) x) (o / 4) | none => 0)
  | none =>
    match a with
    | 0x100 => some (topoState d)
    | 0x104 => some d.top.count
    | 0x108 => some (pack [(bitN d.top.bypassEn, 0), (bitN d.top.wdReleased, 1), (bitN d.cfg.top.autumnHold, 2)])
    | _ => none

/-- Bits of transmit entries first to first + 31 that satisfy a test. -/
def entryMask (x : CanState) (first : Nat) (p : TxPhase → Bool) : Word :=
  pack ((List.range 32).map (fun k => (bitN (p (txOf x (first + k)).phase), k)))

def readCan (d : Device) (n a : Nat) : Option Word :=
  let x := canSt d n
  let busy (p : TxPhase) : Bool := decide (p = .pending) || decide (p = .attempt)
  match within_ a 0x1000 16 8 with
  | some _ => some (half a (counter (0x540000 + n * 0x4000 + a - a % 8) d))
  | none =>
    match within_ a 0x200 7 4 with
    | some _ => some 0
    | none =>
      match a with
      | 0x100 => some (pack [(if !x.on then 3 else if x.busOff then 2 else if x.passive then 1 else 0, 0), (bitN x.alone, 2), (bitN x.retired, 3), (bitN x.recovering, 4)])
      | 0x104 => some (pack [(x.txErr % 512, 0), (x.rxErr % 256, 16), (min x.consecAck 255, 24)])
      | 0x108 => some (pack [(x.tdcDelay.toNat, 0), (x.tdcPoint.toNat, 8)])
      | 0x110 => some (entryMask x 0 busy)
      | 0x114 => some (entryMask x 32 busy)
      | 0x118 => some (entryMask x 0 (fun p => decide (p = .done)))
      | 0x11C => some (entryMask x 32 (fun p => decide (p = .done)))
      | 0x120 => some (pack [(x.rx.length, 0), (x.rxHead % 256, 16)])
      | 0x124 => some x.rxLost
      | _ => none

def mvbRoleNo : MvbRole → Nat
  | .off => 0 | .slave => 1 | .standby => 2 | .master => 3

/-- Sink ports that are STALE. -/
def staleSinks (d : Device) (n : Nat) : Nat :=
  ((mvbCfg d.cfg n).ports.filter (fun (p : Nat × MvbPort) => !p.2.source && (mvbEntry d n p.1).mark)).length

def readMvb (d : Device) (n a : Nat) : Option Word :=
  let x := mvbSt d n
  match within_ a 0x1000 16 8 with
  | some _ => some (half a (counter (0x580000 + n * 0x10000 + a - a % 8) d))
  | none =>
    match a with
    | 0x100 => some (pack [(mvbRoleNo x.role, 0), (bitN x.distA, 2), (bitN x.distB, 3), (bitN x.retired, 4), (bitN (sourcesMuted d), 5),
        ((mvbCfg d.cfg n).devAddr, 8)])
    | 0x104 => some (match x.master with | some m => pack [(m, 0), (1, 31)] | none => 0)
    | 0x108 => some x.mseq
    | 0x10C => some (BitVec.ofNat 32 (staleSinks d n))
    | _ => none

def readGwy (d : Device) (a : Nat) : Option Word :=
  match within_ a 0x110 8 4 with
  | some (n, _) => some (BitVec.ofNat 32 (waitList d n).length)
  | none =>
    match within_ a 0x2000 7 8 with
    | some _ => some (half a (counter (0x5C0000 + a - a % 8) d))
    | none =>
      match within_ a 0x4000 4096 0x20 with
      | some _ => some (half a (counter (0x5C0000 + a - a % 8) d))
      | none =>
        match a with
        | 0x100 => some (BitVec.ofNat 32 d.cfg.gw.routes.length)
        | 0x104 => some (BitVec.ofNat 32 d.cfg.gw.outputs.length)
        | 0x108 => some (BitVec.ofNat 32 d.cfg.gw.signals.length)
        | 0x10C => some (BitVec.ofNat 32 (d.gw.outs.filter (fun (x : Nat × GwOut) => x.2.stale)).length)
        | _ => none

/-! ### Pair, control complex, host interface (14 Table PAIR-12, 15 Table CCR-7, 17 Table HIF-11, Table HIF-13) -/

def roleNo : Role → Nat
  | .unpaired => 0 | .electing => 1 | .active => 2 | .standbySyncing => 3 | .standbyReady => 4 | .failed => 5

def pairState (d : Device) : Word :=
  pack [(roleNo d.pair.role, 0), (bitN (position d), 4), (bitN d.pair.wyUp, 5), (bitN d.pair.pinUp, 6), (bitN d.pair.suspended, 7), (bitN d.pair.takeover, 8),
    (match d.pair.partnerId with | some v => v.toNat | none => 0, 16), (bitN d.pair.partnerId.isSome, 28)]

/-- Microseconds since the latest of some times, saturating at 65,535. (log entry 47: DESIGN CHOICE) -/
def sinceUs (now : Nat) (ts : List (Option Nat)) : Nat :=
  (ts.filterMap id).foldl (fun m t => min m ((now - t) / 1000000)) 65535

/-- Counters of the gateway block, in halves (12, 18). (log entry 47: DESIGN CHOICE) -/
def readPair (d : Device) (a : Nat) : Option Word :=
  match within_ a 0x1000 8 8 with
  | some _ => some (half a (counter (0x600000 + a - a % 8) d))
  | none =>
    match within_ a 0x2000 2 8 with
    | some _ => some (half a (counter (0x600000 + a - a % 8) d))
    | none =>
      match a with
      | 0x100 => some (pairState d)
      | 0x104 => some d.pair.epoch
      | 0x108 => some (pack [(sinceUs d.now [d.pair.lastSent, d.pair.lastWy], 0), (sinceUs d.now [d.pair.lastSent, d.pair.lastPin], 16)])
      | 0x10C => some d.pair.lastWin
      | _ => none

def ccrModeNo : CcrMode → Nat
  | .compared => 0 | .selfTest => 1 | .uncompared => 2 | .halted => 3 | .split => 4 | .restarting => 5

def readCcr (d : Device) (a : Nat) : Option Word :=
  let c := d.ccr
  match within_ a 0x1000 8 8 with
  | some _ => some (half a (counter (0x640000 + a - a % 8) d))
  | none =>
    match a with
    | 0x100 => some (pack [(ccrModeNo c.mode, 0), (bitN (decide (c.mode = .uncompared) && c.onCore1), 4), (bitN c.ret0, 5), (bitN c.ret1, 6), (bitN c.retCmp, 7), (bitN d.cfg.ccr.uncompHalt, 8),
        (bitN c.fromStrap, 9), (bitN c.debug, 10), (bitN c.gaiStopped, 11), (bitN (c.split && c.splitStopped), 12)])
    | 0x104 => some (pack [(c.lag % 8192, 0), (c.peakLag % 8192, 16)])
    | 0x108 => some (BitVec.ofNat 32 c.held.length)
    | 0x10C => some c.lastWin
    | 0x110 => some c.mmWin
    | 0x114 => some (pack [(c.cause, 0), (c.verdicts.toNat, 8)])
    | _ => none

def chStNo : ChSt → Nat
  | .disabled => 0 | .running => 1 | .stalled => 2 | .stopped => 3

/-- Register of a channel set's page; pages 64 to 67 hold Q_CTRL, Q_STATE and the fault registers alone (17 R510). -/
def readHifPage (d : Device) (q o : Nat) : Option Word :=
  let p := hifPage d q
  if 64 ≤ q ∧ o < 0x2C then none
  else
    match o with
    | 0x00 => some (lo32 p.txBase)
    | 0x04 => some (hi32 p.txBase)
    | 0x08 => some (BitVec.ofNat 32 p.txSize)
    | 0x0C => some (BitVec.ofNat 32 p.txPi)
    | 0x10 => some (BitVec.ofNat 32 p.txCi)
    | 0x14 => some (lo32 p.rxBase)
    | 0x18 => some (hi32 p.rxBase)
    | 0x1C => some (BitVec.ofNat 32 p.rxSize)
    | 0x20 => some (BitVec.ofNat 32 p.rxPi)
    | 0x24 => some (BitVec.ofNat 32 p.rxCi)
    | 0x28 => some (pack [(p.prio, 0), (p.irqDelay, 8)])
    | 0x2C => some 0
    | 0x30 => some (pack [(chStNo p.tx.st, 0), (chStNo p.rx.st, 4)])
    | 0x34 => some p.faultInfo
    | 0x38 => some (lo32 p.faultIova)
    | 0x3C => some (hi32 p.faultIova)
    | _ => none

def readSpace (d : Device) (s o : Nat) : Option Word :=
  let x := lookupD d.hif.spaces s {}
  match o with
  | 0x0 => some (lo32 x.root)
  | 0x4 => some (hi32 x.root)
  | 0x8 => some (BitVec.ofNat 32 x.mode)
  | _ => none

/-- The registers of the host interface (17). (log entry 57: PRESUMED) -/
def readHif (d : Device) (a : Nat) : Option Word :=
  match within_ a 0x2000 68 0x10 with
  | some (s, o) => readSpace d s o
  | none =>
    match within_ a 0x4000 68 0x80 with
    | some (q, o) => readHifPage d q o
    | none =>
      match within_ a 0x8000 64 0x40 with
      | some _ => some (half a (counter (0x680000 + a - a % 8) d))
      | none =>
        match within_ a 0xC000 288 4 with
        | some (k, _) => some (lookupD d.hif.msix k (if k % 4 = 3 then 1 else 0))
        | none =>
          match within_ a 0xD000 4 4 with
          | some _ => some 0
          | none =>
            match a with
            | 0x100 => some (pack [(d.hif.speed, 0), (d.hif.width, 4), (bitN d.hif.linkUp, 8), (bitN d.hif.bme, 9)])
            | 0x104 => some (lo32 d.hif.invAddr)
            | 0x108 => some (hi32 d.hif.invAddr)
            | 0x10C => some 0
            | 0x110 => some (d.hif.invDone.setWidth 32)
            | _ => none

/-- Words of the endpoint's configuration space (17 R485, R486): IDs, Bus Master Enable, class code and Revision ID, BAR0 as a 64-bit non-prefetchable memory
BAR, Subsystem IDs. (log entry 57: PRESUMED) -/
def configSpace (d : Device) (a : Nat) : Option Word :=
  match a with
  | 0x00 => some 0x00081F3E
  | 0x04 => some (pack [(bitN d.hif.bme, 2)])
  | 0x08 => some (pack [(Config.stepping.toNat, 0), (0x028000, 8)])
  | 0x10 => some 4
  | 0x2C => some Config.subsystem
  | _ => none

/-! ### Port pages (18 Table REG-7, 04 Table TIM-8, 05 Table SCH-15, 08 Table MSC-10) -/

def rateCode (r : Nat) : Nat :=
  if r = 1000 then 1 else if r = 2500 then 2 else if r = 5000 then 3 else if r = 10000 then 4 else if r = 25000 then 5 else if r = 50000 then 6 else 0

/-- PRT_LINK (18 Table REG-7). (log entry 58: DESIGN CHOICE) -/
def linkWord (d : Device) (p : Nat) : Word :=
  let s := portSt d p
  pack [(bitN s.linkUp, 0), (bitN s.linkUp, 1), (bitN s.linkUp, 2), (bitN s.txOn, 3), (rateCode (portCfg d p).rate, 4), (bitN s.ingressOn, 8), (bitN s.retired, 9)]

/-- Words of the oldest transmit timestamp (04 Table TIM-8). -/
def txtsWord (d : Device) (p k : Nat) : Word :=
  match (portSt d p).txts.head? with
  | none => 0
  | some (st, id, status) =>
    match k with
    | 0 => st.ts32
    | 1 => pack [(id.toNat, 0), (st.frac.toNat, 16)]
    | 2 => pack [(st.step.toNat, 0), (bitN st.holdover, 27), (bitN st.freeRun, 28), (status, 29), (1, 31)]
    | _ => 0

def gateWord (d : Device) (p : Nat) : Word :=
  let g := gateSt d p
  let s := portSt d p
  pack [(g.gates.toNat, 0), (g.entry % 1024, 16), (bitN s.verifyFail, 28), (bitN s.preemptActive, 29), (bitN s.macHold, 30), (bitN g.running, 31)]

/-- A 32-bit counter of a port page. -/
def pageCtr (d : Device) (p o : Nat) : Word := lo32 (counter (0x800000 + p * 0x1000 + o) d)

/-- A register of a port page (18 R525). (log entry 58: DESIGN CHOICE) -/
def readPort (d : Device) (p o : Nat) : Option Word :=
  if !hasPage p then none
  else
    match o with
    | 0x40 => some (sqWord (sqPRT p) d)
    | 0x100 => some (linkWord d p)
    | 0x104 => some ((lookupD d.glb.prtIrq p 0).setWidth 32)
    | 0x500 | 0x504 | 0x508 | 0x50C | 0x510 | 0x514 => some (pageCtr d p o)
    | _ =>
      if 25 ≤ p then none
      else
        match o with
        | 0x300 => some (sqWord (sqTXTS p) d ||| (if 64 ≤ (portSt d p).txts.length then 2 else 0))
        | 0x304 => some (BitVec.ofNat 32 (portSt d p).txts.length)
        | 0x308 => some (portSt d p).txtsLost
        | 0x30C => some 0
        | 0x310 => some (txtsWord d p 0)
        | 0x314 => some (txtsWord d p 1)
        | 0x318 => some (txtsWord d p 2)
        | 0x31C => some 0
        | 0x400 => some (gateWord d p)
        | 0x404 => some (gateSt d p).cycles
        | 0x408 | 0x40C | 0x410 | 0x414 | 0x418 => some (pageCtr d p o)
        | _ => none

/-! ### The map (18 Table REG-1) -/

/-- The register word at an aligned address outside the alias window. -/
def readWord (d : Device) (a : Nat) : Option Word :=
  if 0x800000 ≤ a then (if a < 0x826000 then readPort d ((a - 0x800000) / 4096) ((a - 0x800000) % 4096) else none)
  else if isStatusReg a then some (sqWord a d)
  else if a < 0x10000 then readGlb d a
  else if a < 0x20000 then readClk d (a - 0x10000)
  else if a < 0x30000 then readSsn d (a - 0x20000)
  else if a < 0x40000 then readFlt d (a - 0x30000)
  else if a < 0x50000 then readSec d (a - 0x40000)
  else if a < 0x60000 then readBoot d (a - 0x50000)
  else if a < 0x80000 then none
  else if a < 0x90000 then readNcp d (a - 0x80000)
  else if a < 0x100000 then none
  else if a < 0x200000 then readFwd d (a - 0x100000)
  else if a < 0x280000 then readBuf d (a - 0x200000)
  else if a < 0x300000 then none
  else if a < 0x340000 then readTim d (a - 0x300000)
  else if a < 0x380000 then readSch d (a - 0x340000)
  else if a < 0x400000 then readAsd d (a - 0x380000)
  else if a < 0x480000 then readFwl d (a - 0x400000)
  else if a < 0x500000 then readMsc d (a - 0x480000)
  else if a < 0x540000 then readTop d (a - 0x500000)
  else if a < 0x560000 then readCan d ((a - 0x540000) / 0x4000) ((a - 0x540000) % 0x4000)
  else if a < 0x580000 then none
  else if a < 0x5A0000 then readMvb d ((a - 0x580000) / 0x10000) ((a - 0x580000) % 0x10000)
  else if a < 0x5C0000 then none
  else if a < 0x600000 then readGwy d (a - 0x5C0000)
  else if a < 0x640000 then readPair d (a - 0x600000)
  else if a < 0x680000 then readCcr d (a - 0x640000)
  else if a < 0x6C0000 then readHif d (a - 0x680000)
  else none

/-- Port page, register offset and bit that a word of the alias window stands for (18 R517). -/
def aliasOf (a : Nat) : Option (Nat × Nat × Nat) :=
  if 0x1000000 ≤ a ∧ a < 0x14C0000 then
    let k := (a - 0x1000000) % 0x20000 / 4
    some ((a - 0x1000000) / 0x20000, k / 32 * 4, k % 32)
  else none

/-- Types whose alias reads 0 (18 Table REG-2). -/
def isWoOffset (o : Nat) : Bool := decide (o = 0x30C)

/-- The register at an aligned address, or none where it is reserved (00 R7, 18 R511, R518). (log entry 68: DESIGN CHOICE) -/
def readReg (d : Device) (a : Nat) : Option Word :=
  match aliasOf a with
  | none => readWord d a
  | some (p, o, b) =>
    match readPort d p o with
    | none => none
    | some w => some (if isWoOffset o then 0 else BitVec.ofNat 32 (bitN (w.getLsbD b)))

end Sys2Proof.Machine
end

