-- ==== Sys2Proof/Machine/NcpCore.lean ====
section
/-! DEFINITION. Stages 1 to 3 of a command (16 R469): receipt and the sequence test, order, validation with the prepare of configuration
commands. -/

namespace Sys2Proof.Machine

/-! ### What a class C command would commit (16 Table NCP-5, R475) -/

/-- A commit's configuration and the bounds of its streams, or a refusal with its reply body. -/
inductive Plan where
  | refuse (r : Res) (from_ : Option Reject)
  | go (c : Cfg) (bs : List PortBound)
  deriving DecidableEq, Repr

/-- The commit has its epoch boundary at a SWITCH_TIME (05 R147). -/
def isTimed : NcpOp → Bool
  | .gclSet .. => true
  | _ => false

def planOf (c : Cfg) (timed : Bool) (d : Device) : Plan :=
  match prepare c timed d with
  | .refused r body => .refuse { status := r.status, reason := r.reason, body := body } (some r)
  | .ok bs => .go c bs

/-- An Assured stream egresses on the port (02 R64). -/
def assuredOn (c : Cfg) (p : Nat) : Bool := c.sch.streams.any (fun x => isAssured x.2 && x.2.egress.contains p)

/-- What CONFIG_LOAD asks of a blob beside R557: its DEVID is valid, or it is refused as one for another target (20 R562). (log entry 60: DESIGN CHOICE) -/
def checkLoad (i : Image) (d : Device) : Option ImgErr :=
  match checkImage 4 i d with
  | some e => some e
  | none => if i.devIdWord.getLsbD 15 then none else some .target

/-- The prepare of a class C command: what its own rule asks, then every manager's (01 R10). (log entry 80: DEDUCED) -/
def planOp (op : NcpOp) (d : Device) : Plan :=
  match op with
  | .configLoad b =>
    match (slotAtB (imageKind d 4) b).image with
    | none => .refuse (imgErrRes .format) none
    | some i =>
      match checkLoad i d with
      | some e => .refuse (imgErrRes e) none
      | none =>
        match blobOf (some i) with
        | none => .refuse (imgErrRes .format) none
        | some c =>
          -- changed gate lists need a SWITCH_TIME, which CONFIG_LOAD does not carry (05 R147) (log entry 80: DEDUCED)
          if c.sch.lists = d.cfg.sch.lists then planOf c false d else .refuse { status := 0x0105, reason := 0x0525 } none
  | .portEnable p on force =>
    if !on ∧ !force ∧ assuredOn d.cfg p then .refuse { status := 0x0202 } none else planOf (buildCfg op d.cfg) false d
  | .gclSet _ sec ns =>
    let c := buildCfg op d.cfg
    if alignOk c (sec * 1000000000 + ns) true d then planOf c true d else .refuse { status := 0x0105, reason := 0x0525 } none
  | .solsticeSet sec ns => if solsticeOk sec ns d then .go d.cfg [] else .refuse { status := 0x0105, reason := 0x1327 } none
  | .psfpUnblock _ => .go d.cfg []
  | _ => planOf (buildCfg op d.cfg) false d

/-! ### Rights, parameters, state of the device (16 R464, R469) -/

/-- Rights of a transport on an opcode (Table NCP-2). -/
def hasRight (t : Transport) (code : Nat) (d : Device) : Bool :=
  let cls := opcodeCls code
  let group := code / 256
  let diagRead := (decide (group = 0x0B) || decide (group = 0x0C)) && decide (cls = some .read)
  match t with
  | .pcie | .ethernet => true
  | .split => decide (cls = some .session) || (match d.cfg.ccr.splitGroups with | some l => l.contains group | none => diagRead)
  | .wyusin => decide (cls = some .session) || decide (code = 0x0106) || decide (group = 0x08) || diagRead

def rng (b : Bool) : Option Res := if b then some { status := 0x0105 } else none
def noPort (ps : List Nat) : Bool := ps.any (37 < ·)

/-- The ports that a gateway configuration names. -/
def gwPorts (g : GwyCfg) : List Nat :=
  g.routes.filterMap (·.src) ++ g.outputs.map (fun x => x.2.dstPort) ++ g.tc.map Prod.fst ++ g.status.map Prod.fst

/-- A parameter names a port number of 38 or more (01 R14); what LG_REBALANCE names depends on its group (`paramRes`). -/
def namesNoPort (op : NcpOp) : Bool :=
  match op with
  | .portConfig p _ | .portEnable p _ _ | .portStatus p | .shaperSet p _ _ _ => noPort [p]
  | .streamSet _ s => noPort (s.ingress :: s.egress)
  | .gclSet lists _ _ => noPort (lists.map Prod.fst)
  | .admitDryRun streams lists => noPort (lists.map Prod.fst ++ streams.flatMap (fun x => x.2.ingress :: x.2.egress))
  | .timeConfig _ ports => noPort (ports.map Prod.fst)
  | .secySet m => noPort (m.secys.map (fun x => x.2.port) ++ m.unctrl.map Prod.fst)
  | .gwConfig g => noPort (gwPorts g)
  | .zoneSet map .. => noPort (map.map (fun z => z.1 / 4096))
  | _ => false

/-- A channel of a bus that is OFF or retired (12 R375). -/
def destOff (o : GwOutput) (d : Device) : Bool :=
  !o.eth && (if 26 ≤ o.dstPort ∧ o.dstPort < 34 then !(canSt d (o.dstPort - 26)).on
    else if 34 ≤ o.dstPort ∧ o.dstPort < 36 then decide ((mvbSt d (o.dstPort - 34)).role = .off) else false)

/-- TIMEOUT of a command in ms (16 Table NCP-1). -/
def timeoutOfCmd (op : NcpOp) (ms : Nat) : Nat := if ms = 0 then op.defaultMs else ms

/-- Parameters of SESSION_OPEN that fit its transport: an Ethernet session authenticates by MACSEC or HMAC, the others by their transport
(16 R465). -/
def openOk (t : Option Transport) (o : OpenParams) : Bool :=
  decide (1 ≤ o.gapMs) && decide (o.gapMs ≤ 10000) &&
  (match t with | some .ethernet => decide (o.auth ≠ .transport) | some _ => decide (o.auth = .transport) | none => true)

/-- Parameters outside what the opcode's chapter allows, beside those that prepare judges. (log entry 39: DESIGN CHOICE, 50: DESIGN CHOICE) -/
def paramRes (t : Option Transport) (ms : Nat) (op : NcpOp) (d : Device) : Option Res :=
  if namesNoPort op then some { status := 0x0104 } else
  match op with
  | .sessionOpen o => rng (!openOk t o)
  | .sessionAttach o => rng (decide (o.gapMs < 1) || decide (10000 < o.gapMs) || decide (t = some .ethernet) || decide (t = some .wyusin))
  | .streamSet h _ => rng (decide (16383 < h))
  | .admitDryRun streams lists => rng (streams.any (fun x => decide (16383 < x.1)) || lists.any (fun x => decide (24 < x.1)))
  | .gclSet lists _ ns => rng (lists.any (fun x => decide (24 < x.1)) || decide (1000000000 ≤ ns))
  | .profileSet n _ => rng (decide (n < 1) || decide (7 < n))
  | .timeConfig _ ports => rng (ports.any (fun x => decide (24 < x.1 ∧ x.1 ≠ 37)))
  | .lgRebalance g moves =>
    match lookup? d.cfg.fwd.groups g with
    | none => rng true
    | some x =>
      -- the members of an ECMP group are next hops (02 R51), those of another are ports
      if !x.ecmp && noPort (moves.map Prod.snd) then some { status := 0x0104 }
      else rng (moves.any (fun m => decide (255 < m.1) || !x.members.contains m.2))
  | .canConfig n _ | .canRecover n => rng (decide (7 < n))
  | .mvbConfig n _ => rng (decide (1 < n))
  | .mvbPortRead n a => rng (decide (1 < n) || decide (4095 < a))
  | .gwSend n payload dl _ =>
    match lookup? d.cfg.gw.outputs n with
    | none => rng true
    | some o =>
      if destOff o d then some { status := 0x0208 }
      else rng (decide (dl < 1) || decide (60000 < dl) || decide (timeoutOfCmd op ms < dl) || decide (o.len < payload.length) ||
        (!o.eth && decide (formatMax o < payload.length)))
  | .clockStep _ ns => rng (decide (1000000000 ≤ ns))
  | .solsticeSet _ ns => rng (decide (1000000000 ≤ ns))
  | .switchover => if d.pair.role = .active ∧ d.pair.partnerReady then none else some { status := 0x0209 }
  | .updateBlock .. | .updateVerify | .updateAbort => if updateGate d then none else some { status := 0x0204 }
  | .faultRead i | .restore i => rng (!ledgerValid i)
  | .regRead _ n => rng (decide (n < 1) || decide (496 < n))
  | _ => none

/-- What a standby accepts (16 R477). -/
def standbyAccepts (op : NcpOp) : Bool :=
  decide (op.cls = .session) || decide (op.group = 0x08) || decide (op.group = 0x0B) || decide (op = .sysInfo) || decide (op = .wakeRequest) ||
  (match op with | .regRead .. | .sleepReady _ => true | _ => false)

/-- Opcodes of recovery mode (20 R576, R577). (log entry 54: DESIGN CHOICE) -/
def recoveryAccepts (op : NcpOp) (d : Device) : Bool :=
  match op with
  | .sysInfo => true
  | .sysReset _ | .updateBlock .. | .updateVerify | .updateAbort => decide (d.otp.lc ≠ 4)
  | _ => false

def isSolsticeSet : NcpOp → Bool
  | .solsticeSet .. => true
  | _ => false

def isOpenOp : NcpOp → Bool
  | .sessionOpen _ => true
  | _ => false

/-- State of the device: a transition (01 R12), the role (R13), a sleep that is agreed (R34), a pending change (05 R149, 20 R568).
`relayed`: an update command that the active passed on (20 R564). -/
def stateRes (relayed : Bool) (op : NcpOp) (d : Device) : Option Res :=
  if d.boot.recovery then (if recoveryAccepts op d then none else some { status := 0x0101 })
  else if op.cls = .config ∧ inTransition d then some { status := 0x0204 }
  else if !isOwner d ∧ !standbyAccepts op ∧ !(relayed && decide (op.group = 0x0A)) then some { status := 0x0205 }
  else if d.glb.stopAccept ∧ op.group ≠ 0x07 then some { status := 0x020C }
  else if op.cls = .config ∧ d.switching.isSome then some { status := 0x0206 }
  else if op.cls = .config ∧ d.boot.solstice.isSome ∧ !isSolsticeSet op then some { status := 0x0206 }
  else none

/-- A lock forbids the command (18 R522). -/
def lockRes (op : NcpOp) (d : Device) : Option Res :=
  match op with
  | .regWrite .. => if d.glb.lock.getLsbD 1 then some { status := 0x0404 } else none
  | _ => none

/-- Everything stage 3 checks beside rights and form; a refusal by a lock or by admission raises its event. -/
def checkOp (relayed : Bool) (t : Option Transport) (ms : Nat) (op : NcpOp) (d : Device) : Option Res × Device :=
  match lockRes op d with
  | some r => (some r, raise sqGLB 1 0x0102 0 d)
  | none =>
    match stateRes relayed op d with
    | some r => (some r, d)
    | none =>
      match paramRes t ms op d with
      | some r => (some r, d)
      | none =>
        if op.cls = .config then
          match planOp op d with
          | .refuse r (some x) => (some r, noteRefusal x d)
          | .refuse r none => (some r, d)
          | .go _ _ => (none, d)
        else (none, d)

/-- Stage 3 of a record (16 R469, R475): the status it is answered with, or none where it goes on to acceptance. A defined opcode whose TLVs spell no
operation has a value outside its range. (log entry 92: DESIGN CHOICE) -/
def validate (s : Nat) (r : NcpRec) (d : Device) : Option Res × Device :=
  let x := sessionOf d s
  let p := r.packet
  if (opcodeCls p.opcode).isNone then (some { status := 0x0101 }, d)
  else if !(match x.transport with | some t => hasRight t p.opcode d | none => true) then (some { status := 0x0404 }, d)
  else if p.badTlv then (some { status := 0x0102 }, d)
  else if p.missing then (some { status := 0x0103 }, d)
  else if x.open_ ∧ p.opcode = 0x0101 then (some { status := 0x0309 }, d)
  else if p.epoch ≠ 0 ∧ p.epoch ≠ d.glb.cfgEpoch then (some { status := 0x020B }, d)
  else match r.op with
    | none => (some { status := 0x0105 }, d)
    | some op => checkOp false x.transport p.timeoutMs op d

/-! ### Stage 2 and the order of class C (16 R470, R471, R475) -/

/-- An earlier class C command waits at the head of another session, or outside the sessions. -/
def configAhead (a : Nat) (d : Device) : Bool :=
  d.ncp.rowQueue.any (fun x => decide (x.1 < a)) ||
  d.ncp.sessions.any (fun x => match lookup? x.2.recs x.2.next.toNat with
    | some r => isConfig r && decide (r.stage = .ordered) && decide (0 < r.arrival) && decide (r.arrival < a)
    | none => false)

/-- A number is missing before a waiting command: GAP_TIME runs (16 R471). -/
def noteGap (s : Nat) (d : Device) : Device :=
  let waits := (sessionOf d s).recs.any (fun r => decide (r.2.stage = .ordered))
  modSession s (fun x => { x with gapSince := if waits then some (x.gapSince.getD d.now) else none }) d

/-- A session that a refused SESSION_OPEN leaves closed keeps nothing but its rings. -/
def dropUnopened (s : Nat) (d : Device) : Device :=
  let x := sessionOf d s
  if x.open_ then d
  else
    let w := x.rings.waiting.map (fun (w : Word × Bool × Option Reply) => (w.1, w.2.1, some (w.2.2.getD (replyOf d s w.1))))
    let gone (r : NcpJRec) : Bool := decide (r.who.map Prod.fst = some s) && (match r.body with | .answer .. | .done .. | .skip => true | _ => false)
    setSession s { rings := { x.rings with waiting := w }, orphans := x.orphans } (modNcp (fun n => { n with journal := n.journal.filter (fun r => !gone r) }) d)

/-- Stage 3 of the number that is next. -/
def stage3 (s : Nat) (q : Word) (r : NcpRec) (d : Device) : Device :=
  let d := modSession s (fun x => { x with next := q + 1, gapSince := none }) d
  match validate s r d with
  | (some a, d) => dropUnopened s (answer s q a.status a.reason a.body d)
  | (none, d) => newRecord (some (s, q)) (.command r.packet) 0 false (setNcpRec s q { r with stage := .accepting } d)

/-- A session's commands leave stage 2 in order, as far as they can. -/
def advance (s : Nat) : Nat → Device → Device
  | 0, d => d
  | n + 1, d =>
    let x := sessionOf d s
    match lookup? x.recs x.next.toNat with
    | none => noteGap s d
    | some r =>
      if r.stage ≠ .ordered then advance s n (modSession s (fun x => { x with next := x.next + 1, gapSince := none }) d)
      else
        let a := if r.arrival = 0 then d.ncp.arrivals + 1 else r.arrival
        let r := { r with arrival := a }
        let d := if a = d.ncp.arrivals + 1 then setNcpRec s x.next r (modNcp (fun y => { y with arrivals := a }) d) else d
        if isConfig r ∧ (configBusy d ∨ configAhead a d) then d
        else advance s n (stage3 s x.next r d)

/-- Sessions whose head waits for its turn as class C go on, in the order in which they left stage 2 (16 R475). -/
def advanceAll (d : Device) : Device :=
  let heads : List (Nat × Nat) := d.ncp.sessions.filterMap (fun (x : Nat × Session) => match lookup? x.2.recs x.2.next.toNat with
    | some r => if r.stage = .ordered then some (r.arrival, x.1) else none
    | none => none)
  let order := (sortNat (heads.map (fun h => h.1 * 4 + h.2))).map (· % 4)
  order.foldl (fun d s => advance s 600 d) d

/-! ### Stage 1 (16 R465, R470 to R472) -/

/-- Session 3 belongs to Wyusin while PAIRED, and Wyusin to session 3 (16 R466). -/
def foreign (s : Nat) (t : Transport) (d : Device) : Bool :=
  if t = .wyusin then !(decide (s = 3) && d.cfg.pair.paired) else decide (s = 3) && d.cfg.pair.paired

/-- Numbers that left the window of 4,096 lose their records (16 R479). -/
def prune (s : Nat) (d : Device) : Device :=
  let h := (sessionOf d s).high
  let d := modSession s (fun x => { x with recs := x.recs.filter (fun r => !isFinal r.2 || decide ((h - BitVec.ofNat 32 r.1).toNat < 4096)) }) d
  modNcp (fun n => { n with journal := n.journal.filter (fun r => !leavesWindow s h r) }) d

/-- A new number is recorded and leaves stage 2 when its turn comes. -/
def recordNew (s : Nat) (p : Packet) (d : Device) : Device :=
  let d := modSession s (fun x =>
    let ahead := decide (x.recs.isEmpty) || decide ((p.seq - x.high).toNat < 2147483648)
    { x with recs := insertAt x.recs p.seq.toNat { packet := p }, high := if ahead then p.seq else x.high }) d
  advance s 600 (prune s d)

/-- A repeat is answered and executes nothing (16 R472). -/
def repeatOf (s : Nat) (t : Transport) (p : Packet) (r : NcpRec) (d : Device) : Device :=
  let d := ncpCtr 2 d
  let d := if r.packet.area = p.area then d else raise sqNCP 6 0x1007 s d
  if isFinal r then sendVia (some t) s p.seq true none d
  else sendVia (some t) s p.seq false (some (replyTo r.packet { status := 0x0002, acc := isAccepted r, isLast := false } d)) d

/-- The sequence test (16 R470). -/
def sequenceOf (s : Nat) (t : Transport) (p : Packet) (d : Device) : Device :=
  let x := sessionOf d s
  match lookup? x.recs p.seq.toNat with
  | some r =>
    if r.stage = .skipped then sendBare t s p 0x0108 d
    else if (x.high - p.seq).toNat < 4096 then repeatOf s t p r d
    else sendBare t s p 0x0107 d
  | none => if (p.seq - lowOf x).toNat < 512 then recordNew s p d else sendBare t s p 0x0107 d

/-- SESSION_OPEN on a closed session: its number starts the window (16 R467). (log entry 52: DESIGN CHOICE) -/
def beginOpen (s : Nat) (t : Transport) (p : Packet) (d : Device) : Device :=
  recordNew s p (modSession s (fun x => { x with transport := some t, next := p.seq, high := p.seq, recs := [] }) d)

/-- Packets in recovery mode: session 0 on the PCIe mailbox or MG0, a window of 1, no journal (20 R576). (log entry 54: DESIGN CHOICE) -/
def receiveRecovery (s : Nat) (t : Transport) (peer : NcpPeer) (p : Packet) (d : Device) : Device :=
  if s ≠ 0 ∨ t = .wyusin ∨ t = .split then d
  else if !p.headerOk then sendBare t s p 0x0109 d
  else
    let x := sessionOf d 0
    if x.recs.any (fun r => !isFinal r.2) ∨ p.seq ≠ x.next then sendBare t s p 0x0107 d
    else
      let d := setSession 0 { x with open_ := true, transport := some t, high := p.seq, recs := [(p.seq.toNat, { packet := p })], peer := peer } d
      let d := advance 0 1 d
      match recAt d 0 p.seq with
      | some r => if r.stage = .accepting then setNcpRec 0 p.seq { r with stage := .accepted, acceptedAt := d.now, acceptTs := ts32 d } d else d
      | none => d

/-- A trailer under a key covers the packet (16 R465). -/
def trailerOk (key : Option Nat) (p : Packet) : Bool :=
  match key with
  | some k => p.flag 3 && decide (p.trailer = macOf k p.covered)
  | none => false

/-- Authentication of a packet (16 Table NCP-2, R465, R467): the function or the split core as master, the SecY of PL, MACSEC or HMAC as its session opened.
An open under a slot that holds no key goes on to be answered AUTH_FAIL. (log entry 52: DESIGN CHOICE) -/
def authentic (s : Nat) (t : Transport) (p : Packet) (d : Device) : Bool :=
  let x := sessionOf d s
  let slotKey (n : Nat) : Option Nat := (keySlot d n).map (·.key)
  let fresh : Option OpenParams := match p.command with | some (.sessionOpen o) => (if x.open_ then none else some o) | _ => none
  match t with
  | .wyusin => (match p.secy with | some n => decide ((lookup? d.cfg.msc.secys n).map (·.port) = some 37) | none => false)
  | .pcie | .split => if p.opcode = 0x0103 ∧ x.auth = .hmac then trailerOk (slotKey x.slot) p else true
  | .ethernet =>
    match fresh with
    | some o => if o.auth = .hmac then (slotKey o.keySlot).isNone || trailerOk (slotKey o.keySlot) p
      else match p.secy with | some n => o.secys.contains n | none => false
    | none => if x.auth = .hmac then trailerOk (if p.opcode = 0x0101 then slotKey x.slot else sessionKey d x) p
      else match p.secy with | some n => x.secys.contains n | none => false

/-- A packet arrives on a transport for a session, on Ethernet from `peer` (16 R465, R469, stage 1). One that names another session than its mailbox finds no session. (log entry 52: DESIGN CHOICE) -/
def receivePacket (s : Nat) (t : Transport) (peer : NcpPeer) (p : Packet) (d : Device) : Device :=
  if 4 ≤ s ∨ !ncpRuns d then d
  else if d.boot.recovery then receiveRecovery s t peer p d
  else if !authentic s t p d then ncpCtr 6 d
  else if !p.headerOk then sendBare t s p 0x0109 d
  else if foreign s t d ∨ p.session ≠ s then sendBare t s p 0x0309 d
  else
    let x := sessionOf d s
    let note (d : Device) : Device := modSession s (fun x => { x with peer := peer }) d
    if p.opcode = 0x0101 then
      if x.transport = some t then sequenceOf s t p (note d)
      else if x.open_ ∨ x.transport.isSome then sendBare t s p 0x0309 d
      else beginOpen s t p (note d)
    else if p.opcode = 0x0103 then
      if x.open_ ∧ x.transport = none ∧ (t = .pcie ∨ t = .split) then sequenceOf s t p (modSession s (fun x => { x with transport := some t }) d)
      else if x.open_ ∧ x.transport = some t then sequenceOf s t p (note d)
      else sendBare t s p 0x0309 d
    else if x.open_ ∧ x.transport = some t then sequenceOf s t p (note d)
    else sendBare t s p 0x0309 d

/-! ### Mailboxes (16 R468, 17 Table HIF-5) -/

/-- Entries of the command ring from CMD_CI on are read, each once; a fault stalls the mailbox before its entry. (log entry 55: DESIGN CHOICE) -/
def readCommands (s : Nat) (v : HostView) : List Packet → Nat → Device → Device
  | _, 0, d => d
  | cmds, n + 1, d =>
    let x := sessionOf d s
    if x.rings.cmdCi = x.rings.cmdPi ∨ !isRunning d (64 + s) true ∨ !engineOn d ∨ !ncpRuns d then d
    else
      let a := x.rings.cmdBase.toNat + x.rings.cmdCi * 2048
      match translate (64 + s) a false v d with
      | (.fault ty w, d) => hifFault (64 + s) .cmdRead ty w false x.rings.cmdCi a 0 d
      | (.ok _, d) =>
        let d := modSession s (fun x => { x with rings := { x.rings with cmdCi := (x.rings.cmdCi + 1) % 256 } }) d
        readCommands s v (cmds.drop 1) n (receivePacket s .pcie {} (cmds.headD {}) d)

def takeCommands (s : Nat) (v : HostView) (d : Device) : Device := readCommands s v v.cmds 256 d

/-- CMD_DOORBELL: a write to CMD_PI (16 R468). -/
def cmdDoorbell (s pi : Nat) (v : HostView) (d : Device) : Device :=
  if 4 ≤ s then d else takeCommands s v (modSession s (fun x => { x with rings := { x.rings with cmdPi := pi % 256 } }) d)

/-- RPL_CI_WRITE: the host releases reply entries, and waiting replies are written (16 R468). -/
def rplCiWrite (s ci : Nat) (v : HostView) (d : Device) : Device :=
  if 4 ≤ s then d else writeReplies s (some v) 256 (modSession s (fun x => { x with rings := { x.rings with rplCi := ci % 256 } }) d)

/-- One half of a 64-bit address register. -/
def putHalf (hi : Bool) (v : Word) (a : BitVec 64) : BitVec 64 :=
  if hi then BitVec.ofNat 64 (v.toNat * 4294967296 + a.toNat % 4294967296) else BitVec.ofNat 64 (a.toNat / 4294967296 * 4294967296 + v.toNat)

/-- A ring or table base: bits [11:0] of the low word read 0. -/
def putBase (hi : Bool) (v : Word) (a : BitVec 64) : BitVec 64 := putHalf hi (if hi then v else v &&& 0xFFFFF000) a

/-- MAILBOX_BASE_WRITE: CMD_BASE or RPL_BASE, low or high; ignored while the session is bound (16 R468). -/
def mailboxBaseWrite (s : Nat) (rpl hi : Bool) (v : Word) (d : Device) : Device :=
  if 4 ≤ s then d
  else
    let x := sessionOf d s
    if x.transport.isSome then raise sqNCP 5 0x1006 s d
    else if rpl then modSession s (fun x => { x with rings := { x.rings with rplBase := putBase hi v x.rings.rplBase } }) d
    else modSession s (fun x => { x with rings := { x.rings with cmdBase := putBase hi v x.rings.cmdBase } }) d

/-- Q_CTRL on a channel set; a mailbox takes its work up where the command lets it (17 R504, Table HIF-5). -/
def queueStart (q : Nat) (tx rx : Bool) (v : HostView) (d : Device) : Device :=
  let d := eachCh q tx rx (fun r d => startCh q r d) d
  if 64 ≤ q ∧ q < 68 ∧ rx then takeCommands (q - 64) v (writeReplies (q - 64) (some v) 256 d) else d

def queueStop (q : Nat) (tx rx : Bool) (v : HostView) (d : Device) : Device := eachCh q tx rx (fun r d => stopCh q r v d) d

def queueResume (q : Nat) (tx rx : Bool) (v : HostView) (d : Device) : Device :=
  let was := (channel d q true).st
  let d := eachCh q tx rx (fun r d => resumeCh q r v d) d
  if 64 ≤ q ∧ q < 68 ∧ rx ∧ was = .stalled then takeCommands (q - 64) v (writeReplies (q - 64) (some v) 256 d) else d

/-- SKIP of a mailbox: the command entry is passed unread, or the reply stays in the reply store alone. -/
def skipMailbox (s : Nat) (v : HostView) (d : Device) : Device :=
  let c := channel d (64 + s) true
  if c.st ≠ .stalled then cmdIgnored (64 + s) d
  else
    let d := setChannel (64 + s) true { st := .running } d
    let d := if c.stall = some .cmdRead then modSession s (fun x => { x with rings := { x.rings with cmdCi := (x.rings.cmdCi + 1) % 256 } }) d
      else modSession s (fun x => { x with rings := { x.rings with waiting := x.rings.waiting.drop 1 } }) d
    takeCommands s v (writeReplies s (some v) 256 d)

def queueSkip (q : Nat) (tx rx : Bool) (v : HostView) (d : Device) : Device :=
  if 64 ≤ q ∧ q < 68 ∧ rx then skipMailbox (q - 64) v d else eachCh q tx rx (fun r d => skipCh q r v d) d

end Sys2Proof.Machine
end

