-- ==== Sys2Proof/Machine/RegWrite.lean ====
section
/-! DEFINITION. Writes to registers (18): bus errors, types, masks, locks, aliases; registers whose write acts go to the rows of their units. -/

namespace Sys2Proof.Machine

/-- The path of an access (18 R513). -/
inductive Path where
  | pcie | core
  | ncp (session : Nat)
  deriving DecidableEq, Repr

def Path.no : Path → Nat
  | .pcie => 1 | .core => 2 | .ncp _ => 3

def Path.session : Path → Nat
  | .ncp s => s % 4
  | _ => 0

/-- A bus error: 1 RESERVED, 2 SIZE (18 R513). -/
def busError (path : Path) (a : Nat) (write : Bool) (cause : Nat) (d : Device) : Device :=
  let info := pack [(1, 31), (path.no, 28), (cause, 24), (bitN write, 16), (path.session, 8)]
  let d := match path with
    | .ncp _ => d
    | _ => emit (.busError path.no write a) d
  raise sqGLB 0 0x0101 0 { d with glb := { d.glb with berrAddr := BitVec.ofNat 32 a, berrInfo := info, berrCount := d.glb.berrCount + 1 } }

/-- During a warm reset a BAR0 access completes with Completer Abort (17 R488). -/
def unreached (path : Path) (a : Nat) (d : Device) : Device :=
  if path = .pcie ∧ powered d ∧ d.boot.inReset then emit (.busError 1 true a) d else d

/-- A forbidden access met a lock (18 R522). -/
def lockViol (d : Device) : Device := raise sqGLB 1 0x0102 0 d

/-! ### Registers with rows of their own -/

/-- STATUS_CLEAR of a status register (18 R520). -/
def statusClear (a : Nat) (v : Word) (d : Device) : Device := if isStatusReg a then clearSq a v d else d

/-- Bits n of a control word that a masked write changes (18 R516). -/
def maskedBits (old : BitVec 16) (v : Word) : BitVec 16 :=
  let mask : BitVec 16 := v.extractLsb' 16 16
  (old &&& ~~~mask) ||| (v.setWidth 16 &&& mask)

/-- EVT_EN_WRITE: EVT_EN_HI (true) or EVT_EN_LO (18 R516, Table REG-4); EVT_LOCK forbids it (R522). -/
def evtEnWrite (hi : Bool) (v : Word) (d : Device) : Device :=
  if d.glb.lock.getLsbD 3 then lockViol d
  else if hi then { d with glb := { d.glb with evtHi := (maskedBits (d.glb.evtHi.setWidth 16) v).setWidth 6 } }
  else { d with glb := { d.glb with evtLo := maskedBits d.glb.evtLo v &&& 0xFFFE } }

/-- GLB_LOCK_WRITE: a 1 sets a lock bit, a 0 is ignored (18 R522). -/
def glbLockWrite (v : Word) (d : Device) : Device := { d with glb := { d.glb with lock := d.glb.lock ||| v.setWidth 4 } }

/-- HASH_KEY_WRITE (02 R67). -/
def hashKeyWrite (k : Nat) (v : Word) (d : Device) : Device :=
  if k < 10 then { d with fwd := { d.fwd with hashKey := insertAt d.fwd.hashKey k v } } else d

/-- LATE_POP (21 R596). -/
def latePop (n : Nat) (d : Device) : Device := releaseLate n d

/-! ### Host interface registers (17 R489, R499, R501, Table HIF-11, Table HIF-13) -/

/-- A write to a register of an address space of the host interface (17). (log entry 56: DESIGN CHOICE) -/
def spaceWrite (s o : Nat) (v : Word) (d : Device) : Device :=
  if d.glb.lock.getLsbD 0 then lockViol d
  else
    let x := lookupD d.hif.spaces s {}
    let y : Space := if o = 0 then { x with root := putBase false v x.root }
      else if o = 4 then { x with root := putHalf true (v &&& 0x000FFFFF) x.root }
      else { x with mode := v.toNat % 4 }
    modHif (fun h => { h with spaces := insertAt h.spaces s y }) d

/-- A new ring size fits: n from 6 to 12, and both indices lie in the ring. (log entry 55: DESIGN CHOICE) -/
def sizeOk (n pi ci : Nat) : Bool := decide (6 ≤ n) && decide (n ≤ 12) && decide (pi < 2 ^ n) && decide (ci < 2 ^ n)

/-- A write to a queue page of the host interface (17). (log entry 55: DESIGN CHOICE) -/
def hifPageWrite (q o : Nat) (v : Word) (view : HostView) (d : Device) : Device :=
  let p := hifPage d q
  let txRun := decide (p.tx.st = .running)
  let rxRun := decide (p.rx.st = .running)
  let n := v.toNat % 16
  match o with
  | 0x00 => if txRun then cmdIgnored q d else setPage q { p with txBase := putBase false v p.txBase } d
  | 0x04 => if txRun then cmdIgnored q d else setPage q { p with txBase := putBase true (v &&& 0xFFFF) p.txBase } d
  | 0x08 => if txRun ∨ !sizeOk n p.txPi p.txCi then cmdIgnored q d else setPage q { p with txSize := n } d
  | 0x0C => txDoorbell q (v.toNat % 4096) d
  | 0x14 => if rxRun then cmdIgnored q d else setPage q { p with rxBase := putBase false v p.rxBase } d
  | 0x18 => if rxRun then cmdIgnored q d else setPage q { p with rxBase := putBase true (v &&& 0xFFFF) p.rxBase } d
  | 0x1C => if rxRun ∨ !sizeOk n p.rxPi p.rxCi then cmdIgnored q d else setPage q { p with rxSize := n } d
  | 0x20 => rxDoorbell q (v.toNat % 4096) d
  | 0x28 => setPage q { p with prio := v.toNat % 8, irqDelay := v.toNat / 256 % 256 } d
  | 0x2C =>
    let tx := v.getLsbD 8
    let rx := v.getLsbD 9
    match v.toNat % 8 with
    | 1 => queueStart q tx rx view d
    | 2 => queueStop q tx rx view d
    | 3 => queueResume q tx rx view d
    | 4 => queueSkip q tx rx view d
    | _ => d
  | _ => d

def hifWrite (a : Nat) (v : Word) (view : HostView) (d : Device) : Device :=
  match within_ a 0x2000 68 0x10 with
  | some (s, o) => spaceWrite s o v d
  | none =>
    match within_ a 0x4000 68 0x80 with
    | some (q, o) => hifPageWrite q o v view d
    | none =>
      match within_ a 0xC000 288 4 with
      | some (k, _) => modHif (fun h => { h with msix := insertAt h.msix k v }) d
      | none =>
        match a with
        | 0x104 => modHif (fun h => { h with invAddr := putBase false v h.invAddr }) d
        | 0x108 => modHif (fun h => { h with invAddr := putHalf true (v &&& 0xFFFF) h.invAddr }) d
        | 0x10C => invCmd (v.toNat % 128) (v.toNat / 256 % 4) d
        | _ => d

def ncpWrite (a : Nat) (v : Word) (view : HostView) (d : Device) : Device :=
  match within_ a 0x100 4 0x40 with
  | none => d
  | some (s, o) =>
    match o with
    | 0x10 => mailboxBaseWrite s false false v d
    | 0x14 => mailboxBaseWrite s false true v d
    | 0x18 => mailboxBaseWrite s true false v d
    | 0x1C => mailboxBaseWrite s true true v d
    | 0x20 => cmdDoorbell s (v.toNat % 256) view d
    | 0x2C => rplCiWrite s (v.toNat % 256) view d
    | _ => d

/-! ### The write -/

def setIrq (p : Nat) (v : BitVec 2) (d : Device) : Device := { d with glb := { d.glb with prtIrq := insertAt d.glb.prtIrq p v } }

/-- A full write to an implemented register, by its type; RO registers ignore it (00 R8, 18 R515). -/
def writeWord (a : Nat) (v : Word) (view : HostView) (d : Device) : Device :=
  if isStatusReg a then clearSq a v d
  else if a = 0x100 then glbLockWrite v d
  else if a = 0x114 then evtEnWrite false v d
  else if a = 0x118 then evtEnWrite true v d
  else if a = 0x200 then { d with glb := { d.glb with scratch := v } }
  else if a = 0x3010C then latePop (v.toNat % 512) d
  else if a = 0x300100 then timSnap v d
  else if 0x100110 ≤ a ∧ a < 0x100138 then hashKeyWrite ((a - 0x100110) / 4) v d
  else if 0x80000 ≤ a ∧ a < 0x90000 then ncpWrite (a - 0x80000) v view d
  else if 0x680000 ≤ a ∧ a < 0x6C0000 then hifWrite (a - 0x680000) v view d
  else if 0x800000 ≤ a ∧ a < 0x826000 then
    let p := (a - 0x800000) / 4096
    match (a - 0x800000) % 4096 with
    | 0x104 => setIrq p (v.setWidth 2) d
    | 0x30C => txtsPop p (v.toNat % 128) d
    | _ => d
  else d

/-- Registers of GLB that are RO to software and that Renioft and the admission manager maintain through the control cores' path (18 R515, R524). -/
def coreWord (a : Nat) (v : Word) (d : Device) : Option Device :=
  match a with
  | 0x10 => some { d with glb := { d.glb with fwVer := v } }
  | 0x14 => some { d with glb := { d.glb with deviceId := if v.getLsbD 31 then some (v.setWidth 12) else none } }
  | 0x20 => some { d with glb := { d.glb with cfgEpoch := v } }
  | 0x24 => some { d with glb := { d.glb with prot := v.setWidth 2 } }
  | _ => none

/-- An alias write acts through bit 0 on one bit of its register; only RW bits take it (18 R518, Table REG-2). -/
def aliasBit (p o b : Nat) (v : Word) (d : Device) : Device :=
  if o = 0x104 ∧ b < 2 then
    let old := lookupD d.glb.prtIrq p 0
    let one : BitVec 2 := 1#2 <<< b
    setIrq p (if v.getLsbD 0 then old ||| one else old &&& ~~~one) d
  else d

/-- A write to an address: SIZE unless it is one aligned word with all byte enables, RESERVED where no register stands (18 R512, R513). (log entry 42: DEDUCED, 58: DESIGN CHOICE) -/
def writeReg (path : Path) (a : Nat) (whole : Bool) (v : Word) (view : HostView) (d : Device) : Device :=
  if !whole ∨ a % 4 ≠ 0 then busError path a true 2 d
  else if (readReg d a).isNone then busError path a true 1 d
  else
    match aliasOf a with
    | some (p, o, b) => aliasBit p o b v d
    | none => match if path = .core then coreWord a v d else none with
      | some d' => d'
      | none => writeWord a v view d

/-- Registers answer on a path: no reset holds them (18 Table REG-3), the main domain has power, and a core's own path needs that it runs. (log entry 58: DESIGN CHOICE) -/
def reachable (path : Path) (d : Device) : Bool :=
  powered d && !d.boot.inReset && (match path with | .core => renioftRuns d | _ => true)

/-- REGISTER_WRITE (18 R514, 17 R488). -/
def registerWrite (path : Path) (a : Nat) (whole : Bool) (v : Word) (view : HostView) (d : Device) : Device :=
  if reachable path d then writeReg path a whole v view d else unreached path a d

/-- ALIAS_WRITE: port page, register offset, bit, and the word written (18 R517, R518). -/
def aliasWrite (path : Path) (p o b : Nat) (v : Word) (d : Device) : Device :=
  let a := 0x1000000 + p * 0x20000 + (o * 8 + b) * 4
  if !reachable path d then unreached path a d
  else if (readPort d p o).isNone then busError path a true 1 d
  else aliasBit p o b v d

end Sys2Proof.Machine
end

