-- ==== Sys2Proof/Machine/NcpRun.lean ====
section
/-! DEFINITION. Stage 5 of the command protocol (16 R469): what each opcode of Table NCP-5 does when it executes, and its reply. -/

namespace Sys2Proof.Machine

/-- What an execution meets outside the block: the transport of the session that sent the operation, the standby's answer, the partner's result of
a relayed block, the flash and the ROM, the read-back of an image, host memory, and at a replay of the journal the records that are good in neither copy. -/
structure ExecEnv where
  via : Option Transport := some .pcie
  partner : PartnerAns := .ok
  update : Res := {}
  flashOk : Bool := true
  rom : RomEnv := {}
  verify : VerifyEnv := {}
  view : HostView := {}
  bad : List Nat := []
  deriving DecidableEq, Repr

/-- Who sent an operation: session and sequence number, none for one without a session. -/
abbrev Who := Option (Nat × Word)

/-! ### Sessions (16 R466, R467) -/

/-- Whether a SESSION_OPEN may open: an HMAC key slot permits the use, and a KEEPER_EPOCH is left (19 R530). -/
def openRefusal (via : Option Transport) (o : OpenParams) (d : Device) : Option Res :=
  if o.auth ≠ .hmac then none
  else match secRefusal d with
    | some r => some r
    | none =>
      if 64 ≤ d.otp.epochFuses then some { status := 0x0404, reason := 0x1230 }
      else match slotUse (masterOf via) true 1 o.keySlot d with
        | some r => some { r with status := 0x0403 }
        | none => none

/-- What a session's SESSION record holds (16 R479). -/
def sessionRec (x : Session) : SessionRec :=
  { transport := x.transport, auth := x.auth, slot := x.slot, secys := x.secys, gapMs := x.gapMs, ctx := x.ctx, cnonce := x.cnonce, dnonce := x.dnonce,
    next := x.next, peer := x.peer }

def recordSession (s : Nat) (d : Device) : Device :=
  newRecord (some (s, (sessionOf d s).high)) (.session (sessionRec (sessionOf d s))) 0 true d

/-- A session opens (R467): its HMAC context keeps the derivation header and both nonces. (log entry 50: DESIGN CHOICE, 51: DESIGN CHOICE, 52: DESIGN CHOICE) -/
def openSession (s : Nat) (via : Option Transport) (o : OpenParams) (d : Device) : Res × Device :=
  match openRefusal via o d with
  | some r => (r, d)
  | none =>
    let n : Notify := match o.notify with | some m => { mask := m, ledger := false } | none => {}
    let (dn, d) := if o.auth = .hmac then drawFree 340282366920938463463374607431768211456 d else (0, d)
    let bind := match keySlot d o.keySlot with | some k => k.desc.bind | none => 0
    let ctx := if o.auth = .hmac then ctxHeader (bootCounter d) bind d else []
    let d := modSession s (fun x => { x with
      open_ := true, auth := o.auth, slot := o.keySlot, secys := o.secys, gapMs := o.gapMs, ctx := ctx, cnonce := o.nonce, dnonce := dn }) d
    let d := { d with flt := { d.flt with notify := insertAt d.flt.notify s n } }
    let body := if o.auth = .hmac then toBe 16 dn ++ toBe 2 (devId16 d) ++ toBe 8 (bootCounter d) else []
    ({ body := body }, raise sqNCP 0 0x1001 s (recordSession s d))

/-- SESSION_ATTACH on the session it was bound to at receipt. (log entry 52: DESIGN CHOICE) -/
def attachSession (s : Nat) (d : Device) : Device := raise sqNCP 0 0x1001 s (recordSession s d)

/-! ### Configuration (01 R10, R13; 14 R434) -/

/-- CONFIG_LOAD (20 R562). (log entry 62: DEDUCED) -/
def loadBlob (b : Bool) (c : Cfg) (bs : List PortBound) (d : Device) : Device :=
  let x := imageKind d 4
  let named := slotAtB x b
  let other := slotAtB x (!b)
  match named.image with
  | none => d
  | some i =>
    let other' : FlashSlot := if other.state = .trial then { other with state := .good } else other
    let y := setSlotB (setSlotB x b { named with state := .good }) (!b) other'
    let d := if named.state = .staged then abandonSolstice d else d
    commitBlob i c bs (setKind 4 { y with ptrB := b, starts := 0 } d)

/-- A blocked stream is unblocked (05 R156). -/
def unblock (h : Nat) (d : Device) : Device :=
  let st := lookupD d.sch.streams h {}
  { d with sch := { d.sch with streams := insertAt d.sch.streams h { st with blocked := false } } }

/-- The slot that an Assured stream's reply returns (06 R177). -/
def slotBody (h : Nat) (d : Device) : Bytes := match slotOf d h with | some x => toBe 2 x.1 | none => []

/-- A prepared class C operation takes effect at its epoch boundary. -/
def applyConfig (who : Who) (op : NcpOp) (c : Cfg) (bs : List PortBound) (d : Device) : Res × Device :=
  match op with
  | .gclSet _ sec ns => ({}, holdSwitch { sec := sec, ns := ns, cfg := c, session := (who.getD (4, 0)).1, seq := (who.getD (4, 0)).2 } bs d)
  | .configLoad b => ({}, loadBlob b c bs d)
  | .solsticeSet sec ns => ({}, setSolstice sec ns (commitNow c bs false d))
  | .psfpUnblock h => ({}, unblock h (commitNow c bs false d))
  | .rulesLoad _ r => ({}, commitNow c bs r d)
  | .portEnable p on _ =>
    -- a port that an ETB loop had set to blocking is enabled again (09 R288)
    ({}, let d := commitNow c bs false d
      if on then modPort p (fun s => { s with loopBlock := false }) d else d)
  | .streamSet h _ =>
    let d := commitNow c bs false d
    ({ body := slotBody h d }, d)
  | _ => ({}, commitNow c bs false d)

/-- A class C operation executes: with the partner where one replicates, else alone. (log entry 48: DEDUCED) -/
def runConfig (env : ExecEnv) (who : Who) (op : NcpOp) (d : Device) : Option Res × Device :=
  match planOp op d with
  | .refuse r x => (some r, match x with | some j => noteRefusal j d | none => d)
  | .go c bs =>
    let apply (d : Device) : Option Res × Device := let r := applyConfig who op c bs d
      (some r.1, r.2)
    if exchanges d then
      let d := sendPartner 5 .commit (d.glb.cfgEpoch.toNat + 1) 0 d
      match env.partner with
      | .ok => apply d
      | .refused st rs => (some { status := st, reason := rs, body := [if position d then 0 else 1] }, d)
      | .waiting => (none, awaitPartner (modNcp (fun n => { n with waitCommit := some (op, who) }) d))
    else apply d

/-! ### Reads -/

/-- A TLV of a reply (16 R463). -/
def tlv (ty : Nat) (v : Bytes) : Bytes := toBe 2 ty ++ toBe 2 v.length ++ v

def regBytes (d : Device) (a : Nat) : Bytes := toBe 4 ((readReg d a).getD 0).toNat

/-- SYS_INFO (18 R526, Table REG-9). -/
def sysInfo (d : Device) : Res :=
  { body := tlv 1 (regBytes d 0x00) ++ tlv 2 (regBytes d 0x04) ++ tlv 3 (regBytes d 0x08 ++ regBytes d 0x0C) ++ tlv 4 (regBytes d 0x10) ++
      tlv 5 (regBytes d 0x14) ++ tlv 6 (regBytes d 0x18) ++ tlv 7 (regBytes d 0x20) ++ tlv 8 (regBytes d 0x24) ++ tlv 9 (regBytes d 0x120) ++
      tlv 10 (toBe 8 (bootCounter d)) ++ tlv 11 (regBytes d 0x600100) }

/-- PORT_STATUS: PRT_LINK and PRT_STATUS of the port. (log entry 51: DESIGN CHOICE) -/
def portStatus (p : Nat) (d : Device) : Res := { body := wordBytes [linkWord d p, sqWord (sqPRT p) d] }

/-- ADMIT_DRY_RUN (05 R168, R173): the replies of R167, or each stream's bound, and nothing is committed. (log entry 27: DESIGN CHOICE) -/
def dryRun (streams : Tbl StreamCfg) (lists : Tbl Gcl) (d : Device) : Res × Device :=
  let put {α : Type} (t u : Tbl α) : Tbl α := t.foldl (fun u x => insertAt u x.1 x.2) u
  let c := { d.cfg with sch := { d.cfg.sch with streams := put streams d.cfg.sch.streams, lists := put lists d.cfg.sch.lists } }
  match judge true c false d with
  | .refused r body => ({ status := r.status, reason := r.reason, body := body }, noteRefusal r d)
  | .ok bs => ({ body := bs.flatMap (fun b => toBe 2 b.h ++ toBe 1 b.p ++ toBe 8 b.bound) }, d)

/-- CT_READ (07 R218): an index that holds no entry reads with V = 0, a key that no entry has is out of range. (log entry 50: DESIGN CHOICE) -/
def ctRead (k : CtRef) (d : Device) : Res :=
  match k with
  | .index i =>
    if 8388608 ≤ i then { status := 0x0105 }
    else { body := match lookup? d.fwl.ct i with | some e => ctBytes i e d | none => toBe 128 0 }
  | .key b => match d.fwl.ct.find? (fun x => decide (x.2.key = b)) with
    | some (i, e) => { body := ctBytes i e d }
    | none => { status := 0x0105 }

/-- A data page as its 32 bytes. -/
def pageBytes (b : Bytes) : Bytes := (b ++ List.replicate 32 0).take 32

/-- The 32 words of a port entry (11 Table MVB-4). -/
def mvbEntryBytes (c : MvbPort) (muted : Bool) (e : MvbEntry) : Bytes :=
  let w0 := pack [(1, 31), (if c.source then 1 else 2, 29), (bitN c.route, 28), (c.size % 8, 24)]
  let w1 := pack [(c.limit % 65536, 16), (e.age % 65536, 0)]
  let w2 := pack [(bitN (e.mark || muted), 31), (bitN e.page, 30), (bitN e.line, 29), (e.upd.toNat, 0)]
  leWord w0 ++ leWord w1 ++ leWord w2 ++ leWord e.ts ++ leWord e.mseq ++ toBe 12 0 ++ pageBytes e.page0 ++ pageBytes e.page1 ++ toBe 32 0

/-- MVB_PORT_READ (11 R340); an entry that is not configured reads 0. (log entry 51: DESIGN CHOICE) -/
def mvbPortRead (n a : Nat) (d : Device) : Res :=
  { body := match lookup? (mvbCfg d.cfg n).ports a with
    | some c => mvbEntryBytes c (c.source && sourcesMuted d) (mvbEntry d n a)
    | none => toBe 128 0 }

/-- Counter areas of a block by its event ID: address and number of 64-bit counters. (log entry 51: DESIGN CHOICE) -/
def counterAreas (id : Nat) : List (Nat × Nat) :=
  match id with
  | 0x03 => [(0x204000, 5888), (0x210000, 1216)]
  | 0x06 => [(0x384000, 16384)]
  | 0x07 => [(0x402000, 13), (0x404000, 2048)]
  | 0x08 => [(0x480800, 10), (0x484000, 2048), (0x488000, 16384)]
  | 0x0A => (List.range 8).map (fun n => (0x541000 + n * 0x4000, 16))
  | 0x0B => (List.range 2).map (fun n => (0x581000 + n * 0x10000, 16))
  | 0x0C => [(0x5C2000, 7), (0x5C4000, 16384)]
  | 0x0D => [(0x21000, 10)]
  | 0x0E => [(0x601000, 8), (0x602000, 2)]
  | 0x0F => [(0x641000, 8)]
  | 0x10 => [(0x81000, 8)]
  | 0x11 => [(0x688000, 512)]
  | _ => []

/-- Address of a block's k-th counter. -/
def counterAddr : List (Nat × Nat) → Nat → Option Nat
  | [], _ => none
  | (a, n) :: rest, k => if k < n then some (a + k * 8) else counterAddr rest (k - n)

/-- COUNTER_READ: `count` 64-bit counters of a block from an index on. (log entry 51: DESIGN CHOICE) -/
def counterRead (block index count : Nat) (d : Device) : Res :=
  if count < 1 ∨ 248 < count ∨ (counterAddr (counterAreas block) (index + count - 1)).isNone then { status := 0x0105 }
  else { body := (List.range count).flatMap (fun k => match counterAddr (counterAreas block) (index + k) with
    | some a => regBytes d (a + 4) ++ regBytes d a
    | none => []) }

/-- REG_READ (16 R478). (log entry 50: DESIGN CHOICE) -/
def regRead (s a n : Nat) (d : Device) : Res × Device :=
  if n < 1 ∨ 496 < n then ({ status := 0x0105 }, d)
  else if a % 4 ≠ 0 then ({ status := 0x0106, body := toBe 4 a }, busError (.ncp s) a false 2 d)
  else match (List.range n).find? (fun k => (readReg d (a + 4 * k)).isNone) with
    | some k => ({ status := 0x0106, body := toBe 4 (a + 4 * k) }, busError (.ncp s) (a + 4 * k) false 1 d)
    | none => ({ body := (List.range n).flatMap (fun k => regBytes d (a + 4 * k)) }, d)

/-! ### Actions -/

/-- One entry of LG_REBALANCE (02 R54): its current member cancels, another target replaces. (log entry 18: DEDUCED) -/
def rebalanceEntry (g : Nat) (m : Nat × Nat) (d : Device) : Device :=
  let k := g * 256 + m.1
  let moves := if lookup? (lgTable d d.cfg g) m.1 = some m.2 then removeAt d.fwd.moves k
    else if (lookup? d.fwd.moves k).map Prod.fst = some m.2 then d.fwd.moves
    else insertAt d.fwd.moves k (m.2, d.now)
  { d with fwd := { d.fwd with moves := moves } }

/-- LG_REBALANCE. (log entry 18: DEDUCED) -/
def rebalance (g : Nat) (moves : List (Nat × Nat)) (d : Device) : Device :=
  rebalCheck g (movesOf g d) (moves.foldl (fun d m => rebalanceEntry g m d) d)

/-- CLOCK_STEP (04 R117). -/
def clockStep (sec ns : Nat) (d : Device) : Device := afterStep (stepClock (sec * 1000000000 + ns) d)

/-- SLEEP_READY (13 R385). -/
def setSleepReady (on : Bool) (d : Device) : Device := reviewReady (modSsn (fun s => { s with sleepReady := on }) d)

/-- A message of GW_SEND leaves (12 R373): queued on Ethernet it is done, posted it is accepted, otherwise its result is awaited. -/
def sendHeld (h : GwHeld) (deadlineMs : Nat) (d : Device) : Device :=
  match lookup? d.cfg.gw.outputs h.output with
  | none => d
  | some o =>
    let who : Who := match h.origin with | .ncp s q => some (s, q) | _ => none
    let via : GwVia := { port := 36, ts := ts32 d, deadlineMs := deadlineMs }
    if o.eth ∨ o.dstPort = 36 then finish who (if h.wait then 0 else 1) 0 [] (gwCtr h.output 0 (gwSend h.output o via h.origin h.payload d))
    else
      let d := if h.wait then d else finish who 1 0 [] d
      gwCtr h.output 0 (gwSend h.output o via h.origin h.payload d)

/-- GW_SEND: a publication that waits for its mirror holds the message (12 R371). (log entry 39: DESIGN CHOICE) -/
def gwSendCmd (who : Who) (n : Nat) (payload : Bytes) (deadlineMs : Nat) (wait : Bool) (d : Device) : Option Res × Device :=
  match lookup? d.cfg.gw.outputs n with
  | none => (some { status := 0x0105 }, d)
  | some o =>
    if !gwEmits d ∨ destOff o d then (some { status := 0x0208 }, d)
    else
      let x := gwOut d n
      let who' := who.getD (4, 0)
      let h : GwHeld := { output := n, origin := .ncp who'.1 who'.2, payload := payload, wait := wait }
      if isPublication o ∧ 512 ≤ (x.seq - x.m).toNat then (none, { d with gw := { d.gw with sends := d.gw.sends ++ [h] } })
      else
        let d := sendHeld h deadlineMs d
        if who.isNone then (some { status := if wait ∧ (o.eth ∨ o.dstPort = 36) then 0 else 1 }, d) else (none, d)

/-- Held messages of a publication leave once its mirror is done, as far as the next mirror lets them. -/
def flushSends (n : Nat) : Nat → Device → Device
  | 0, d => d
  | k + 1, d =>
    let x := gwOut d n
    if 512 ≤ (x.seq - x.m).toNat then d
    else match d.gw.sends.find? (fun h => decide (h.output = n)) with
      | none => d
      | some h => flushSends n k (sendHeld h 0 { d with gw := { d.gw with sends := d.gw.sends.erase h } })

/-! ### Key commands (19 R546, R548; 08 R270, R271) -/

def isSecOp (p : PendOp) : Bool :=
  match p.kind with
  | .secOp .. => true
  | _ => false

/-- One key command runs; an install before the entropy test ends waits. -/
def runKey (who : Who) (master : Nat) (flashOk : Bool) (op : NcpOp) (d : Device) : Option Res × Device :=
  match op with
  | .keyInstall b =>
    let r := keyInstall master b flashOk d
    (some r.1, r.2)
  | .keyErase t => keyErase who t d
  | _ => (some {}, d)

/-- An install must wait for the end of the entropy test. -/
def entropyWait (op : NcpOp) (d : Device) : Bool :=
  match op with
  | .keyInstall _ => !d.msc.entropyDone && !d.sec.tampered && !d.ccr.gaiStopped
  | _ => false

/-- Group 0x09 commands one at a time, in the order of their acceptance. (log entry 35: DESIGN CHOICE) -/
def keyCmd (who : Who) (master : Nat) (flashOk : Bool) (op : NcpOp) (d : Device) : Option Res × Device :=
  if d.ncp.pend.any (fun p => isErase p || isSecOp p) ∨ entropyWait op d then
    (none, modNcp (fun n => { n with pend := n.pend ++ [{ who := who, kind := .secOp op master flashOk }] }) d)
  else runKey who master flashOk op d

/-- Key commands that waited go on. (log entry 35: DESIGN CHOICE) -/
def resumeKeys : Nat → Device → Device
  | 0, d => d
  | n + 1, d =>
    if d.ncp.pend.any isErase then d
    else match d.ncp.pend.find? isSecOp with
      | some { who := who, kind := .secOp op master fl } =>
        if entropyWait op d then d
        else
          let p : PendOp := { who := who, kind := .secOp op master fl }
          let d := modNcp (fun m => { m with pend := m.pend.erase p }) d
          match runKey who master fl op d with
          | (some r, d) => resumeKeys n (finish who r.status r.reason r.body d)
          | (none, d) => d
      | _ => d

/-! ### Update, resets, registers -/

/-- UPDATE_BLOCK (20 R564): a block for the partner goes to it on channel 5. (log entry 50: DESIGN CHOICE) -/
def updateBlockCmd (partner : Bool) (off : Nat) (data : Bytes) (env : ExecEnv) (d : Device) : Res × Device :=
  if !partner then updateBlock off data d
  else if d.pair.role = .active ∧ d.pair.partnerReady ∧ d.pair.wyUp then (env.update, sendPartner 5 .update off data.length d)
  else ({ status := 0x0209 }, d)

/-- SYS_RESET: a cold reset, or a warm reset whose journal completes the command (20 R560, 16 Table NCP-7). (log entry 53: DEDUCED) -/
def sysReset (cold : Bool) (e : RomEnv) (d : Device) : Device := if cold then coldReset 2 true d else warmNow .command e d

/-- REG_WRITE (16 R478): one aligned word; with MIRROR the partner writes it too, or a late error record says that it did not. (log entry 50: DESIGN CHOICE) -/
def regWrite (who : Who) (a : Nat) (v : Word) (mirror : Bool) (view : HostView) (d : Device) : Res × Device :=
  let s := (who.getD (4, 0)).1
  if a % 4 ≠ 0 then ({ status := 0x0106, body := toBe 4 a }, busError (.ncp s) a true 2 d)
  else if (readReg d a).isNone then ({ status := 0x0106, body := toBe 4 a }, busError (.ncp s) a true 1 d)
  else
    let d := writeReg (.ncp s) a true v view d
    if !mirror then ({}, d)
    else if d.asd.replicating ∧ d.pair.wyUp then ({ status := 0x0001 }, sendPartner 6 .mirror a v.toNat d)
    else ({ status := 0x0001 }, lateRecord { reason := 0x1022, origin := 1, who := BitVec.ofNat 6 s, ref := (who.getD (4, 0)).2 } d)

/-! ### Execution -/

/-- What an operation does when it executes: its reply, or none where the reply comes later or has gone. -/
def runOp (env : ExecEnv) (who : Who) (op : NcpOp) (d : Device) : Option Res × Device :=
  let ses := (who.getD (4, 0)).1
  let ok (x : Res × Device) : Option Res × Device := (some x.1, x.2)
  match op with
  | .sessionOpen o => ok (openSession ses env.via o d)
  | .sessionAttach _ => (some {}, attachSession ses d)
  | .sessionClose => (none, closeSession ses (finish who 0 0 [] d))
  | .sysReset cold => (none, sysReset cold env.rom d)
  | .funcReset b => ok (funcReset b d)
  | .sysInfo => (some (sysInfo d), d)
  | .portStatus p => (some (portStatus p d), d)
  | .lgRebalance g ms => (some {}, rebalance g ms d)
  | .admitDryRun ss ls => ok (dryRun ss ls d)
  | .ctRead k => (some (ctRead k d), d)
  | .gwSend n b dl w => gwSendCmd who n b dl w d
  | .canRecover n => (some {}, canRecover n d)
  | .mvbPortRead n a => (some (mvbPortRead n a d), d)
  | .clockStep sec ns => (some {}, clockStep sec ns d)
  | .sleepReady on => (some {}, setSleepReady on d)
  | .wakeRequest => (some {}, wakeEvent 4 0 d)
  | .switchover => if d.pair.role = .active ∧ d.pair.partnerReady then (some {}, switchover d) else (some { status := 0x0209 }, d)
  | .compareResume => (some {}, compareResume d)
  | .keyInstall _ | .keyErase _ => keyCmd who (masterOf env.via) env.flashOk op d
  | .attest nonce p384 => (some (attest nonce p384 d), d)
  | .updateBlock p off b => ok (updateBlockCmd p off b env d)
  | .updateVerify => ok (updateVerify env.verify d)
  | .updateAbort => ok (updateAbort d)
  | .faultRead i => (some (faultRead i d), d)
  | .lateRingRead n => (some (lateRingRead n d), d)
  | .lateRingAck n => (some {}, releaseLate n d)
  | .restore i => restoreOp who i d
  | .counterRead b i n => (some (counterRead b i n d), d)
  | .regRead a n => ok (regRead ses a n d)
  | .regWrite a v m => ok (regWrite who a v m env.view d)
  | .configLoad _ | .portConfig .. | .portEnable .. | .streamSet .. | .streamRemove _ | .gclSet .. | .psfpUnblock _ | .shaperSet .. | .zoneSet ..
  | .rulesLoad .. | .profileSet .. | .gwConfig _ | .canConfig .. | .mvbConfig .. | .timeConfig .. | .seasonsConfig _ | .pairConfig _ | .secySet _
  | .solsticeSet .. => runConfig env who op d

/-! ### Operations outside the sessions (16 R469, R475, R477) -/

/-- The reply of an operation outside the sessions leaves at once. -/
def sayRow (op : NcpOp) (acc : Bool) (r : Res) (d : Device) : Device :=
  let rep : Reply := { status := r.status, reason := r.reason, acc := acc, epoch := d.glb.cfgEpoch, body := r.body, opcode := op.code }
  sendOut none false rep (newRecord none (if acc then .done (commandPacket 0 0 op) rep else .answer (commandPacket 0 0 op) rep) 0 true d)

/-- Stage 3 of an operation outside the sessions and, where it passes, its COMMAND and EXEC records, its execution and its DONE record. (log entry 52: DESIGN CHOICE) -/
def rowNow (op : NcpOp) (env : ExecEnv) (d : Device) : Device :=
  match checkOp true env.via 0 op d with
  | (some r, d) => ncpCtr 1 (sayRow op false r d)
  | (none, d) =>
    let d := ncpCtr 0 (newRecord none (.command (commandPacket 0 0 op)) 0 true d)
    match runOp env none op (newRecord none .exec (if op.cls = .config then d.glb.cfgEpoch + 1 else 0) true d) with
    | (some r, d) => sayRow op true r d
    | (none, d) => d

/-- An operation of no session's; one of class C waits its turn behind those that are on their way (16 R475). (log entry 52: DESIGN CHOICE) -/
def runRow (op : NcpOp) (env : ExecEnv) (d : Device) : Device :=
  if !ncpRuns d then d
  else if op.cls = .config ∧ (configBusy d ∨ configAhead (d.ncp.arrivals + 1) d) then
    modNcp (fun n => { n with arrivals := n.arrivals + 1, rowQueue := n.rowQueue ++ [(n.arrivals + 1, op, env.via, env.partner)] }) d
  else rowNow op env d

/-- Class C operations outside the sessions that waited go on when their turn comes. -/
def drainRows : Nat → Device → Device
  | 0, d => d
  | n + 1, d =>
    match d.ncp.rowQueue with
    | [] => d
    | x :: rest =>
      if configBusy d ∨ configAhead x.1 d then d
      else drainRows n (advanceAll (rowNow x.2.1 { via := x.2.2.1, partner := x.2.2.2 } (modNcp (fun m => { m with rowQueue := rest }) d)))

/-- A class C command has passed its epoch boundary, or ended without one: those that wait go on in the order in which they came (16 R475). -/
def nextConfig (d : Device) : Device :=
  let d := advanceAll d
  drainRows (d.ncp.rowQueue.length + 1) d

end Sys2Proof.Machine
end

