-- ==== Sys2Proof/Machine/NcpRows.lean ====
section
/-! DEFINITION. The rows of the command protocol's stages 4 and 5 (16 R469 to R482): acceptance, execution, interim replies, gaps, timeouts, the
replay of the journal, and session 3 (R466). -/

namespace Sys2Proof.Machine

/-! ### Session 3 (16 R466) -/

/-- Session 3 is the partner's while it is STANDBY_READY or ACTIVE. -/
def wantsSession3 (d : Device) : Bool :=
  d.cfg.pair.paired && d.pair.wyUp && ((decide (d.pair.role = .active) && d.pair.partnerReady) || isStandby d)

/-- Session 3 opens and closes with the partner (16 R466). (log entry 52: DESIGN CHOICE) -/
def reviewSession3 (d : Device) : Device :=
  let x := sessionOf d 3
  if wantsSession3 d && !x.open_ then
    let d := setSession 3 { rings := x.rings, orphans := x.orphans, open_ := true, transport := some .wyusin } d
    raise sqNCP 0 0x1001 3 { d with flt := { d.flt with notify := insertAt d.flt.notify 3 {} } }
  else if !wantsSession3 d && x.open_ && decide (x.transport = some .wyusin) then closeSession 3 d
  else d

/-! ### Acceptance (stage 4) -/

/-- The COMMAND record of a command is whole, and mirrored where the partner replicates (01 R27). -/
def recordWhole (s : Nat) (q : Word) (d : Device) : Device :=
  modNcp (fun n => { n with journal := n.journal.map (fun r =>
    match r.body with
    | .command _ => if r.who = some (s, q) then { r with whole := true } else r
    | _ => r) }) d

/-- The COMMAND record of a number waits for the partner. -/
def awaitsPartner (s : Nat) (q : Word) (d : Device) : Bool :=
  d.ncp.journal.any (fun r => decide (r.who = some (s, q)) && decide (r.body.kind = 3) && d.ncp.unmirrored.contains r.no)

/-- COMMAND_ACCEPTED: the COMMAND record of a session's oldest validated command is complete in every journal copy and at the partner (R469, 01 R27); after
the acceptance stop only those of the seasons group are accepted (01 R34). -/
def commandAccepted (s : Nat) (d : Device) : Device :=
  if d.ncp.replayDue ∨ !ncpRuns d then d
  else
    let x := sessionOf d s
    match (numbers x (fun r => decide (r.stage = .accepting))).head? with
    | none => d
    | some q =>
      match recAt d s q with
      | none => d
      | some r =>
        if d.glb.stopAccept ∧ r.packet.opcode / 256 ≠ 7 then
          let d := modNcp (fun n => { n with journal := n.journal.filter (fun x => !(decide (x.who = some (s, q)) && decide (x.body.kind = 3))) }) d
          dropUnopened s (nextConfig (answer s q 0x020C 0 [] d))
        else if awaitsPartner s q d then d
        else ncpCtr 0 (recordWhole s q (setNcpRec s q { r with stage := .accepted, acceptedAt := d.now, acceptTs := ts32 d } d))

/-! ### Execution (stage 5) -/

/-- When a command's TIMEOUT ends (R474). -/
def timeoutAt (r : NcpRec) : Nat :=
  match r.op with
  | some op => r.acceptedAt + timeoutOfCmd op r.packet.timeoutMs * 1000000000
  | none => r.acceptedAt

/-- The operation of a record that is marked EXEC runs, and its final reply follows; a command that begins after its TIMEOUT starts no lower-level
work (R474). (log entry 96: DEDUCED) -/
def runRec (s : Nat) (q : Word) (r : NcpRec) (env : ExecEnv) (d : Device) : Device :=
  match r.op with
  | none => d
  | some op =>
    let late := decide (timeoutAt r ≤ d.now)
    if late ∧ op.cls = .action then finish (some (s, q)) 0x020A 0 [] d
    else
      let x := runOp { env with via := (sessionOf d s).transport } (some (s, q)) op d
      match x.1 with
      | none => x.2
      | some a =>
        let d := finish (some (s, q)) (if late then 0x020A else a.status) a.reason a.body x.2
        dropUnopened s (if op.cls = .config then nextConfig d else d)

/-- EXEC is recorded and the command runs. -/
def execRec (s : Nat) (q : Word) (r : NcpRec) (env : ExecEnv) (d : Device) : Device :=
  let target : Option Word := if isConfig r then some (d.glb.cfgEpoch + 1) else none
  let r' := { r with stage := .executing, target := target }
  runRec s q r' env (newRecord (some (s, q)) .exec (target.getD 0) true (setNcpRec s q r' d))

/-- A command whose session closed after its acceptance runs without a reply (R474). -/
def runOrphan (s : Nat) (o : Option Transport × NcpRec) (env : ExecEnv) (d : Device) : Device :=
  let d := modSession s (fun x => { x with orphans := x.orphans.drop 1 }) d
  let who : Option (Nat × Word) := some (s, o.2.packet.seq)
  let done (d : Device) : Device := modNcp (fun n => { n with journal := n.journal.filter (fun r => decide (r.who ≠ who)) }) d
  match o.2.op with
  | none => done d
  | some op =>
    if timeoutAt o.2 ≤ d.now ∧ op.cls = .action then done d
    else
      let d := newRecord who .exec (if op.cls = .config then d.glb.cfgEpoch + 1 else 0) true d
      let d := done (runOp { env with via := o.1 } none op d).2
      if op.cls = .config then nextConfig d else d

/-- After a warm reset class C waits until the device has its configuration again (01 R25, 20 R560). (log entry 94: DEDUCED) -/
def configHeld (r : NcpRec) (d : Device) : Bool := isConfig r && d.boot.saved.isSome

/-- COMMAND_EXECUTE: a session's oldest accepted command, when none of the session executes (R471, R474). -/
def commandExecute (s : Nat) (env : ExecEnv) (d : Device) : Device :=
  if d.ncp.replayDue ∨ !ncpRuns d then d
  else
    let x := sessionOf d s
    match x.orphans with
    | o :: _ => if configHeld o.2 d then d else runOrphan s o env d
    | [] =>
      if x.recs.any (fun r => decide (r.2.stage = .executing)) then d
      else match (numbers x (fun r => decide (r.stage = .accepted))).head? with
        | none => d
        | some q =>
          match recAt d s q with
          | some r => if configHeld r d then d else reviewSession3 (execRec s q r env d)
          | none => d

/-- INTERIM_REPLY: 1 ms after acceptance without a final reply (R473). -/
def interimReply (s : Nat) (d : Device) : Device :=
  let x := sessionOf d s
  match (numbers x (fun r => isAccepted r && !r.interim && decide (r.acceptedAt + 1000000000 ≤ d.now))).head? with
  | none => d
  | some q =>
    match recAt d s q with
    | none => d
    | some r =>
      sendVia x.transport s q false (some (replyTo r.packet { status := 0x0001, isLast := false } d)) (setNcpRec s q { r with interim := true } d)

/-- Missing numbers before the lowest waiting command are skipped, each with a SKIP record (R471). -/
def skipTo (s : Nat) : Nat → Device → Device
  | 0, d => d
  | n + 1, d =>
    let x := sessionOf d s
    match lookup? x.recs x.next.toNat with
    | some _ => d
    | none =>
      let d := ncpCtr 3 (newRecord (some (s, x.next)) .skip 0 true (setNcpRec s x.next { stage := .skipped } d))
      skipTo s n (modSession s (fun y => { y with next := y.next + 1 }) d)

/-- GAP_TIME_EXPIRY (R471). -/
def gapTimeExpiry (s : Nat) (d : Device) : Device :=
  let x := sessionOf d s
  match x.gapSince with
  | none => d
  | some t =>
    if t + x.gapMs * 1000000000 ≤ d.now ∧ x.recs.any (fun r => decide (r.2.stage = .ordered)) then
      let d := raise sqNCP 2 0x1003 s (skipTo s 512 d)
      advance s 600 (modSession s (fun y => { y with gapSince := none }) d)
    else d

/-- Lower-level work of a command that has not begun is cancelled: its message on a wait list, in a PENDING entry or before a mirror (R474). -/
def cancelWork (s : Nat) (q : Word) (d : Device) : Device :=
  let mine (m : GwMsg) : Bool := decide (m.origin = .ncp s q)
  let held := d.gw.sends.filter (fun h => decide (h.origin = .ncp s q))
  let d := { d with gw := { d.gw with sends := d.gw.sends.filter (fun h => decide (h.origin ≠ .ncp s q)) } }
  let d := held.foldl (fun d h => gwResult { output := h.output, origin := h.origin } .deadline d) d
  let waits := d.gw.waits.flatMap (fun x => x.2.filter mine)
  let d := { d with gw := { d.gw with waits := d.gw.waits.map (fun x => (x.1, x.2.filter (fun m => !mine m))) } }
  let d := waits.foldl (fun d m => gwResult m .deadline d) d
  d.gw.entries.foldl (fun d x => if mine x.2 then txCancel (x.1 / 64) (x.1 % 64) d else d) d

/-- COMMAND_TIMEOUT: TIMEOUT expires during execution (R474). -/
def commandTimeout (s : Nat) (d : Device) : Device :=
  let x := sessionOf d s
  match (numbers x (fun r => decide (r.stage = .executing) && !r.late && decide (timeoutAt r ≤ d.now))).head? with
  | none => d
  | some q =>
    match recAt d s q with
    | none => d
    | some r => cancelWork s q (setNcpRec s q { r with late := true } d)

/-! ### Replay of the journal (R481, Table NCP-7) -/

/-- A record as it bears on the numbers of its session. A reply that the store lost stays lost. -/
def takeRecord (old : Session) (d : Device) (t : Tbl NcpRec) (r : NcpJRec) : Tbl NcpRec :=
  match r.who with
  | none => t
  | some (_, q) =>
    let kept (a : Reply) : Option Reply := some (((lookup? old.recs q.toNat).bind (·.reply)).getD a)
    match r.body with
    | .command p => insertAt t q.toNat { packet := p, stage := .accepted, acceptTs := r.ts, acceptedAt := d.now - (ts32 d - r.ts).toNat * 1000 }
    | .exec =>
      let x := lookupD t q.toNat {}
      insertAt t q.toNat { x with stage := .executing, target := if isConfig x then some r.target else none }
    | .answer p a | .done p a => insertAt t q.toNat { packet := p, stage := .final, reply := kept a }
    | .skip => insertAt t q.toNat { stage := .skipped }
    | .session _ => t

/-- A session as the journal's records give it (16 R479, R481): what was in stages 1 to 3 has no record and is forgotten; a closed session leaves what it had
accepted. (log entry 53: DEDUCED) -/
def rebuildSession (s : Nat) (j : List NcpJRec) (old : Session) (d : Device) : Session :=
  let mine := j.filter (fun r => decide (r.who.map Prod.fst = some s))
  let recs := mine.foldl (takeRecord old d) []
  let last : Word := ((mine.getLast?.bind (·.who)).map Prod.snd).getD 0
  let order := numbers { next := last, recs := recs } (fun _ => true)
  let y := (mine.filterMap (fun r => match r.body with | .session y => some y | _ => none)).getLast?.getD { open_ := false }
  if y.open_ then
    { open_ := true, transport := (match y.transport with | some .pcie | some .split => none | t => t), auth := y.auth, slot := y.slot, secys := y.secys,
      gapMs := y.gapMs, ctx := y.ctx, cnonce := y.cnonce, dnonce := y.dnonce, peer := y.peer, recs := recs, rings := old.rings,
      next := order.foldl (fun n q => if q = n then n + 1 else n) (order.head?.getD y.next), high := order.getLast?.getD (y.next - 1) }
  else
    { rings := old.rings, orphans := order.filterMap (fun q => (lookup? recs q.toNat).bind (fun r =>
        if r.stage = .accepted ∨ (r.stage = .executing ∧ opcodeCls r.packet.opcode ≠ some .action) then some (y.transport, { r with stage := .accepted }) else none)) }

/-- All sessions from a warm reset's own journal; at a takeover those of which the mirror tells, whose records the new active then holds (16 R481). -/
def rebuildSessions (takeover : Bool) (bad : List Nat) (d : Device) : Device :=
  let good (r : NcpJRec) : Bool := !bad.contains r.no && r.who.isSome
  if takeover then
    let told (s : Nat) : Bool := d.ncp.mirror.any (fun r => decide (r.who.map Prod.fst = some s))
    let named (r : NcpJRec) : Bool := match r.who with | some w => told w.1 | none => true
    let m := d.ncp.mirror.filter good
    let d := ([0, 1, 2] : List Nat).foldl (fun d s => if told s then setSession s (rebuildSession s m (sessionOf d s) d) d else d) d
    modNcp (fun n => { n with
      journal := n.journal.filter (fun r => !named r) ++ m, mirror := [], recordNo := (m.map (·.no)).foldl max n.recordNo }) d
  else
    let j := d.ncp.journal.filter (fun r => good r && r.whole)
    ([0, 1, 2, 3] : List Nat).foldl (fun d s => setSession s (rebuildSession s j (sessionOf d s) d) d) (modNcp (fun n => { n with journal := j }) d)

/-- Reason of an action that the reset or takeover interrupted. (log entry 53: DEDUCED) -/
def interrupted (takeover : Bool) (op : NcpOp) : BitVec 16 :=
  match op with
  | .gwSend .. => if takeover then 0x0C28 else 0x0A30
  | .updateVerify => 0x1332
  | _ => 0x1021

/-- One accepted command without DONE record is completed; class C waits for the device's configuration. (log entry 53: DEDUCED, 94: DEDUCED) -/
def replayRec (takeover : Bool) (s : Nat) (q : Word) (env : ExecEnv) (d : Device) : Device :=
  match recAt d s q with
  | none => d
  | some r =>
    match r.op with
    | none => d
    | some op =>
      if r.stage = .accepted then (if configHeld r d then d else execRec s q r env d)
      else if r.stage ≠ .executing then d
      else match op.cls with
        | .session | .read => runRec s q r env d
        | .config =>
          let past : Bool := match r.target with | some t => !(d.glb.cfgEpoch - t).msb | none => false
          if past then finish (some (s, q)) 0 0 [] d
          else if configHeld r d then setNcpRec s q { r with stage := .accepted, target := none } d
          else runRec s q r env d
        | .action => finish (some (s, q)) 0x0003 (interrupted takeover op) [] d

/-- A session's commands in sequence order; one that waits holds the others back. -/
def replayAll (takeover : Bool) (s : Nat) (env : ExecEnv) : List Word → Device → Device
  | [], d => d
  | q :: qs, d =>
    let d := replayRec takeover s q env d
    match recAt d s q with
    | some r => if isAccepted r then d else replayAll takeover s env qs d
    | none => replayAll takeover s env qs d

/-- A takeover closes HMAC sessions whose slot is not usable here, and session 3. (log entry 53: DEDUCED) -/
def afterTakeover (d : Device) : Device :=
  reviewSession3 (closeSession 3 (closeHmac (fun x => (slotUse 0 true 1 x.slot d).isSome) d))

/-- JOURNAL_REPLAYED: after a warm reset the device reads its own journal, after a takeover the mirrored one (R481). -/
def journalReplayed (env : ExecEnv) (d : Device) : Device :=
  if !d.ncp.replayDue ∨ !ncpRuns d then d
  else
    let tk := d.pair.takeover
    let d := rebuildSessions tk env.bad (modNcp (fun n => { n with replayDue := false }) d)
    let d := if tk then afterTakeover d else d
    let d := ([0, 1, 2, 3] : List Nat).foldl (fun d s => replayAll tk s env (numbers (sessionOf d s) isAccepted) d) d
    raise sqNCP 3 0x1004 0 d

/-! ### The commit exchange (14 R434) -/

/-- COMMIT_WAIT_EXPIRY: the active commits alone, and the command that waited gets its reply; so does a route commit. (log entry 48: DEDUCED) -/
def commitWaitRow (d : Device) : Device :=
  let due : Bool := match d.pair.exchange with | some t => decide (d.pair.role = .active) && decide (t ≤ d.now) | none => false
  if !due then d
  else
    let w := d.ncp.waitCommit
    let x := d.top.routeWait
    let d := commitWaitExpiry { modNcp (fun n => { n with waitCommit := none }) d with top := { d.top with routeWait := none } }
    match w with
    | none => (match x with | some r => nextConfig (commitNow (routedCfg r.1 r.2 d.cfg) [] false d) | none => d)
    | some (op, who) =>
      match runConfig {} who op d with
      | (some r, d) => nextConfig (if who.isSome then finish who r.status r.reason r.body d else sayRow op true r d)
      | (none, d) => d

/-! ### Session operations on a session of their own -/

/-- SESSION_OPEN with its number s0, on a closed session (R467). (log entry 52: DESIGN CHOICE) -/
def sessionOpenRow (s : Nat) (t : Transport) (q : Word) (o : OpenParams) (d : Device) : Device :=
  if 4 ≤ s ∨ !ncpRuns d ∨ d.boot.recovery then d
  else
    let x := sessionOf d s
    let p := commandPacket s q (.sessionOpen o)
    if x.open_ ∨ x.transport.isSome ∨ foreign s t d then sendBare t s p 0x0309 d
    else
      let d := modSession s (fun x => { x with
        transport := some t, next := q + 1, high := q, recs := [(q.toNat, { packet := p, stage := .accepting })] }) d
      match checkOp false (some t) 0 (.sessionOpen o) d with
      | (some a, d) => dropUnopened s (answer s q a.status a.reason a.body d)
      | (none, d) =>
        let r : NcpRec := { packet := p, stage := .accepted, acceptedAt := d.now, acceptTs := ts32 d }
        execRec s q r { via := some t } (ncpCtr 0 (newRecord (some (s, q)) (.command p) 0 true (setNcpRec s q r d)))

/-- SESSION_CLOSE (R467): in the session's order, behind what is not final. (log entry 52: DESIGN CHOICE) -/
def sessionCloseRow (s : Nat) (d : Device) : Device :=
  if 4 ≤ s ∨ !ncpRuns d then d
  else
    let x := sessionOf d s
    if !x.open_ then sayRow .sessionClose false { status := 0x0309 } d
    else if x.recs.any (fun r => !isFinal r.2) then recordNew s (commandPacket s (x.high + 1) .sessionClose) d
    else match checkOp false x.transport 0 .sessionClose d with
      | (some r, d) => ncpCtr 1 (sayRow .sessionClose false r d)
      | (none, d) => closeSession s (sayRow .sessionClose true {} (ncpCtr 0 (newRecord none (.command (commandPacket s 0 .sessionClose)) 0 true d)))

/-- SESSION_ATTACH to the PCIe or split mailbox (R467). (log entry 52: DESIGN CHOICE) -/
def sessionAttachRow (s : Nat) (t : Transport) (d : Device) : Device :=
  if 4 ≤ s ∨ !ncpRuns d ∨ d.boot.recovery then d
  else
    let x := sessionOf d s
    if !(x.open_ && x.transport.isNone && (decide (t = .pcie) || decide (t = .split)) && !foreign s t d) then
      sayRow (.sessionAttach {}) false { status := 0x0309 } d
    else match checkOp false (some t) 0 (.sessionAttach {}) d with
      | (some r, d) => ncpCtr 1 (sayRow (.sessionAttach {}) false r d)
      | (none, d) =>
        sayRow (.sessionAttach {}) true {} (attachSession s (modSession s (fun y => { y with transport := some t }) (ncpCtr 0
          (newRecord none (.command (commandPacket s 0 (.sessionAttach {}))) 0 true d))))

end Sys2Proof.Machine
end

