-- ==== Sys2Proof/Machine/Rows.lean ====
section
/-! DEFINITION. Glue between the units' operations and the rows of the command table: which commands need power or the register bus, rows whose
step touches more than one unit, and what one clock of an idle block does. -/

namespace Sys2Proof.Machine

/-- The main domain acts only while its rails are up: Spring and Summer (13 Table SSN-1). (log entry 1: DESIGN CHOICE, 7: DEDUCED) -/
def onMain (f : Device → Device) (d : Device) : Device := if powered d then f d else d

/-- BAR0 answers while the main domain is up and no reset holds it (18 Table REG-3, 17 R488). (log entry 1: DESIGN CHOICE, 7: DEDUCED) -/
def onBus (f : Device → Device) (d : Device) : Device := if powered d && !d.boot.inReset then f d else d

/-- What the time manager does happens while Renioft runs: with the control cores halted peer delay and Syncs stop, and after a warm reset
the domain engines restart with it (04 R118, R135). (log entry 7: DEDUCED) -/
def onTime (f : Device → Device) : Device → Device := onMain (fun d => if renioftRuns d then f d else d)

/-! ### Commits of the active, as the standby receives them (01 R13, 20 R568) -/

inductive CommitMsg where
  | config (c : Cfg) (epoch : Word) (at_ : Option (Nat × Nat))
  | solstice (sec ns : Nat) (epoch : Word)
  deriving DecidableEq, Repr

/-- PARTNER_COMMIT. -/
def partnerCommitRow (m : CommitMsg) (d : Device) : Device :=
  match m with
  | .config c e t => partnerCommit c e t d
  | .solstice sec ns e => partnerSolstice sec ns e d

/-! ### Frame path and gateway -/

/-- SPILL_READY (03 R99): the gateway may start from the next blob commit, or at once where the blob has been committed (12 R360). -/
def spillReadyRow (d : Device) : Device :=
  let d := spillReadyStep d
  if d.ssn.blobDone then gwStart d else d

/-- PUB_MIRROR_DONE: held emissions and held messages of GW_SEND leave (12 R371). -/
def pubMirrorRow (n : Nat) (d : Device) : Device := flushSends n 512 (pubMirrorDone n d)

/-! ### Key commands that waited (19 R546; 08 R270) -/

def eraseAbortRow (d : Device) : Device := resumeKeys 64 (eraseAbort d)

def entropyRow (ok : Bool) (d : Device) : Device := resumeKeys 64 (entropyTestDone ok d)

def tamperRow (x : TamperSrc) (d : Device) : Device := resumeKeys 64 (tamperDetect x d)

/-! ### The clock of an idle block -/

/-- 4 ns pass: clocks advance, messages of the gateway that waited for room enter the pipeline, readiness and HLTH_N are judged anew. (log entry 4: DESIGN CHOICE) -/
def idleTick (d : Device) : Device :=
  let d := tick d
  reviewHealth (if powered d then reviewReady (gwDrain d) else d)

end Sys2Proof.Machine
end

