-- ==== Sys2Proof/Syntax.lean ====
section
/-! DEFINITION. The commands of the NV8: one constructor per row of the command table, with what each carries. -/

namespace Sys2Proof
open Sys2Proof.Machine

inductive Instr where
  /-- PARTNER_COMMIT (R13) -/
  | partnerCommit (m : CommitMsg)
  /-- SLEEP_ACCEPTANCE_STOP (R34) -/
  | sleepAcceptanceStop
  /-- CELL_ALLOCATE (R69) -/
  | cellAllocate (p id : Nat) (chunk : Bytes) (express : Bool) (tag : Option SecTag) (sub : Nat) (txId : Option (BitVec 16))
  /-- PFC_REFRESH (R77) -/
  | pfcRefresh (p : Nat)
  /-- HEADER_ARBITRATION (R36) -/
  | headerArbitration
  /-- PIPELINE_DECISION (R55) -/
  | pipelineDecision
  /-- FDB_AGE_OUT (R47) -/
  | fdbAgeOut (fid mac : Nat)
  /-- LINK_DOWN (R98) -/
  | linkDown (p : Nat)
  /-- LINK_UP (R525) -/
  | linkUp (p : Nat)
  /-- FLOWLET_MOVE (R54) -/
  | flowletMove (g fl : Nat)
  /-- SCHEDULER_SELECT (R88) -/
  | schedulerSelect (p : Nat)
  /-- TRANSMIT_COMPLETE (R130) -/
  | transmitComplete (p sub : Nat)
  /-- FRAME_END_RECEIVED (R58) -/
  | frameEndReceived (id : Nat) (fcsOk codeErr : Bool) (frags : Nat) (assyErr : Bool)
  /-- ICV_VERDICT (R260) -/
  | icvVerdict (id : Nat) (ok : Bool)
  /-- PFC_RECEIVED (R80) -/
  | pfcReceived (p : Nat) (x : FlowCtl)
  /-- AVERAGE_UPDATE (R85) -/
  | averageUpdate
  /-- AGE_SCRUB (R89) -/
  | ageScrub
  /-- SPILL_WRITE_DONE (R92) -/
  | spillWriteDone (q : Nat)
  /-- SPILL_REFILL (R95) -/
  | spillRefill (q : Nat) (memErr : Option Nat)
  /-- SPILL_READY (R99) -/
  | spillReady
  /-- KEEPER_TIME_WRITE (R106) -/
  | keeperTimeWrite
  /-- SYNC_RECEIVED (R120) -/
  | syncReceived (domB : Bool) (p : Nat) (m : SyncMsg) (delta : Int)
  /-- ANNOUNCE_RECEIVED (R121) -/
  | announceReceived (domB : Bool) (p : Nat) (gm : BitVec 64) (vec : List Nat)
  /-- SYNC_RECEIPT_TIMEOUT (R121) -/
  | syncReceiptTimeout (domB : Bool)
  /-- ANNOUNCE_RECEIPT_TIMEOUT (R121) -/
  | announceReceiptTimeout (domB : Bool)
  /-- GM_HOLD_EXPIRY (R121) -/
  | gmHoldExpiry (domB : Bool)
  /-- REVERT_HOLD_EXPIRY (R123) -/
  | revertHoldExpiry
  /-- PDELAY_MEASUREMENT (R126) -/
  | pdelayMeasurement (p ps : Nat)
  /-- PDELAY_FAIL (R134) -/
  | pdelayFail (p : Nat)
  /-- TIM_SNAP (R137) -/
  | timSnap (w : Word)
  /-- TXTS_POP (R132) -/
  | txtsPop (p n : Nat)
  /-- GATE_EVENT (R142) -/
  | gateEvent (p : Nat)
  /-- GCL_SWITCH (R148) -/
  | gclSwitch
  /-- PREEMPT_VERIFY (R151) -/
  | preemptVerify (p : Nat) (ok : Bool)
  /-- ADMISSION_RECHECK (R171) -/
  | admissionRecheck
  /-- SEQUENCE_TEST (R193) -/
  | sequenceTest
  /-- MIRROR_COMPLETE (R182) -/
  | mirrorComplete (no : Nat)
  /-- RECORD_COMPLETE (R186) -/
  | recordComplete (no : Nat)
  /-- PARTNER_ACK (R186) -/
  | partnerAck (no : Nat)
  /-- REPL_LOST (R187) -/
  | replLost
  /-- MARK_RECORD (R189) -/
  | markRecord
  /-- HOLD_EXPIRY (R194) -/
  | holdExpiry (slot : Nat)
  /-- RECOV_RESET (R195) -/
  | recovReset (slot : Nat)
  /-- MEMBER_SILENT (R196) -/
  | memberSilent (slot p : Nat)
  /-- JOURNAL_REPLAY (R198) -/
  | journalReplay (bad0 bad1 : List Nat)
  /-- REPLICA_RECORD (R201) -/
  | replicaRecord (x : JRec)
  /-- MISS_LOOKUP_DONE (R232) -/
  | missLookupDone (id : Nat) (memErr : Option Nat)
  /-- CT_SCAN (R226) -/
  | ctScan (ix : Nat)
  /-- CT_REVALIDATE (R215) -/
  | ctRevalidate
  /-- FRAG_EXPIRY (R228) -/
  | fragExpiry
  /-- STATE_REBUILT (R239) -/
  | stateRebuilt
  /-- PICKUP_GRACE_END (R227) -/
  | pickupGraceEnd
  /-- CT_MIRROR (R241) -/
  | ctMirror (op : MirrorOp) (e : Ct)
  /-- CT_RESEND_DONE (R243) -/
  | ctResendDone
  /-- BANK_CHECK (R244) -/
  | bankCheck (ok : Bool)
  /-- SETUP_REQUEST (R420) -/
  | setupRequest (p : Nat) (hdr : Bytes) (zin zout vid : Nat)
  /-- SETUP_TIMEOUT (R420) -/
  | setupTimeout (id : Nat)
  /-- TOUCH (R420) -/
  | touch (key : Bytes) (state : CtPhase) (advance : Bool)
  /-- PN_CKPT_WRITE_DONE (R274) -/
  | pnCkptWriteDone (tx : Bool) (sc : Nat) (an : BitVec 2)
  /-- ERASE_ABORT (R271) -/
  | eraseAbort
  /-- MKA_PDU (R251) -/
  | mkaPdu (cak : Nat) (acts : List MkaAct)
  /-- ENTROPY_TEST_DONE (R549) -/
  | entropyTestDone (ok : Bool)
  /-- DRBG_RESEED (R279) -/
  | drbgReseed
  /-- TAMPER_DETECT (R532) -/
  | tamperDetect (x : TamperSrc)
  /-- HELLO_RECEIVED (R291) -/
  | helloReceived (p id etb : Nat)
  /-- TOPOLOGY_RECEIVED (R290) -/
  | topologyReceived (lineB : Bool) (view : List TopNode)
  /-- HELLO_SEND (R291) -/
  | helloSend (p : Nat)
  /-- TOPOLOGY_SEND (R291) -/
  | topologySend (p : Nat)
  /-- NEIGHBOUR_LOST (R291) -/
  | neighbourLost (p : Nat)
  /-- TOPO_STABLE_EXPIRY (R290) -/
  | topoStableExpiry
  /-- ROUTE_COMMIT (R293) -/
  | routeCommit (r : List Route × Tbl NextHop) (ans : PartnerAns)
  /-- BYPASS_SETTLE_EXPIRY (R290) -/
  | bypassSettleExpiry
  /-- BYPASS_WD (R301) -/
  | bypassWd
  /-- TOPO_INHIBIT (R294) -/
  | topoInhibit (on : Bool)
  /-- BYPASS_COMMAND (R299) -/
  | bypassCommand (on : Bool)
  /-- CX_TXREQ (R315) -/
  | cxTxreq (n : Nat) (mask : BitVec 64)
  /-- CX_TXCANCEL (R315) -/
  | cxTxcancel (n : Nat) (mask : BitVec 64)
  /-- CX_TXACK (R315) -/
  | cxTxack (n : Nat) (mask : BitVec 64)
  /-- CX_RXACK (R317) -/
  | cxRxack (n count : Nat)
  /-- CAN_FRAME_RECEIVED (R317) -/
  | canFrameReceived (n : Nat) (f : CanFrame)
  /-- CAN_ATTEMPT_START (R318) -/
  | canAttemptStart (n : Nat)
  /-- CAN_ATTEMPT_END (R318) -/
  | canAttemptEnd (n : Nat) (x : CanEnd) (delay : Option Nat)
  /-- BUS_OFF_END (R321) -/
  | busOffEnd (n : Nat)
  /-- CAN_WAKE_DETECT (R331) -/
  | canWakeDetect (n : Nat)
  /-- MVB_SLAVE_FRAME (R342) -/
  | mvbSlaveFrame (n a : Nat) (data : Bytes) (l : MvbLines)
  /-- MVB_SOURCE_WRITE (R343) -/
  | mvbSourceWrite (n a : Nat) (data : Bytes)
  /-- MVB_AGE_TICK (R344) -/
  | mvbAgeTick (n : Nat)
  /-- MVB_BASIC_PERIOD (R346) -/
  | mvbBasicPeriod (n : Nat)
  /-- MVB_REPLY_TIMEOUT (R346) -/
  | mvbReplyTimeout (n a : Nat)
  /-- MVB_FOREIGN_MASTER (R347) -/
  | mvbForeignMaster (n : Nat)
  /-- MASTER_SILENCE_EXPIRY (R347) -/
  | masterSilenceExpiry (n : Nat)
  /-- MASTERSHIP_OFFER (R346) -/
  | mastershipOffer (n : Nat) (accepted : Bool)
  /-- MVB_OFFER_RECEIVED (R346) -/
  | mvbOfferReceived (n : Nat)
  /-- DEVICE_SCAN (R349) -/
  | deviceScan (n a : Nat) (answer : Option (BitVec 16))
  /-- GW_EGRESS_ARRIVAL (R361) -/
  | gwEgressArrival (p : Nat)
  /-- TRDP_RECEIVED (R370) -/
  | trdpReceived (p ingress : Nat) (t : Telegram)
  /-- ACF_RECEIVED (R369) -/
  | acfReceived (p ingress : Nat) (stream : BitVec 64) (ms : List AcfMsg)
  /-- CYCLIC_EMIT (R368) -/
  | cyclicEmit (n : Nat)
  /-- SUB_STALE (R369) -/
  | subStale (n : Nat)
  /-- GW_DEADLINE (R374) -/
  | gwDeadline (w : GwPlace)
  /-- PUB_MIRROR_DONE (R371) -/
  | pubMirrorDone (n : Nat)
  /-- GW_START (R360) -/
  | gwStart
  /-- WAKE_HOLD_EXPIRY (R385) -/
  | wakeHoldExpiry
  /-- ROUND_START (R387) -/
  | roundStart
  /-- EQX_CONSENT (R389) -/
  | eqxConsent (f : EqxFrame)
  /-- EQX_COMMIT (R391) -/
  | eqxCommit (f : EqxFrame)
  /-- EQX_ACK (R390) -/
  | eqxAck (f : EqxFrame)
  /-- EQX_REFUSE (R389) -/
  | eqxRefuse (f : EqxFrame)
  /-- EQX_ABORT (R392) -/
  | eqxAbort (f : EqxFrame)
  /-- EQX_VETO (R398) -/
  | eqxVeto (f : EqxFrame)
  /-- EQX_KEEPALIVE (R396) -/
  | eqxKeepalive (f : EqxFrame)
  /-- HOP_TIMEOUT (R390) -/
  | hopTimeout
  /-- TOKEN_TIMEOUT (R392) -/
  | tokenTimeout
  /-- ABORT_REPEAT (R392) -/
  | abortRepeat
  /-- CONSENT_EXPIRED (R392) -/
  | consentExpired
  /-- KA_SEND (R396) -/
  | kaSend
  /-- KA_SILENCE_EXPIRY (R396) -/
  | kaSilenceExpiry
  /-- IDLE_RETURN (R401) -/
  | idleReturn
  /-- COMMIT_TIME_REACHED (R402) -/
  | commitTimeReached
  /-- POWER_DOWN_STEP (R402) -/
  | powerDownStep
  /-- WAKE_IN (R397) -/
  | wakeIn (active : Bool)
  /-- WAKE_ALARM (R397) -/
  | wakeAlarm
  /-- WAKE_PULSE_END (R400) -/
  | wakePulseEnd
  /-- POWER_UP_STEP (R404) -/
  | powerUpStep (e : ColdEnv)
  /-- SPRING_IMAGE_LOADED (R404) -/
  | springImageLoaded (readOk : Bool)
  /-- SPRING_PATHS (R404) -/
  | springPaths
  /-- RENIOFT_RUNNING (R404) -/
  | renioftRunning
  /-- BLOB_COMMIT (R561) -/
  | blobCommit
  /-- SUMMER_REACHED (R404) -/
  | summerReached
  /-- VAON_BROWNOUT (R383) -/
  | vaonBrownout
  /-- VAON_RISE (R606) -/
  | vaonRise
  /-- LEASE_ARM (R421) -/
  | leaseArm
  /-- LEASE_RENEWAL_SEND (R421) -/
  | leaseRenewalSend
  /-- ACTIVE_LEASE_END (R421) -/
  | activeLeaseEnd
  /-- LEASE_RENEWAL_RECEIVED (R424) -/
  | leaseRenewalReceived (x : Option Renewal)
  /-- STANDBY_LEASE_EXPIRY (R424) -/
  | standbyLeaseExpiry
  /-- YIELD_RECEIVED (R425) -/
  | yieldReceived
  /-- ELECTION_WINDOW_EXPIRY (R426) -/
  | electionWindowExpiry
  /-- PARTNER_LOST (R436) -/
  | partnerLost
  /-- PATH_DOWN (R419) -/
  | pathDown (pin : Bool)
  /-- WYUSIN_SEGMENT (R415) -/
  | wyusinSegment (x : Segment)
  /-- CREDIT_LIMIT (R417) -/
  | creditLimit (tc : Nat) (l : Word)
  /-- CREDIT_SEND (R417) -/
  | creditSend
  /-- DIGEST_WINDOW_CLOSE (R429) -/
  | digestWindowClose
  /-- DIGEST_COMPARE (R429) -/
  | digestCompare (window : Word) (xa : BitVec 64) (recs : List (Nat × Nat × Word))
  /-- MISMATCH_NOTICE (R430) -/
  | mismatchNotice
  /-- PAIR_SELFTEST_DONE (R430) -/
  | pairSelftestDone (pass : Bool)
  /-- PARTNER_VERDICT (R430) -/
  | partnerVerdict (pass : Bool)
  /-- TAKEOVER_DONE (R432) -/
  | takeoverDone
  /-- PARTNER_READY (R434) -/
  | partnerReady
  /-- COMMIT_WAIT_EXPIRY (R434) -/
  | commitWaitExpiry
  /-- CHECKER_WINDOW_CLOSE (R445) -/
  | checkerWindowClose (by_ : CloseBy) (main checker : List CcrTxn) (parity : Bool) (lag : Nat)
  /-- CHECKER_TIMEOUT (R446) -/
  | checkerTimeout (main : List CcrTxn)
  /-- TCM_ERROR (R439) -/
  | tcmError (core1 corrected : Bool) (main : List CcrTxn)
  /-- CCR_SELFTEST_DONE (R447) -/
  | ccrSelftestDone (p0 p1 pd pc : Bool)
  /-- CONTROL_RESTART_DONE (R448) -/
  | controlRestartDone
  /-- CHECKER_RELOAD_DONE (R449) -/
  | checkerReloadDone
  /-- COMP_TEST_SLOT (R451) -/
  | compTestSlot (ok : Bool)
  /-- SANDBOX_FAULT (R457) -/
  | sandboxFault
  /-- DEBUG_ACTION (R458) -/
  | debugAction (core1 : Bool) (a : DebugAct)
  /-- DEBUG_ATTACH (R458) -/
  | debugAttach
  /-- GAILALUM_KAT (R459) -/
  | gailalumKat (ok : Bool)
  /-- GAILALUM_FAULT (R459) -/
  | gailalumFault
  /-- NCP_PACKET (R469) -/
  | ncpPacket (t : Transport) (peer : NcpPeer) (x : Packet)
  /-- COMMAND_ACCEPTED (R469) -/
  | commandAccepted (s : Nat)
  /-- COMMAND_EXECUTE (R471) -/
  | commandExecute (s : Nat) (env : ExecEnv)
  /-- INTERIM_REPLY (R473) -/
  | interimReply (s : Nat)
  /-- GAP_TIME_EXPIRY (R471) -/
  | gapTimeExpiry (s : Nat)
  /-- COMMAND_TIMEOUT (R474) -/
  | commandTimeout (s : Nat)
  /-- JOURNAL_REPLAYED (R481) -/
  | journalReplayed (env : ExecEnv)
  /-- CMD_DOORBELL (R468) -/
  | cmdDoorbell (s pi : Nat) (view : HostView)
  /-- RPL_CI_WRITE (R468) -/
  | rplCiWrite (s ci : Nat) (view : HostView)
  /-- MAILBOX_BASE_WRITE (R468) -/
  | mailboxBaseWrite (s : Nat) (rpl hi : Bool) (v : Word)
  /-- SESSION_OPEN (R467) -/
  | sessionOpen (s : Nat) (t : Transport) (q : Word) (o : OpenParams)
  /-- SESSION_CLOSE (R467) -/
  | sessionClose (s : Nat)
  /-- SESSION_ATTACH (R467) -/
  | sessionAttach (s : Nat) (t : Transport)
  /-- SYS_RESET (R560) -/
  | sysReset (cold : Bool) (env : ExecEnv)
  /-- FUNC_RESET (R589) -/
  | funcReset (b : FuncBlock) (env : ExecEnv)
  /-- SYS_INFO (R526) -/
  | sysInfo (env : ExecEnv)
  /-- CONFIG_LOAD (R562) -/
  | configLoad (slotB : Bool) (env : ExecEnv)
  /-- PORT_CONFIG (R49) -/
  | portConfig (p : Nat) (x : PortCfg) (env : ExecEnv)
  /-- PORT_ENABLE (R64) -/
  | portEnable (p : Nat) (on force : Bool) (env : ExecEnv)
  /-- LG_REBALANCE (R54) -/
  | lgRebalance (g : Nat) (moves : List (Nat × Nat)) (env : ExecEnv)
  /-- PORT_STATUS (R64) -/
  | portStatus (p : Nat) (env : ExecEnv)
  /-- STREAM_SET (R160) -/
  | streamSet (h : Nat) (x : StreamCfg) (env : ExecEnv)
  /-- STREAM_REMOVE (R197) -/
  | streamRemove (h : Nat) (env : ExecEnv)
  /-- GCL_SET (R147) -/
  | gclSet (lists : Tbl Gcl) (sec ns : Nat) (env : ExecEnv)
  /-- ADMIT_DRY_RUN (R168) -/
  | admitDryRun (streams : Tbl StreamCfg) (lists : Tbl Gcl) (env : ExecEnv)
  /-- PSFP_UNBLOCK (R156) -/
  | psfpUnblock (h : Nat) (env : ExecEnv)
  /-- SHAPER_SET (R153) -/
  | shaperSet (p : Nat) (slopes : List Nat) (pre : Preempt) (holdNs : Nat) (env : ExecEnv)
  /-- ZONE_SET (R211) -/
  | zoneSet (map : Tbl Nat) (hi cp : Nat) (zones : Tbl ZoneCfg) (env : ExecEnv)
  /-- RULES_LOAD (R214) -/
  | rulesLoad (bank : RuleBank) (revalidate : Bool) (env : ExecEnv)
  /-- PROFILE_SET (R225) -/
  | profileSet (n : Nat) (x : Profile) (env : ExecEnv)
  /-- CT_READ (R218) -/
  | ctRead (k : CtRef) (env : ExecEnv)
  /-- GW_CONFIG (R359) -/
  | gwConfig (g : GwyCfg) (env : ExecEnv)
  /-- CAN_CONFIG (R309) -/
  | canConfig (n : Nat) (c : CanCfg) (env : ExecEnv)
  /-- MVB_CONFIG (R339) -/
  | mvbConfig (n : Nat) (c : MvbCfg) (env : ExecEnv)
  /-- GW_SEND (R373) -/
  | gwSend (output : Nat) (payload : Bytes) (deadlineMs : Nat) (wait : Bool) (env : ExecEnv)
  /-- CAN_RECOVER (R321) -/
  | canRecover (n : Nat) (env : ExecEnv)
  /-- MVB_PORT_READ (R340) -/
  | mvbPortRead (n a : Nat) (env : ExecEnv)
  /-- TIME_CONFIG (R127) -/
  | timeConfig (t : TimCfg) (ports : Tbl PtpPort) (env : ExecEnv)
  /-- CLOCK_STEP (R117) -/
  | clockStep (sec ns : Nat) (env : ExecEnv)
  /-- SLEEP_READY (R385) -/
  | sleepReady (on : Bool) (env : ExecEnv)
  /-- SEASONS_CONFIG (R394) -/
  | seasonsConfig (x : SsnCfg) (env : ExecEnv)
  /-- WAKE_REQUEST (R397) -/
  | wakeRequest (env : ExecEnv)
  /-- PAIR_CONFIG (R435) -/
  | pairConfig (x : PairCfg) (env : ExecEnv)
  /-- SWITCHOVER (R425) -/
  | switchover (env : ExecEnv)
  /-- COMPARE_RESUME (R431) -/
  | compareResume (env : ExecEnv)
  /-- KEY_INSTALL (R546) -/
  | keyInstall (b : KeyBlob) (env : ExecEnv)
  /-- KEY_ERASE (R548) -/
  | keyErase (t : KeyTarget) (env : ExecEnv)
  /-- SECY_SET (R252) -/
  | secySet (m : MscCfg) (env : ExecEnv)
  /-- ATTEST (R550) -/
  | attest (nonce : Bytes) (p384 : Bool) (env : ExecEnv)
  /-- UPDATE_BLOCK (R564) -/
  | updateBlock (partner : Bool) (offset : Nat) (data : Bytes) (env : ExecEnv)
  /-- UPDATE_VERIFY (R566) -/
  | updateVerify (env : ExecEnv)
  /-- SOLSTICE_SET (R568) -/
  | solsticeSet (sec ns : Nat) (env : ExecEnv)
  /-- UPDATE_ABORT (R565) -/
  | updateAbort (env : ExecEnv)
  /-- FAULT_READ (R597) -/
  | faultRead (ix : Nat) (env : ExecEnv)
  /-- LATE_RING_READ (R596) -/
  | lateRingRead (n : Nat) (env : ExecEnv)
  /-- LATE_RING_ACK (R596) -/
  | lateRingAck (n : Nat) (env : ExecEnv)
  /-- RESTORE (R586) -/
  | restore (ix : Nat) (env : ExecEnv)
  /-- COUNTER_READ (R477) -/
  | counterRead (block index count : Nat) (env : ExecEnv)
  /-- REG_READ (R478) -/
  | regRead (a n : Nat) (env : ExecEnv)
  /-- REG_WRITE (R478) -/
  | regWrite (a : Nat) (v : Word) (mirror : Bool) (env : ExecEnv)
  /-- TX_DOORBELL (R489) -/
  | txDoorbell (q pi : Nat)
  /-- RX_DOORBELL (R489) -/
  | rxDoorbell (q pi : Nat)
  /-- QUEUE_START (R504) -/
  | queueStart (q : Nat) (tx rx : Bool) (view : HostView)
  /-- QUEUE_STOP (R504) -/
  | queueStop (q : Nat) (tx rx : Bool) (view : HostView)
  /-- QUEUE_RESUME (R504) -/
  | queueResume (q : Nat) (tx rx : Bool) (view : HostView)
  /-- QUEUE_SKIP (R504) -/
  | queueSkip (q : Nat) (tx rx : Bool) (view : HostView)
  /-- INV_CMD (R501) -/
  | invCmd (space scope : Nat)
  /-- TX_FRAME_FETCH (R491) -/
  | txFrameFetch (heads : Tbl TxDesc) (view : HostView)
  /-- RX_FRAME_WRITE (R494) -/
  | rxFrameWrite (view : HostView)
  /-- COMPLETION_ERROR (R502) -/
  | completionError (x : FaultReport)
  /-- FLR (R488) -/
  | flr
  /-- PERST (R488) -/
  | perst
  /-- HIF_LINK_CHANGE (R505) -/
  | hifLinkChange (up : Bool) (speed width : Nat) (bme : Bool)
  /-- IRQ_DELAY_EXPIRY (R496) -/
  | irqDelayExpiry (q : Nat)
  /-- REGISTER_WRITE (R514) -/
  | registerWrite (path : Path) (a : Nat) (whole : Bool) (v : Word) (view : HostView)
  /-- STATUS_CLEAR (R520) -/
  | statusClear (a : Nat) (v : Word)
  /-- ALIAS_WRITE (R518) -/
  | aliasWrite (path : Path) (p o b : Nat) (v : Word)
  /-- EVT_EN_WRITE (R516) -/
  | evtEnWrite (hi : Bool) (v : Word)
  /-- GLB_LOCK_WRITE (R522) -/
  | glbLockWrite (v : Word)
  /-- HASH_KEY_WRITE (R67) -/
  | hashKeyWrite (k : Nat) (v : Word)
  /-- LATE_POP (R596) -/
  | latePop (n : Nat)
  /-- PORST_N_LOW (R608) -/
  | porstNLow
  /-- COLD_START (R559) -/
  | coldStart (e : ColdEnv)
  /-- WARM_RESET (R560) -/
  | warmReset
  /-- SOLSTICE (R569) -/
  | solstice (e : RomEnv)
  /-- SOLSTICE_PAIR_WAIT (R570) -/
  | solsticePairWait (newImages : Bool) (e : RomEnv)
  /-- CONFIRM (R572) -/
  | confirm
  /-- BOOT_WATCHDOG (R574) -/
  | bootWatchdog (e : RomEnv)
  /-- RESTORE_TEST_DONE (R586) -/
  | restoreTestDone (ix : Nat) (pass : Bool)
  /-- JOURNAL_COPY_DONE (R587) -/
  | journalCopyDone (ch : Nat)
  /-- TJ_HIGH (R601) -/
  | tjHigh (t : BitVec 16)
  /-- REFCLK_FAULT (R613) -/
  | refclkFault (ppm : BitVec 16)
  /-- VDD_IN_RANGE (R604) -/
  | vddInRange
  /-- VDD_START_TIMEOUT (R605) -/
  | vddStartTimeout
  /-- PWR_RETRY (R605) -/
  | pwrRetry
  /-- PFC_HOLD_EXPIRY (R80) -/
  | pfcHoldExpiry (p : Nat) (prio : Option Nat)
  /-- CAN_RX_ERROR (R320) -/
  | canRxError (n lec : Nat) (by8 : Bool)
  /-- MASTER_FRAME_RECEIVED (R343) -/
  | masterFrameReceived (n fcode a : Nat) (l : MvbLines)
  /-- STREAM_GATE_EVENT (R155) -/
  | streamGateEvent (g : Nat)
  /-- HOLD_REQUEST (R152) -/
  | holdRequest (p : Nat)
  /-- PDELAY_REQ_SEND (R120) -/
  | pdelayReqSend (p : Nat)
  /-- PDELAY_REQ_RECEIVED (R135) -/
  | pdelayReqReceived (p : Nat)
  /-- SYNC_SEND (R121) -/
  | syncSend (domB : Bool) (p : Nat)
  /-- ANNOUNCE_SEND (R121) -/
  | announceSend (domB : Bool) (p : Nat)
  /-- WRST_N_RISE (R609) -/
  | wrstNRise (e : ColdEnv)
  /-- VBAT_LOSS (R606) -/
  | vbatLoss
  /-- HEALTH_TEST_FAIL (R279) -/
  | healthTestFail
  /-- STANDBY_ALIVE_EDGE (R422) -/
  | standbyAliveEdge
  deriving DecidableEq, Repr

end Sys2Proof
end

