-- ==== Sys2Proof/WellFormed.lean ====
section
/-! DEFINITION. Commands whose operands name something the hardware has: ports 0 to 37 (01 Table ARC-3), CAN channels 0 to 7, MVB channels 0 and 1,
sessions 0 to 3, queues, slots, entries and bits. A command that fails is no event of this block. -/

namespace Sys2Proof
open Sys2Proof.Machine

def wellFormed (i : Instr) : Bool :=
  match i with
  | .partnerCommit _ => true
  | .sleepAcceptanceStop => true
  | .cellAllocate p _ _ _ _ _ _ => decide (p < 38)
  | .pfcRefresh p => decide (p < 25)
  | .headerArbitration => true
  | .pipelineDecision => true
  | .fdbAgeOut fid mac => decide (fid < 4096) && decide (mac < 281474976710656)
  | .linkDown p => hasPage p
  | .linkUp p => hasPage p
  | .flowletMove g fl => decide (g < 64) && decide (fl < 256)
  | .schedulerSelect p => decide (p < 38)
  | .transmitComplete p _ => decide (p < 38)
  | .frameEndReceived _ _ _ _ _ => true
  | .icvVerdict _ _ => true
  | .pfcReceived p x => decide (p < 25) && (match x with | .pfc l => l.all (fun y => decide (y.1 < 8) && decide (y.2 < 65536)) | .pause q => decide (q < 65536))
  | .averageUpdate => true
  | .ageScrub => true
  | .spillWriteDone q => decide (q < 368)
  | .spillRefill q memErr => decide (q < 368) && (match memErr with | some c => decide (c < 2) | none => true)
  | .spillReady => true
  | .keeperTimeWrite => true
  | .syncReceived _ p _ _ => (decide (p < 25) || decide (p = 37))
  | .announceReceived _ p _ _ => (decide (p < 25) || decide (p = 37))
  | .syncReceiptTimeout _ => true
  | .announceReceiptTimeout _ => true
  | .gmHoldExpiry _ => true
  | .revertHoldExpiry => true
  | .pdelayMeasurement p _ => (decide (p < 25) || decide (p = 37))
  | .pdelayFail p => (decide (p < 25) || decide (p = 37))
  | .timSnap _ => true
  | .txtsPop p n => decide (p < 25) && decide (n < 128)
  | .gateEvent p => decide (p < 25)
  | .gclSwitch => true
  | .preemptVerify p _ => decide (p < 25)
  | .admissionRecheck => true
  | .sequenceTest => true
  | .mirrorComplete _ => true
  | .recordComplete _ => true
  | .partnerAck _ => true
  | .replLost => true
  | .markRecord => true
  | .holdExpiry slot => decide (slot < 2048)
  | .recovReset slot => decide (slot < 2048)
  | .memberSilent slot p => decide (slot < 2048) && decide (p < 38)
  | .journalReplay _ _ => true
  | .replicaRecord _ => true
  | .missLookupDone _ memErr => (match memErr with | some c => decide (c < 2) | none => true)
  | .ctScan ix => decide (ix < 8388608)
  | .ctRevalidate => true
  | .fragExpiry => true
  | .stateRebuilt => true
  | .pickupGraceEnd => true
  | .ctMirror _ _ => true
  | .ctResendDone => true
  | .bankCheck _ => true
  | .setupRequest p _ zin zout vid => decide (p < 38) && decide (zin < 16) && decide (zout < 16) && decide (vid < 4096)
  | .setupTimeout _ => true
  | .touch _ _ _ => true
  | .pnCkptWriteDone _ sc _ => decide (sc < 1024)
  | .eraseAbort => true
  | .mkaPdu cak _ => decide (cak < 64)
  | .entropyTestDone _ => true
  | .drbgReseed => true
  | .tamperDetect _ => true
  | .helloReceived p _ _ => decide (p < 25)
  | .topologyReceived _ _ => true
  | .helloSend p => decide (p < 2)
  | .topologySend p => decide (p < 2)
  | .neighbourLost p => decide (p < 2)
  | .topoStableExpiry => true
  | .routeCommit _ _ => true
  | .bypassSettleExpiry => true
  | .bypassWd => true
  | .topoInhibit _ => true
  | .bypassCommand _ => true
  | .cxTxreq n _ => decide (n < 8)
  | .cxTxcancel n _ => decide (n < 8)
  | .cxTxack n _ => decide (n < 8)
  | .cxRxack n _ => decide (n < 8)
  | .canFrameReceived n _ => decide (n < 8)
  | .canAttemptStart n => decide (n < 8)
  | .canAttemptEnd n _ _ => decide (n < 8)
  | .busOffEnd n => decide (n < 8)
  | .canWakeDetect n => decide (n < 8)
  | .mvbSlaveFrame n a _ _ => decide (n < 2) && decide (a < 4096)
  | .mvbSourceWrite n a _ => decide (n < 2) && decide (a < 4096)
  | .mvbAgeTick n => decide (n < 2)
  | .mvbBasicPeriod n => decide (n < 2)
  | .mvbReplyTimeout n a => decide (n < 2) && decide (a < 4096)
  | .mvbForeignMaster n => decide (n < 2)
  | .masterSilenceExpiry n => decide (n < 2)
  | .mastershipOffer n _ => decide (n < 2)
  | .mvbOfferReceived n => decide (n < 2)
  | .deviceScan n a _ => decide (n < 2) && decide (a < 4096)
  | .gwEgressArrival p => decide (26 ≤ p) && decide (p < 36)
  | .trdpReceived p ingress _ => decide (p < 38) && decide (ingress < 38)
  | .acfReceived p ingress _ _ => decide (p < 38) && decide (ingress < 38)
  | .cyclicEmit _ => true
  | .subStale _ => true
  | .gwDeadline _ => true
  | .pubMirrorDone _ => true
  | .gwStart => true
  | .wakeHoldExpiry => true
  | .roundStart => true
  | .eqxConsent _ => true
  | .eqxCommit _ => true
  | .eqxAck _ => true
  | .eqxRefuse _ => true
  | .eqxAbort _ => true
  | .eqxVeto _ => true
  | .eqxKeepalive _ => true
  | .hopTimeout => true
  | .tokenTimeout => true
  | .abortRepeat => true
  | .consentExpired => true
  | .kaSend => true
  | .kaSilenceExpiry => true
  | .idleReturn => true
  | .commitTimeReached => true
  | .powerDownStep => true
  | .wakeIn _ => true
  | .wakeAlarm => true
  | .wakePulseEnd => true
  | .powerUpStep _ => true
  | .springImageLoaded _ => true
  | .springPaths => true
  | .renioftRunning => true
  | .blobCommit => true
  | .summerReached => true
  | .vaonBrownout => true
  | .vaonRise => true
  | .leaseArm => true
  | .leaseRenewalSend => true
  | .activeLeaseEnd => true
  | .leaseRenewalReceived _ => true
  | .standbyLeaseExpiry => true
  | .yieldReceived => true
  | .electionWindowExpiry => true
  | .partnerLost => true
  | .pathDown _ => true
  | .wyusinSegment x => x.formed && decide (x.lane < 4)
  | .creditLimit tc _ => decide (tc < 8)
  | .creditSend => true
  | .digestWindowClose => true
  | .digestCompare _ _ _ => true
  | .mismatchNotice => true
  | .pairSelftestDone _ => true
  | .partnerVerdict _ => true
  | .takeoverDone => true
  | .partnerReady => true
  | .commitWaitExpiry => true
  | .checkerWindowClose by_ main checker _ lag => windowOk by_ main && checker.all txnOk && decide (checker.length ≤ 256 ∧ lag ≤ 4096)
  | .checkerTimeout main => main.all txnOk && decide (main.length ≤ 512)
  | .tcmError _ _ main => main.all txnOk && decide (main.length ≤ 512)
  | .ccrSelftestDone _ _ _ _ => true
  | .controlRestartDone => true
  | .checkerReloadDone => true
  | .compTestSlot _ => true
  | .sandboxFault => true
  | .debugAction _ _ => true
  | .debugAttach => true
  | .gailalumKat _ => true
  | .gailalumFault => true
  | .ncpPacket _ _ _ => true
  | .commandAccepted s => decide (s < 4)
  | .commandExecute s _ => decide (s < 4)
  | .interimReply s => decide (s < 4)
  | .gapTimeExpiry s => decide (s < 4)
  | .commandTimeout s => decide (s < 4)
  | .journalReplayed _ => true
  | .cmdDoorbell s pi _ => decide (s < 4) && decide (pi < 256)
  | .rplCiWrite s ci _ => decide (s < 4) && decide (ci < 256)
  | .mailboxBaseWrite s _ _ _ => decide (s < 4)
  | .sessionOpen s _ _ _ => decide (s < 4)
  | .sessionClose s => decide (s < 4)
  | .sessionAttach s _ => decide (s < 4)
  | .sysReset _ _ => true
  | .funcReset _ _ => true
  | .sysInfo _ => true
  | .configLoad _ _ => true
  | .portConfig _ _ _ => true
  | .portEnable _ _ _ _ => true
  | .lgRebalance _ _ _ => true
  | .portStatus _ _ => true
  | .streamSet _ _ _ => true
  | .streamRemove _ _ => true
  | .gclSet _ _ _ _ => true
  | .admitDryRun _ _ _ => true
  | .psfpUnblock _ _ => true
  | .shaperSet _ _ _ _ _ => true
  | .zoneSet _ _ _ _ _ => true
  | .rulesLoad _ _ _ => true
  | .profileSet _ _ _ => true
  | .ctRead _ _ => true
  | .gwConfig _ _ => true
  | .canConfig _ _ _ => true
  | .mvbConfig _ _ _ => true
  | .gwSend _ _ _ _ _ => true
  | .canRecover _ _ => true
  | .mvbPortRead _ _ _ => true
  | .timeConfig _ _ _ => true
  | .clockStep _ _ _ => true
  | .sleepReady _ _ => true
  | .seasonsConfig _ _ => true
  | .wakeRequest _ => true
  | .pairConfig _ _ => true
  | .switchover _ => true
  | .compareResume _ => true
  | .keyInstall _ _ => true
  | .keyErase _ _ => true
  | .secySet _ _ => true
  | .attest _ _ _ => true
  | .updateBlock _ _ _ _ => true
  | .updateVerify _ => true
  | .solsticeSet _ _ _ => true
  | .updateAbort _ => true
  | .faultRead _ _ => true
  | .lateRingRead _ _ => true
  | .lateRingAck _ _ => true
  | .restore _ _ => true
  | .counterRead _ _ _ _ => true
  | .regRead _ _ _ => true
  | .regWrite _ _ _ _ => true
  | .txDoorbell q pi => decide (q < 64) && decide (pi < 4096)
  | .rxDoorbell q pi => decide (q < 64) && decide (pi < 4096)
  | .queueStart q _ _ _ => decide (q < 68)
  | .queueStop q _ _ _ => decide (q < 68)
  | .queueResume q _ _ _ => decide (q < 68)
  | .queueSkip q _ _ _ => decide (q < 68)
  | .invCmd space scope => decide (space < 128) && decide (scope < 4)
  | .txFrameFetch _ _ => true
  | .rxFrameWrite _ => true
  | .completionError x => x.ok
  | .flr => true
  | .perst => true
  | .hifLinkChange _ speed width _ => decide (speed < 8) && decide (width ≤ 4)
  | .irqDelayExpiry q => decide (q < 64)
  | .registerWrite _ _ _ _ _ => true
  | .statusClear a _ => isStatusReg a
  | .aliasWrite _ p o b _ => decide (p < 38) && decide (o < 4096) && decide (o % 4 = 0) && decide (b < 32)
  | .evtEnWrite _ _ => true
  | .glbLockWrite _ => true
  | .hashKeyWrite k _ => decide (k < 10)
  | .latePop n => decide (n < 512)
  | .porstNLow => true
  | .coldStart _ => true
  | .warmReset => true
  | .solstice _ => true
  | .solsticePairWait _ _ => true
  | .confirm => true
  | .bootWatchdog _ => true
  | .restoreTestDone ix _ => ledgerValid ix
  | .journalCopyDone ch => decide (ch < 2)
  | .tjHigh _ => true
  | .refclkFault _ => true
  | .vddInRange => true
  | .vddStartTimeout => true
  | .pwrRetry => true
  | .pfcHoldExpiry p _ => decide (p < 25)
  | .canRxError n lec _ => decide (n < 8) && decide (lec < 16)
  | .masterFrameReceived n fcode a _ => decide (n < 2) && decide (fcode < 16) && decide (a < 4096)
  | .streamGateEvent _ => true
  | .holdRequest p => decide (p < 25)
  | .pdelayReqSend p => (decide (p < 25) || decide (p = 37))
  | .pdelayReqReceived p => (decide (p < 25) || decide (p = 37))
  | .syncSend _ p => (decide (p < 25) || decide (p = 37))
  | .announceSend _ p => (decide (p < 25) || decide (p = 37))
  | .wrstNRise _ => true
  | .vbatLoss => true
  | .healthTestFail => true
  | .standbyAliveEdge => true

end Sys2Proof
end

