-- ==== Sys2Proof/Machine/State.lean ====
section
/-! DEFINITION. The state of the block: the device, and the commands that wait, first in, first out. The reasons a step can stop. -/

namespace Sys2Proof.Machine

structure State where
  dev : Device := {}
  /-- commands that wait, oldest first -/
  pending : List Instr := []
  deriving DecidableEq, Repr

/-- Why a step faults. -/
inductive Fault where
  /-- raised by a command whose operands name something the hardware does not have (`wellFormed`); safe: the hardware has no such event -/
  | illFormed
  deriving DecidableEq, Repr

/-- Why a step is refused. -/
inductive Refusal where
  /-- raised for a command that has no meaning yet; safe. No arm of `exec` raises it -/
  | notModelled (mnemonic : String)
  deriving DecidableEq, Repr

/-- The machine right after a cold reset by PORST_N (22 R608): every unit at its cold values, nothing pending. (log entry 5: DESIGN CHOICE) -/
def State.reset : State := {}

end Sys2Proof.Machine
end

