-- ==== Sys2Proof/Machine/Run.lean ====
section
/-! DEFINITION. How a meaning over the device becomes an outcome: a command whose operands are well formed has its effect on everything but the
queue, any other faults. -/

namespace Sys2Proof.Machine

/-- `ok` is the command's own clause of `wellFormed`. (log entry 1: DESIGN CHOICE, 2: DESIGN CHOICE) -/
def run (ok : Bool) (s : State) (f : Device → Device) : Host.Outcome State Fault Refusal :=
  if ok then .next { s with dev := f s.dev } else .fault .illFormed

end Sys2Proof.Machine
end

