-- ==== Sys2Proof/Machine/ExecAssured.lean ====
section
/-! DEFINITION. The meanings of the commands of the Assured delivery (06). -/

namespace Sys2Proof.Machine

/-- SEQUENCE_TEST (R193). -/
def execSequenceTest (s_ : State) : Host.Outcome State Fault Refusal :=
  run true s_ (onMain sequenceTest)

/-- MIRROR_COMPLETE (R182). -/
def execMirrorComplete (no : Nat) (s_ : State) : Host.Outcome State Fault Refusal :=
  run true s_ (onMain (mirrorComplete no))

/-- RECORD_COMPLETE (R186). -/
def execRecordComplete (no : Nat) (s_ : State) : Host.Outcome State Fault Refusal :=
  run true s_ (onMain (recordComplete no))

/-- PARTNER_ACK (R186). -/
def execPartnerAck (no : Nat) (s_ : State) : Host.Outcome State Fault Refusal :=
  run true s_ (onMain (partnerAck no))

/-- REPL_LOST (R187). -/
def execReplLost (s_ : State) : Host.Outcome State Fault Refusal :=
  run true s_ (onMain (fun d => reviewSession3 (replLost d)))

/-- MARK_RECORD (R189). -/
def execMarkRecord (s_ : State) : Host.Outcome State Fault Refusal :=
  run true s_ (onMain markRecord)

/-- HOLD_EXPIRY (R194). -/
def execHoldExpiry (slot : Nat) (s_ : State) : Host.Outcome State Fault Refusal :=
  run (decide (slot < 2048)) s_ (onMain (holdExpiry slot))

/-- RECOV_RESET (R195). -/
def execRecovReset (slot : Nat) (s_ : State) : Host.Outcome State Fault Refusal :=
  run (decide (slot < 2048)) s_ (onMain (recovReset slot))

/-- MEMBER_SILENT (R196). -/
def execMemberSilent (slot p : Nat) (s_ : State) : Host.Outcome State Fault Refusal :=
  run (decide (slot < 2048) && decide (p < 38)) s_ (onMain (memberSilent slot p))

/-- JOURNAL_REPLAY (R198). -/
def execJournalReplay (bad0 bad1 : List Nat) (s_ : State) : Host.Outcome State Fault Refusal :=
  run true s_ (onMain (journalReplay bad0 bad1))

/-- REPLICA_RECORD (R201). -/
def execReplicaRecord (x : JRec) (s_ : State) : Host.Outcome State Fault Refusal :=
  run true s_ (onMain (replicaRecord x))

end Sys2Proof.Machine
end

