-- ==== Sys2Proof/Machine/ExecBoot.lean ====
section
/-! DEFINITION. The meanings of the commands of the resets, update and clocks (20 to 22). -/

namespace Sys2Proof.Machine

/-- PORST_N_LOW (R608). -/
def execPorstNLow (s_ : State) : Host.Outcome State Fault Refusal :=
  run true s_ porstLow

/-- COLD_START (R559). -/
def execColdStart (e : ColdEnv) (s_ : State) : Host.Outcome State Fault Refusal :=
  run true s_ (coldStart e)

/-- WARM_RESET (R560). -/
def execWarmReset (s_ : State) : Host.Outcome State Fault Refusal :=
  run true s_ warmPin

/-- SOLSTICE (R569). -/
def execSolstice (e : RomEnv) (s_ : State) : Host.Outcome State Fault Refusal :=
  run true s_ (onMain (solstice e))

/-- SOLSTICE_PAIR_WAIT (R570). -/
def execSolsticePairWait (newImages : Bool) (e : RomEnv) (s_ : State) : Host.Outcome State Fault Refusal :=
  run true s_ (onMain (solsticePairWait newImages e))

/-- CONFIRM (R572). -/
def execConfirm (s_ : State) : Host.Outcome State Fault Refusal :=
  run true s_ (onMain confirm)

/-- BOOT_WATCHDOG (R574). -/
def execBootWatchdog (e : RomEnv) (s_ : State) : Host.Outcome State Fault Refusal :=
  run true s_ (onMain (bootWatchdog e))

/-- RESTORE_TEST_DONE (R586). -/
def execRestoreTestDone (ix : Nat) (pass : Bool) (s_ : State) : Host.Outcome State Fault Refusal :=
  run (ledgerValid ix) s_ (onMain (restoreTestDone ix pass))

/-- JOURNAL_COPY_DONE (R587). -/
def execJournalCopyDone (ch : Nat) (s_ : State) : Host.Outcome State Fault Refusal :=
  run (decide (ch < 2)) s_ (onMain (journalCopyDone ch))

/-- TJ_HIGH (R601). -/
def execTjHigh (t : BitVec 16) (s_ : State) : Host.Outcome State Fault Refusal :=
  run true s_ (onMain (tjReading t))

/-- REFCLK_FAULT (R613). -/
def execRefclkFault (ppm : BitVec 16) (s_ : State) : Host.Outcome State Fault Refusal :=
  run true s_ (onMain (refclkReading ppm))

/-- VDD_IN_RANGE (R604). -/
def execVddInRange (s_ : State) : Host.Outcome State Fault Refusal :=
  run true s_ vddInRange

/-- VDD_START_TIMEOUT (R605). -/
def execVddStartTimeout (s_ : State) : Host.Outcome State Fault Refusal :=
  run true s_ vddStartTimeout

/-- PWR_RETRY (R605). -/
def execPwrRetry (s_ : State) : Host.Outcome State Fault Refusal :=
  run true s_ pwrRetry

/-- WRST_N_RISE (R609). -/
def execWrstNRise (e : ColdEnv) (s_ : State) : Host.Outcome State Fault Refusal :=
  run true s_ (wrstRise e)

/-- VBAT_LOSS (R606). -/
def execVbatLoss (s_ : State) : Host.Outcome State Fault Refusal :=
  run true s_ vbatLoss

end Sys2Proof.Machine
end

