-- ==== Sys2Proof/Machine/ExecCan.lean ====
section
/-! DEFINITION. The meanings of the commands of the CAN (10). -/

namespace Sys2Proof.Machine

/-- CX_TXREQ (R315). -/
def execCxTxreq (n : Nat) (mask : BitVec 64) (s_ : State) : Host.Outcome State Fault Refusal :=
  run (decide (n < 8)) s_ (onMain (cxTxReq n mask))

/-- CX_TXCANCEL (R315). -/
def execCxTxcancel (n : Nat) (mask : BitVec 64) (s_ : State) : Host.Outcome State Fault Refusal :=
  run (decide (n < 8)) s_ (onMain (cxTxCancel n mask))

/-- CX_TXACK (R315). -/
def execCxTxack (n : Nat) (mask : BitVec 64) (s_ : State) : Host.Outcome State Fault Refusal :=
  run (decide (n < 8)) s_ (onMain (cxTxAck n mask))

/-- CX_RXACK (R317). -/
def execCxRxack (n count : Nat) (s_ : State) : Host.Outcome State Fault Refusal :=
  run (decide (n < 8)) s_ (onMain (cxRxAck n count))

/-- CAN_FRAME_RECEIVED (R317). -/
def execCanFrameReceived (n : Nat) (f : CanFrame) (s_ : State) : Host.Outcome State Fault Refusal :=
  run (decide (n < 8)) s_ (onMain (canFrameReceived n f))

/-- CAN_ATTEMPT_START (R318). -/
def execCanAttemptStart (n : Nat) (s_ : State) : Host.Outcome State Fault Refusal :=
  run (decide (n < 8)) s_ (onMain (canAttemptStart n))

/-- CAN_ATTEMPT_END (R318). -/
def execCanAttemptEnd (n : Nat) (x : CanEnd) (delay : Option Nat) (s_ : State) : Host.Outcome State Fault Refusal :=
  run (decide (n < 8)) s_ (onMain (canAttemptEnd n x delay))

/-- BUS_OFF_END (R321). -/
def execBusOffEnd (n : Nat) (s_ : State) : Host.Outcome State Fault Refusal :=
  run (decide (n < 8)) s_ (onMain (canBusOffEnd n))

/-- CAN_WAKE_DETECT (R331). -/
def execCanWakeDetect (n : Nat) (s_ : State) : Host.Outcome State Fault Refusal :=
  run (decide (n < 8)) s_ (canWakeDetect n)

/-- CAN_RX_ERROR (R320). -/
def execCanRxError (n lec : Nat) (by8 : Bool) (s_ : State) : Host.Outcome State Fault Refusal :=
  run (decide (n < 8) && decide (lec < 16)) s_ (onMain (canRxError n lec by8))

end Sys2Proof.Machine
end

