-- ==== Sys2Proof/Machine/ExecControl.lean ====
section
/-! DEFINITION. The meanings of the commands of the control complex (15). -/

namespace Sys2Proof.Machine

/-- CHECKER_WINDOW_CLOSE (R445). -/
def execCheckerWindowClose (by_ : CloseBy) (main checker : List CcrTxn) (parity : Bool) (lag : Nat) (s_ : State) : Host.Outcome State Fault Refusal :=
  run (windowOk by_ main && checker.all txnOk && decide (checker.length ≤ 256 ∧ lag ≤ 4096)) s_ (onMain (checkerWindowClose by_ main checker parity
    lag))

/-- CHECKER_TIMEOUT (R446). -/
def execCheckerTimeout (main : List CcrTxn) (s_ : State) : Host.Outcome State Fault Refusal :=
  run (main.all txnOk && decide (main.length ≤ 512)) s_ (onMain (checkerTimeout main))

/-- TCM_ERROR (R439). -/
def execTcmError (core1 corrected : Bool) (main : List CcrTxn) (s_ : State) : Host.Outcome State Fault Refusal :=
  run (main.all txnOk && decide (main.length ≤ 512)) s_ (onMain (tcmError core1 corrected main))

/-- CCR_SELFTEST_DONE (R447). -/
def execCcrSelftestDone (p0 p1 pd pc : Bool) (s_ : State) : Host.Outcome State Fault Refusal :=
  run true s_ (onMain (ccrSelftestDone p0 p1 pd pc))

/-- CONTROL_RESTART_DONE (R448). -/
def execControlRestartDone (s_ : State) : Host.Outcome State Fault Refusal :=
  run true s_ (onMain controlRestartDone)

/-- CHECKER_RELOAD_DONE (R449). -/
def execCheckerReloadDone (s_ : State) : Host.Outcome State Fault Refusal :=
  run true s_ (onMain checkerReloadDone)

/-- COMP_TEST_SLOT (R451). -/
def execCompTestSlot (ok : Bool) (s_ : State) : Host.Outcome State Fault Refusal :=
  run true s_ (onMain (compTestSlot ok))

/-- SANDBOX_FAULT (R457). -/
def execSandboxFault (s_ : State) : Host.Outcome State Fault Refusal :=
  run true s_ (onMain sandboxFault)

/-- DEBUG_ACTION (R458). -/
def execDebugAction (core1 : Bool) (a : DebugAct) (s_ : State) : Host.Outcome State Fault Refusal :=
  run true s_ (onMain (debugAction core1 a))

/-- DEBUG_ATTACH (R458). -/
def execDebugAttach (s_ : State) : Host.Outcome State Fault Refusal :=
  run true s_ (onMain debugAttach)

/-- GAILALUM_KAT (R459). -/
def execGailalumKat (ok : Bool) (s_ : State) : Host.Outcome State Fault Refusal :=
  run true s_ (onMain (gailalumKat ok))

/-- GAILALUM_FAULT (R459). -/
def execGailalumFault (s_ : State) : Host.Outcome State Fault Refusal :=
  run true s_ (onMain gailalumFault)

end Sys2Proof.Machine
end

