-- ==== Sys2Proof/Machine/ExecFirewall.lean ====
section
/-! DEFINITION. The meanings of the commands of the firewall (07). -/

namespace Sys2Proof.Machine

/-- MISS_LOOKUP_DONE (R232). -/
def execMissLookupDone (id : Nat) (memErr : Option Nat) (s_ : State) : Host.Outcome State Fault Refusal :=
  run (match memErr with | some c => decide (c < 2) | none => true) s_ (onMain (missLookupDone id memErr))

/-- CT_SCAN (R226). -/
def execCtScan (ix : Nat) (s_ : State) : Host.Outcome State Fault Refusal :=
  run (decide (ix < 8388608)) s_ (onMain (ctScan ix))

/-- CT_REVALIDATE (R215). -/
def execCtRevalidate (s_ : State) : Host.Outcome State Fault Refusal :=
  run true s_ (onMain ctRevalidate)

/-- FRAG_EXPIRY (R228). -/
def execFragExpiry (s_ : State) : Host.Outcome State Fault Refusal :=
  run true s_ (onMain fragExpiry)

/-- STATE_REBUILT (R239). -/
def execStateRebuilt (s_ : State) : Host.Outcome State Fault Refusal :=
  run true s_ (onMain stateRebuilt)

/-- PICKUP_GRACE_END (R227). -/
def execPickupGraceEnd (s_ : State) : Host.Outcome State Fault Refusal :=
  run true s_ (onMain pickupGraceEnd)

/-- CT_MIRROR (R241). -/
def execCtMirror (op : MirrorOp) (e : Ct) (s_ : State) : Host.Outcome State Fault Refusal :=
  run true s_ (onMain (ctMirror op e))

/-- CT_RESEND_DONE (R243). -/
def execCtResendDone (s_ : State) : Host.Outcome State Fault Refusal :=
  run true s_ (onMain ctResendDone)

/-- BANK_CHECK (R244). -/
def execBankCheck (ok : Bool) (s_ : State) : Host.Outcome State Fault Refusal :=
  run true s_ (onMain (bankCheck ok))

/-- SETUP_REQUEST (R420). -/
def execSetupRequest (p : Nat) (hdr : Bytes) (zin zout vid : Nat) (s_ : State) : Host.Outcome State Fault Refusal :=
  run (decide (p < 38) && decide (zin < 16) && decide (zout < 16) && decide (vid < 4096)) s_ (onMain (setupRequest p hdr zin zout vid))

/-- SETUP_TIMEOUT (R420). -/
def execSetupTimeout (id : Nat) (s_ : State) : Host.Outcome State Fault Refusal :=
  run true s_ (onMain (setupTimeout id))

/-- TOUCH (R420). -/
def execTouch (key : Bytes) (state : CtPhase) (advance : Bool) (s_ : State) : Host.Outcome State Fault Refusal :=
  run true s_ (onMain (touch key state advance))

end Sys2Proof.Machine
end

