-- ==== Sys2Proof/Machine/ExecFrame.lean ====
section
/-! DEFINITION. The meanings of the commands of the frame path and buffers (02, 03). -/

namespace Sys2Proof.Machine

/-- CELL_ALLOCATE (R69). -/
def execCellAllocate (p id : Nat) (chunk : Bytes) (express : Bool) (tag : Option SecTag) (sub : Nat) (txId : Option (BitVec 16)) (s_ : State) :
    Host.Outcome State Fault Refusal :=
  run (decide (p < 38)) s_ (onMain (cellAllocate p id chunk express tag sub txId))

/-- PFC_REFRESH (R77). -/
def execPfcRefresh (p : Nat) (s_ : State) : Host.Outcome State Fault Refusal :=
  run (decide (p < 25)) s_ (onMain (pfcRefresh p))

/-- HEADER_ARBITRATION (R36). -/
def execHeaderArbitration (s_ : State) : Host.Outcome State Fault Refusal :=
  run true s_ (onMain headerArbitration)

/-- PIPELINE_DECISION (R55). -/
def execPipelineDecision (s_ : State) : Host.Outcome State Fault Refusal :=
  run true s_ (onMain pipelineDecision)

/-- FDB_AGE_OUT (R47). -/
def execFdbAgeOut (fid mac : Nat) (s_ : State) : Host.Outcome State Fault Refusal :=
  run (decide (fid < 4096) && decide (mac < 281474976710656)) s_ (onMain (fdbAgeOut fid mac))

/-- LINK_DOWN (R98). -/
def execLinkDown (p : Nat) (s_ : State) : Host.Outcome State Fault Refusal :=
  run (hasPage p) s_ (onMain (linkDownStep p))

/-- LINK_UP (R525). -/
def execLinkUp (p : Nat) (s_ : State) : Host.Outcome State Fault Refusal :=
  run (hasPage p) s_ (onMain (linkUpStep p))

/-- FLOWLET_MOVE (R54). -/
def execFlowletMove (g fl : Nat) (s_ : State) : Host.Outcome State Fault Refusal :=
  run (decide (g < 64) && decide (fl < 256)) s_ (onMain (flowletMove g fl))

/-- SCHEDULER_SELECT (R88). -/
def execSchedulerSelect (p : Nat) (s_ : State) : Host.Outcome State Fault Refusal :=
  run (decide (p < 38)) s_ (onMain (selectOn p))

/-- TRANSMIT_COMPLETE (R130). -/
def execTransmitComplete (p sub : Nat) (s_ : State) : Host.Outcome State Fault Refusal :=
  run (decide (p < 38)) s_ (onMain (transmitComplete p sub))

/-- FRAME_END_RECEIVED (R58). -/
def execFrameEndReceived (id : Nat) (fcsOk codeErr : Bool) (frags : Nat) (assyErr : Bool) (s_ : State) : Host.Outcome State Fault Refusal :=
  run true s_ (onMain (frameEndReceived id fcsOk codeErr frags assyErr))

/-- ICV_VERDICT (R260). -/
def execIcvVerdict (id : Nat) (ok : Bool) (s_ : State) : Host.Outcome State Fault Refusal :=
  run true s_ (onMain (icvVerdict id ok))

/-- PFC_RECEIVED (R80). -/
def execPfcReceived (p : Nat) (x : FlowCtl) (s_ : State) : Host.Outcome State Fault Refusal :=
  run (decide (p < 25) && (match x with | .pfc l => l.all (fun y => decide (y.1 < 8) && decide (y.2 < 65536)) | .pause q => decide (q < 65536))) s_
    (onMain (pfcReceived p x))

/-- AVERAGE_UPDATE (R85). -/
def execAverageUpdate (s_ : State) : Host.Outcome State Fault Refusal :=
  run true s_ (onMain averageUpdate)

/-- AGE_SCRUB (R89). -/
def execAgeScrub (s_ : State) : Host.Outcome State Fault Refusal :=
  run true s_ (onMain ageScrub)

/-- SPILL_WRITE_DONE (R92). -/
def execSpillWriteDone (q : Nat) (s_ : State) : Host.Outcome State Fault Refusal :=
  run (decide (q < 368)) s_ (onMain (spillWriteDone q))

/-- SPILL_REFILL (R95). -/
def execSpillRefill (q : Nat) (memErr : Option Nat) (s_ : State) : Host.Outcome State Fault Refusal :=
  run (decide (q < 368) && (match memErr with | some c => decide (c < 2) | none => true)) s_ (onMain (spillRefillRow q memErr))

/-- SPILL_READY (R99). -/
def execSpillReady (s_ : State) : Host.Outcome State Fault Refusal :=
  run true s_ (onMain spillReadyRow)

/-- PFC_HOLD_EXPIRY (R80). -/
def execPfcHoldExpiry (p : Nat) (prio : Option Nat) (s_ : State) : Host.Outcome State Fault Refusal :=
  run (decide (p < 25)) s_ (onMain (pfcHoldExpiry p prio))

end Sys2Proof.Machine
end

