-- ==== Sys2Proof/Machine/ExecGateway.lean ====
section
/-! DEFINITION. The meanings of the commands of the gateway (12). -/

namespace Sys2Proof.Machine

/-- GW_EGRESS_ARRIVAL (R361). -/
def execGwEgressArrival (p : Nat) (s_ : State) : Host.Outcome State Fault Refusal :=
  run (decide (26 ≤ p) && decide (p < 36)) s_ (onMain (gwEgressArrival p))

/-- TRDP_RECEIVED (R370). -/
def execTrdpReceived (p ingress : Nat) (t : Telegram) (s_ : State) : Host.Outcome State Fault Refusal :=
  run (decide (p < 38) && decide (ingress < 38)) s_ (onMain (trdpReceived p ingress t))

/-- ACF_RECEIVED (R369). -/
def execAcfReceived (p ingress : Nat) (stream : BitVec 64) (ms : List AcfMsg) (s_ : State) : Host.Outcome State Fault Refusal :=
  run (decide (p < 38) && decide (ingress < 38)) s_ (onMain (acfReceived p ingress stream ms))

/-- CYCLIC_EMIT (R368). -/
def execCyclicEmit (n : Nat) (s_ : State) : Host.Outcome State Fault Refusal :=
  run true s_ (onMain (cyclicEmit n))

/-- SUB_STALE (R369). -/
def execSubStale (n : Nat) (s_ : State) : Host.Outcome State Fault Refusal :=
  run true s_ (onMain (subStale n))

/-- GW_DEADLINE (R374). -/
def execGwDeadline (w : GwPlace) (s_ : State) : Host.Outcome State Fault Refusal :=
  run true s_ (onMain (gwDeadline w))

/-- PUB_MIRROR_DONE (R371). -/
def execPubMirrorDone (n : Nat) (s_ : State) : Host.Outcome State Fault Refusal :=
  run true s_ (onMain (pubMirrorRow n))

/-- GW_START (R360). -/
def execGwStart (s_ : State) : Host.Outcome State Fault Refusal :=
  run true s_ (onMain gwStart)

end Sys2Proof.Machine
end

