-- ==== Sys2Proof/Machine/ExecHost.lean ====
section
/-! DEFINITION. The meanings of the commands of the host interface and registers (17, 18). -/

namespace Sys2Proof.Machine

/-- TX_DOORBELL (R489). -/
def execTxDoorbell (q pi : Nat) (s_ : State) : Host.Outcome State Fault Refusal :=
  run (decide (q < 64) && decide (pi < 4096)) s_ (onBus (txDoorbell q pi))

/-- RX_DOORBELL (R489). -/
def execRxDoorbell (q pi : Nat) (s_ : State) : Host.Outcome State Fault Refusal :=
  run (decide (q < 64) && decide (pi < 4096)) s_ (onBus (rxDoorbell q pi))

/-- QUEUE_START (R504). -/
def execQueueStart (q : Nat) (tx rx : Bool) (view : HostView) (s_ : State) : Host.Outcome State Fault Refusal :=
  run (decide (q < 68)) s_ (onBus (queueStart q tx rx view))

/-- QUEUE_STOP (R504). -/
def execQueueStop (q : Nat) (tx rx : Bool) (view : HostView) (s_ : State) : Host.Outcome State Fault Refusal :=
  run (decide (q < 68)) s_ (onBus (queueStop q tx rx view))

/-- QUEUE_RESUME (R504). -/
def execQueueResume (q : Nat) (tx rx : Bool) (view : HostView) (s_ : State) : Host.Outcome State Fault Refusal :=
  run (decide (q < 68)) s_ (onBus (queueResume q tx rx view))

/-- QUEUE_SKIP (R504). -/
def execQueueSkip (q : Nat) (tx rx : Bool) (view : HostView) (s_ : State) : Host.Outcome State Fault Refusal :=
  run (decide (q < 68)) s_ (onBus (queueSkip q tx rx view))

/-- INV_CMD (R501). -/
def execInvCmd (space scope : Nat) (s_ : State) : Host.Outcome State Fault Refusal :=
  run (decide (space < 128) && decide (scope < 4)) s_ (onBus (invCmd space scope))

/-- TX_FRAME_FETCH (R491). -/
def execTxFrameFetch (heads : Tbl TxDesc) (view : HostView) (s_ : State) : Host.Outcome State Fault Refusal :=
  run true s_ (onMain (txFrameFetch heads view))

/-- RX_FRAME_WRITE (R494). -/
def execRxFrameWrite (view : HostView) (s_ : State) : Host.Outcome State Fault Refusal :=
  run true s_ (onMain (rxFrameWrite view))

/-- COMPLETION_ERROR (R502). -/
def execCompletionError (x : FaultReport) (s_ : State) : Host.Outcome State Fault Refusal :=
  run x.ok s_ (onMain (faultReport x))

/-- FLR (R488). -/
def execFlr (s_ : State) : Host.Outcome State Fault Refusal :=
  run true s_ (onMain flr)

/-- PERST (R488). -/
def execPerst (s_ : State) : Host.Outcome State Fault Refusal :=
  run true s_ (onMain perst)

/-- HIF_LINK_CHANGE (R505). -/
def execHifLinkChange (up : Bool) (speed width : Nat) (bme : Bool) (s_ : State) : Host.Outcome State Fault Refusal :=
  run (decide (speed < 8) && decide (width ≤ 4)) s_ (onMain (hifLinkChange up speed width bme))

/-- IRQ_DELAY_EXPIRY (R496). -/
def execIrqDelayExpiry (q : Nat) (s_ : State) : Host.Outcome State Fault Refusal :=
  run (decide (q < 64)) s_ (onMain (irqDelayExpiry q))

/-- REGISTER_WRITE (R514). -/
def execRegisterWrite (path : Path) (a : Nat) (whole : Bool) (v : Word) (view : HostView) (s_ : State) : Host.Outcome State Fault Refusal :=
  run true s_ (registerWrite path a whole v view)

/-- STATUS_CLEAR (R520). -/
def execStatusClear (a : Nat) (v : Word) (s_ : State) : Host.Outcome State Fault Refusal :=
  run (isStatusReg a) s_ (onBus (statusClear a v))

/-- ALIAS_WRITE (R518). -/
def execAliasWrite (path : Path) (p o b : Nat) (v : Word) (s_ : State) : Host.Outcome State Fault Refusal :=
  run (decide (p < 38) && decide (o < 4096) && decide (o % 4 = 0) && decide (b < 32)) s_ (aliasWrite path p o b v)

/-- EVT_EN_WRITE (R516). -/
def execEvtEnWrite (hi : Bool) (v : Word) (s_ : State) : Host.Outcome State Fault Refusal :=
  run true s_ (onBus (evtEnWrite hi v))

/-- GLB_LOCK_WRITE (R522). -/
def execGlbLockWrite (v : Word) (s_ : State) : Host.Outcome State Fault Refusal :=
  run true s_ (onBus (glbLockWrite v))

/-- HASH_KEY_WRITE (R67). -/
def execHashKeyWrite (k : Nat) (v : Word) (s_ : State) : Host.Outcome State Fault Refusal :=
  run (decide (k < 10)) s_ (onBus (hashKeyWrite k v))

/-- LATE_POP (R596). -/
def execLatePop (n : Nat) (s_ : State) : Host.Outcome State Fault Refusal :=
  run (decide (n < 512)) s_ (onBus (latePop n))

end Sys2Proof.Machine
end

