-- ==== Sys2Proof/Machine/ExecMacsec.lean ====
section
/-! DEFINITION. The meanings of the commands of the MACsec, keys and tamper (08, 19). -/

namespace Sys2Proof.Machine

/-- PN_CKPT_WRITE_DONE (R274). -/
def execPnCkptWriteDone (tx : Bool) (sc : Nat) (an : BitVec 2) (s_ : State) : Host.Outcome State Fault Refusal :=
  run (decide (sc < 1024)) s_ (onMain (pnCkptWriteDone tx sc an))

/-- ERASE_ABORT (R271). -/
def execEraseAbort (s_ : State) : Host.Outcome State Fault Refusal :=
  run true s_ (onMain eraseAbortRow)

/-- MKA_PDU (R251). -/
def execMkaPdu (cak : Nat) (acts : List MkaAct) (s_ : State) : Host.Outcome State Fault Refusal :=
  run (decide (cak < 64)) s_ (onMain (mkaPdu cak acts))

/-- ENTROPY_TEST_DONE (R549). -/
def execEntropyTestDone (ok : Bool) (s_ : State) : Host.Outcome State Fault Refusal :=
  run true s_ (onMain (entropyRow ok))

/-- DRBG_RESEED (R279). -/
def execDrbgReseed (s_ : State) : Host.Outcome State Fault Refusal :=
  run true s_ (onMain drbgReseed)

/-- TAMPER_DETECT (R532). -/
def execTamperDetect (x : TamperSrc) (s_ : State) : Host.Outcome State Fault Refusal :=
  run true s_ (tamperRow x)

/-- HEALTH_TEST_FAIL (R279). -/
def execHealthTestFail (s_ : State) : Host.Outcome State Fault Refusal :=
  run true s_ (onMain healthTestFail)

end Sys2Proof.Machine
end

