-- ==== Sys2Proof/Machine/ExecMvb.lean ====
section
/-! DEFINITION. The meanings of the commands of the MVB (11). -/

namespace Sys2Proof.Machine

/-- MVB_SLAVE_FRAME (R342). -/
def execMvbSlaveFrame (n a : Nat) (data : Bytes) (l : MvbLines) (s_ : State) : Host.Outcome State Fault Refusal :=
  run (decide (n < 2) && decide (a < 4096)) s_ (onMain (mvbSlaveFrame n a data l))

/-- MVB_SOURCE_WRITE (R343). -/
def execMvbSourceWrite (n a : Nat) (data : Bytes) (s_ : State) : Host.Outcome State Fault Refusal :=
  run (decide (n < 2) && decide (a < 4096)) s_ (onMain (mvbSourceWriteStep n a data))

/-- MVB_AGE_TICK (R344). -/
def execMvbAgeTick (n : Nat) (s_ : State) : Host.Outcome State Fault Refusal :=
  run (decide (n < 2)) s_ (onMain (mvbAgeTick n))

/-- MVB_BASIC_PERIOD (R346). -/
def execMvbBasicPeriod (n : Nat) (s_ : State) : Host.Outcome State Fault Refusal :=
  run (decide (n < 2)) s_ (onMain (mvbBasicPeriod n))

/-- MVB_REPLY_TIMEOUT (R346). -/
def execMvbReplyTimeout (n a : Nat) (s_ : State) : Host.Outcome State Fault Refusal :=
  run (decide (n < 2) && decide (a < 4096)) s_ (onMain (mvbReplyTimeout n a))

/-- MVB_FOREIGN_MASTER (R347). -/
def execMvbForeignMaster (n : Nat) (s_ : State) : Host.Outcome State Fault Refusal :=
  run (decide (n < 2)) s_ (onMain (mvbForeignMaster n))

/-- MASTER_SILENCE_EXPIRY (R347). -/
def execMasterSilenceExpiry (n : Nat) (s_ : State) : Host.Outcome State Fault Refusal :=
  run (decide (n < 2)) s_ (onMain (masterSilenceExpiry n))

/-- MASTERSHIP_OFFER (R346). -/
def execMastershipOffer (n : Nat) (accepted : Bool) (s_ : State) : Host.Outcome State Fault Refusal :=
  run (decide (n < 2)) s_ (onMain (mastershipOffer n accepted))

/-- MVB_OFFER_RECEIVED (R346). -/
def execMvbOfferReceived (n : Nat) (s_ : State) : Host.Outcome State Fault Refusal :=
  run (decide (n < 2)) s_ (onMain (mvbOfferReceived n))

/-- DEVICE_SCAN (R349). -/
def execDeviceScan (n a : Nat) (answer : Option (BitVec 16)) (s_ : State) : Host.Outcome State Fault Refusal :=
  run (decide (n < 2) && decide (a < 4096)) s_ (onMain (deviceScan n a answer))

/-- MASTER_FRAME_RECEIVED (R343). -/
def execMasterFrameReceived (n fcode a : Nat) (l : MvbLines) (s_ : State) : Host.Outcome State Fault Refusal :=
  run (decide (n < 2) && decide (fcode < 16) && decide (a < 4096)) s_ (onMain (masterFrameReceived n fcode a l))

end Sys2Proof.Machine
end

