-- ==== Sys2Proof/Machine/ExecNcp.lean ====
section
/-! DEFINITION. The meanings of the commands of the the command protocol's stages (16). -/

namespace Sys2Proof.Machine

/-- NCP_PACKET (R469). -/
def execNcpPacket (t : Transport) (peer : NcpPeer) (x : Packet) (s_ : State) : Host.Outcome State Fault Refusal :=
  run true s_ (onMain (receivePacket x.session t peer x))

/-- COMMAND_ACCEPTED (R469). -/
def execCommandAccepted (s : Nat) (s_ : State) : Host.Outcome State Fault Refusal :=
  run (decide (s < 4)) s_ (onMain (commandAccepted s))

/-- COMMAND_EXECUTE (R471). -/
def execCommandExecute (s : Nat) (env : ExecEnv) (s_ : State) : Host.Outcome State Fault Refusal :=
  run (decide (s < 4)) s_ (onMain (commandExecute s env))

/-- INTERIM_REPLY (R473). -/
def execInterimReply (s : Nat) (s_ : State) : Host.Outcome State Fault Refusal :=
  run (decide (s < 4)) s_ (onMain (interimReply s))

/-- GAP_TIME_EXPIRY (R471). -/
def execGapTimeExpiry (s : Nat) (s_ : State) : Host.Outcome State Fault Refusal :=
  run (decide (s < 4)) s_ (onMain (gapTimeExpiry s))

/-- COMMAND_TIMEOUT (R474). -/
def execCommandTimeout (s : Nat) (s_ : State) : Host.Outcome State Fault Refusal :=
  run (decide (s < 4)) s_ (onMain (commandTimeout s))

/-- JOURNAL_REPLAYED (R481). -/
def execJournalReplayed (env : ExecEnv) (s_ : State) : Host.Outcome State Fault Refusal :=
  run true s_ (onMain (journalReplayed env))

/-- CMD_DOORBELL (R468). -/
def execCmdDoorbell (s pi : Nat) (view : HostView) (s_ : State) : Host.Outcome State Fault Refusal :=
  run (decide (s < 4) && decide (pi < 256)) s_ (onBus (cmdDoorbell s pi view))

/-- RPL_CI_WRITE (R468). -/
def execRplCiWrite (s ci : Nat) (view : HostView) (s_ : State) : Host.Outcome State Fault Refusal :=
  run (decide (s < 4) && decide (ci < 256)) s_ (onBus (rplCiWrite s ci view))

/-- MAILBOX_BASE_WRITE (R468). -/
def execMailboxBaseWrite (s : Nat) (rpl hi : Bool) (v : Word) (s_ : State) : Host.Outcome State Fault Refusal :=
  run (decide (s < 4)) s_ (onBus (mailboxBaseWrite s rpl hi v))

end Sys2Proof.Machine
end

