-- ==== Sys2Proof/Machine/ExecOps.lean ====
section
/-! DEFINITION. The meanings of the commands of the operations of Table NCP-5 (16). -/

namespace Sys2Proof.Machine

/-- SESSION_OPEN (R467). -/
def execSessionOpen (s : Nat) (t : Transport) (q : Word) (o : OpenParams) (s_ : State) : Host.Outcome State Fault Refusal :=
  run (decide (s < 4)) s_ (onMain (sessionOpenRow s t q o))

/-- SESSION_CLOSE (R467). -/
def execSessionClose (s : Nat) (s_ : State) : Host.Outcome State Fault Refusal :=
  run (decide (s < 4)) s_ (onMain (sessionCloseRow s))

/-- SESSION_ATTACH (R467). -/
def execSessionAttach (s : Nat) (t : Transport) (s_ : State) : Host.Outcome State Fault Refusal :=
  run (decide (s < 4)) s_ (onMain (sessionAttachRow s t))

/-- SYS_RESET (R560). -/
def execSysReset (cold : Bool) (env : ExecEnv) (s_ : State) : Host.Outcome State Fault Refusal :=
  run true s_ (onMain (runRow (.sysReset cold) env))

/-- FUNC_RESET (R589). -/
def execFuncReset (b : FuncBlock) (env : ExecEnv) (s_ : State) : Host.Outcome State Fault Refusal :=
  run true s_ (onMain (runRow (.funcReset b) env))

/-- SYS_INFO (R526). -/
def execSysInfo (env : ExecEnv) (s_ : State) : Host.Outcome State Fault Refusal :=
  run true s_ (onMain (runRow .sysInfo env))

/-- CONFIG_LOAD (R562). -/
def execConfigLoad (slotB : Bool) (env : ExecEnv) (s_ : State) : Host.Outcome State Fault Refusal :=
  run true s_ (onMain (runRow (.configLoad slotB) env))

/-- PORT_CONFIG (R49). -/
def execPortConfig (p : Nat) (x : PortCfg) (env : ExecEnv) (s_ : State) : Host.Outcome State Fault Refusal :=
  run true s_ (onMain (runRow (.portConfig p x) env))

/-- PORT_ENABLE (R64). -/
def execPortEnable (p : Nat) (on force : Bool) (env : ExecEnv) (s_ : State) : Host.Outcome State Fault Refusal :=
  run true s_ (onMain (runRow (.portEnable p on force) env))

/-- LG_REBALANCE (R54). -/
def execLgRebalance (g : Nat) (moves : List (Nat × Nat)) (env : ExecEnv) (s_ : State) : Host.Outcome State Fault Refusal :=
  run true s_ (onMain (runRow (.lgRebalance g moves) env))

/-- PORT_STATUS (R64). -/
def execPortStatus (p : Nat) (env : ExecEnv) (s_ : State) : Host.Outcome State Fault Refusal :=
  run true s_ (onMain (runRow (.portStatus p) env))

/-- STREAM_SET (R160). -/
def execStreamSet (h : Nat) (x : StreamCfg) (env : ExecEnv) (s_ : State) : Host.Outcome State Fault Refusal :=
  run true s_ (onMain (runRow (.streamSet h x) env))

/-- STREAM_REMOVE (R197). -/
def execStreamRemove (h : Nat) (env : ExecEnv) (s_ : State) : Host.Outcome State Fault Refusal :=
  run true s_ (onMain (runRow (.streamRemove h) env))

/-- GCL_SET (R147). -/
def execGclSet (lists : Tbl Gcl) (sec ns : Nat) (env : ExecEnv) (s_ : State) : Host.Outcome State Fault Refusal :=
  run true s_ (onMain (runRow (.gclSet lists sec ns) env))

/-- ADMIT_DRY_RUN (R168). -/
def execAdmitDryRun (streams : Tbl StreamCfg) (lists : Tbl Gcl) (env : ExecEnv) (s_ : State) : Host.Outcome State Fault Refusal :=
  run true s_ (onMain (runRow (.admitDryRun streams lists) env))

/-- PSFP_UNBLOCK (R156). -/
def execPsfpUnblock (h : Nat) (env : ExecEnv) (s_ : State) : Host.Outcome State Fault Refusal :=
  run true s_ (onMain (runRow (.psfpUnblock h) env))

/-- SHAPER_SET (R153). -/
def execShaperSet (p : Nat) (slopes : List Nat) (pre : Preempt) (holdNs : Nat) (env : ExecEnv) (s_ : State) : Host.Outcome State Fault Refusal :=
  run true s_ (onMain (runRow (.shaperSet p slopes pre holdNs) env))

/-- ZONE_SET (R211). -/
def execZoneSet (map : Tbl Nat) (hi cp : Nat) (zones : Tbl ZoneCfg) (env : ExecEnv) (s_ : State) : Host.Outcome State Fault Refusal :=
  run true s_ (onMain (runRow (.zoneSet map hi cp zones) env))

/-- RULES_LOAD (R214). -/
def execRulesLoad (bank : RuleBank) (revalidate : Bool) (env : ExecEnv) (s_ : State) : Host.Outcome State Fault Refusal :=
  run true s_ (onMain (runRow (.rulesLoad bank revalidate) env))

/-- PROFILE_SET (R225). -/
def execProfileSet (n : Nat) (x : Profile) (env : ExecEnv) (s_ : State) : Host.Outcome State Fault Refusal :=
  run true s_ (onMain (runRow (.profileSet n x) env))

/-- CT_READ (R218). -/
def execCtRead (k : CtRef) (env : ExecEnv) (s_ : State) : Host.Outcome State Fault Refusal :=
  run true s_ (onMain (runRow (.ctRead k) env))

/-- GW_CONFIG (R359). -/
def execGwConfig (g : GwyCfg) (env : ExecEnv) (s_ : State) : Host.Outcome State Fault Refusal :=
  run true s_ (onMain (runRow (.gwConfig g) env))

/-- CAN_CONFIG (R309). -/
def execCanConfig (n : Nat) (c : CanCfg) (env : ExecEnv) (s_ : State) : Host.Outcome State Fault Refusal :=
  run true s_ (onMain (runRow (.canConfig n c) env))

/-- MVB_CONFIG (R339). -/
def execMvbConfig (n : Nat) (c : MvbCfg) (env : ExecEnv) (s_ : State) : Host.Outcome State Fault Refusal :=
  run true s_ (onMain (runRow (.mvbConfig n c) env))

/-- GW_SEND (R373). -/
def execGwSend (output : Nat) (payload : Bytes) (deadlineMs : Nat) (wait : Bool) (env : ExecEnv) (s_ : State) : Host.Outcome State Fault Refusal :=
  run true s_ (onMain (runRow (.gwSend output payload deadlineMs wait) env))

/-- CAN_RECOVER (R321). -/
def execCanRecover (n : Nat) (env : ExecEnv) (s_ : State) : Host.Outcome State Fault Refusal :=
  run true s_ (onMain (runRow (.canRecover n) env))

/-- MVB_PORT_READ (R340). -/
def execMvbPortRead (n a : Nat) (env : ExecEnv) (s_ : State) : Host.Outcome State Fault Refusal :=
  run true s_ (onMain (runRow (.mvbPortRead n a) env))

/-- TIME_CONFIG (R127). -/
def execTimeConfig (t : TimCfg) (ports : Tbl PtpPort) (env : ExecEnv) (s_ : State) : Host.Outcome State Fault Refusal :=
  run true s_ (onMain (runRow (.timeConfig t ports) env))

/-- CLOCK_STEP (R117). -/
def execClockStep (sec ns : Nat) (env : ExecEnv) (s_ : State) : Host.Outcome State Fault Refusal :=
  run true s_ (onMain (runRow (.clockStep sec ns) env))

/-- SLEEP_READY (R385). -/
def execSleepReady (on : Bool) (env : ExecEnv) (s_ : State) : Host.Outcome State Fault Refusal :=
  run true s_ (onMain (runRow (.sleepReady on) env))

/-- SEASONS_CONFIG (R394). -/
def execSeasonsConfig (x : SsnCfg) (env : ExecEnv) (s_ : State) : Host.Outcome State Fault Refusal :=
  run true s_ (onMain (runRow (.seasonsConfig x) env))

/-- WAKE_REQUEST (R397). -/
def execWakeRequest (env : ExecEnv) (s_ : State) : Host.Outcome State Fault Refusal :=
  run true s_ (onMain (runRow .wakeRequest env))

/-- PAIR_CONFIG (R435). -/
def execPairConfig (x : PairCfg) (env : ExecEnv) (s_ : State) : Host.Outcome State Fault Refusal :=
  run true s_ (onMain (runRow (.pairConfig x) env))

/-- SWITCHOVER (R425). -/
def execSwitchover (env : ExecEnv) (s_ : State) : Host.Outcome State Fault Refusal :=
  run true s_ (onMain (runRow .switchover env))

/-- COMPARE_RESUME (R431). -/
def execCompareResume (env : ExecEnv) (s_ : State) : Host.Outcome State Fault Refusal :=
  run true s_ (onMain (runRow .compareResume env))

/-- KEY_INSTALL (R546). -/
def execKeyInstall (b : KeyBlob) (env : ExecEnv) (s_ : State) : Host.Outcome State Fault Refusal :=
  run true s_ (onMain (runRow (.keyInstall b) env))

/-- KEY_ERASE (R548). -/
def execKeyErase (t : KeyTarget) (env : ExecEnv) (s_ : State) : Host.Outcome State Fault Refusal :=
  run true s_ (onMain (runRow (.keyErase t) env))

/-- SECY_SET (R252). -/
def execSecySet (m : MscCfg) (env : ExecEnv) (s_ : State) : Host.Outcome State Fault Refusal :=
  run true s_ (onMain (runRow (.secySet m) env))

/-- ATTEST (R550). -/
def execAttest (nonce : Bytes) (p384 : Bool) (env : ExecEnv) (s_ : State) : Host.Outcome State Fault Refusal :=
  run true s_ (onMain (runRow (.attest nonce p384) env))

/-- UPDATE_BLOCK (R564). -/
def execUpdateBlock (partner : Bool) (offset : Nat) (data : Bytes) (env : ExecEnv) (s_ : State) : Host.Outcome State Fault Refusal :=
  run true s_ (onMain (runRow (.updateBlock partner offset data) env))

/-- UPDATE_VERIFY (R566). -/
def execUpdateVerify (env : ExecEnv) (s_ : State) : Host.Outcome State Fault Refusal :=
  run true s_ (onMain (runRow .updateVerify env))

/-- SOLSTICE_SET (R568). -/
def execSolsticeSet (sec ns : Nat) (env : ExecEnv) (s_ : State) : Host.Outcome State Fault Refusal :=
  run true s_ (onMain (runRow (.solsticeSet sec ns) env))

/-- UPDATE_ABORT (R565). -/
def execUpdateAbort (env : ExecEnv) (s_ : State) : Host.Outcome State Fault Refusal :=
  run true s_ (onMain (runRow .updateAbort env))

/-- FAULT_READ (R597). -/
def execFaultRead (ix : Nat) (env : ExecEnv) (s_ : State) : Host.Outcome State Fault Refusal :=
  run true s_ (onMain (runRow (.faultRead ix) env))

/-- LATE_RING_READ (R596). -/
def execLateRingRead (n : Nat) (env : ExecEnv) (s_ : State) : Host.Outcome State Fault Refusal :=
  run true s_ (onMain (runRow (.lateRingRead n) env))

/-- LATE_RING_ACK (R596). -/
def execLateRingAck (n : Nat) (env : ExecEnv) (s_ : State) : Host.Outcome State Fault Refusal :=
  run true s_ (onMain (runRow (.lateRingAck n) env))

/-- RESTORE (R586). -/
def execRestore (ix : Nat) (env : ExecEnv) (s_ : State) : Host.Outcome State Fault Refusal :=
  run true s_ (onMain (runRow (.restore ix) env))

/-- COUNTER_READ (R477). -/
def execCounterRead (block index count : Nat) (env : ExecEnv) (s_ : State) : Host.Outcome State Fault Refusal :=
  run true s_ (onMain (runRow (.counterRead block index count) env))

/-- REG_READ (R478). -/
def execRegRead (a n : Nat) (env : ExecEnv) (s_ : State) : Host.Outcome State Fault Refusal :=
  run true s_ (onMain (runRow (.regRead a n) env))

/-- REG_WRITE (R478). -/
def execRegWrite (a : Nat) (v : Word) (mirror : Bool) (env : ExecEnv) (s_ : State) : Host.Outcome State Fault Refusal :=
  run true s_ (onMain (runRow (.regWrite a v mirror) env))

end Sys2Proof.Machine
end

