-- ==== Sys2Proof/Machine/ExecPair.lean ====
section
/-! DEFINITION. The meanings of the commands of the pair (14). -/

namespace Sys2Proof.Machine

/-- PARTNER_COMMIT (R13). -/
def execPartnerCommit (m : CommitMsg) (s_ : State) : Host.Outcome State Fault Refusal :=
  run true s_ (onMain (partnerCommitRow m))

/-- LEASE_ARM (R421). -/
def execLeaseArm (s_ : State) : Host.Outcome State Fault Refusal :=
  run true s_ (onMain leaseArm)

/-- LEASE_RENEWAL_SEND (R421). -/
def execLeaseRenewalSend (s_ : State) : Host.Outcome State Fault Refusal :=
  run true s_ (onMain leaseRenewalSend)

/-- ACTIVE_LEASE_END (R421). -/
def execActiveLeaseEnd (s_ : State) : Host.Outcome State Fault Refusal :=
  run true s_ (onMain (fun d => reviewSession3 (activeLeaseEnd d)))

/-- LEASE_RENEWAL_RECEIVED (R424). -/
def execLeaseRenewalReceived (x : Option Renewal) (s_ : State) : Host.Outcome State Fault Refusal :=
  run true s_ (onMain (fun d => reviewSession3 (leaseRenewalReceived x d)))

/-- STANDBY_LEASE_EXPIRY (R424). -/
def execStandbyLeaseExpiry (s_ : State) : Host.Outcome State Fault Refusal :=
  run true s_ (onMain (fun d => reviewSession3 (standbyLeaseExpiry d)))

/-- YIELD_RECEIVED (R425). -/
def execYieldReceived (s_ : State) : Host.Outcome State Fault Refusal :=
  run true s_ (onMain (fun d => reviewSession3 (yieldReceived d)))

/-- ELECTION_WINDOW_EXPIRY (R426). -/
def execElectionWindowExpiry (s_ : State) : Host.Outcome State Fault Refusal :=
  run true s_ (onMain (fun d => reviewSession3 (electionWindowExpiry d)))

/-- PARTNER_LOST (R436). -/
def execPartnerLost (s_ : State) : Host.Outcome State Fault Refusal :=
  run true s_ (onMain (fun d => reviewSession3 (partnerLost d)))

/-- PATH_DOWN (R419). -/
def execPathDown (pin : Bool) (s_ : State) : Host.Outcome State Fault Refusal :=
  run true s_ (onMain (fun d => reviewSession3 (pathDown pin d)))

/-- WYUSIN_SEGMENT (R415). -/
def execWyusinSegment (x : Segment) (s_ : State) : Host.Outcome State Fault Refusal :=
  run (x.formed && decide (x.lane < 4)) s_ (onMain (wyusinSegment x))

/-- CREDIT_LIMIT (R417). -/
def execCreditLimit (tc : Nat) (l : Word) (s_ : State) : Host.Outcome State Fault Refusal :=
  run (decide (tc < 8)) s_ (onMain (creditLimit tc l))

/-- CREDIT_SEND (R417). -/
def execCreditSend (s_ : State) : Host.Outcome State Fault Refusal :=
  run true s_ (onMain creditSend)

/-- DIGEST_WINDOW_CLOSE (R429). -/
def execDigestWindowClose (s_ : State) : Host.Outcome State Fault Refusal :=
  run true s_ (onMain digestWindowClose)

/-- DIGEST_COMPARE (R429). -/
def execDigestCompare (window : Word) (xa : BitVec 64) (recs : List (Nat × Nat × Word)) (s_ : State) : Host.Outcome State Fault Refusal :=
  run true s_ (onMain (digestCompare window xa recs))

/-- MISMATCH_NOTICE (R430). -/
def execMismatchNotice (s_ : State) : Host.Outcome State Fault Refusal :=
  run true s_ (onMain mismatchNotice)

/-- PAIR_SELFTEST_DONE (R430). -/
def execPairSelftestDone (pass : Bool) (s_ : State) : Host.Outcome State Fault Refusal :=
  run true s_ (onMain (fun d => reviewSession3 (pairSelftestDone pass d)))

/-- PARTNER_VERDICT (R430). -/
def execPartnerVerdict (pass : Bool) (s_ : State) : Host.Outcome State Fault Refusal :=
  run true s_ (onMain (fun d => reviewSession3 (partnerVerdictRow pass d)))

/-- TAKEOVER_DONE (R432). -/
def execTakeoverDone (s_ : State) : Host.Outcome State Fault Refusal :=
  run true s_ (onMain takeoverDone)

/-- PARTNER_READY (R434). -/
def execPartnerReady (s_ : State) : Host.Outcome State Fault Refusal :=
  run true s_ (onMain (fun d => reviewSession3 (partnerReady d)))

/-- COMMIT_WAIT_EXPIRY (R434). -/
def execCommitWaitExpiry (s_ : State) : Host.Outcome State Fault Refusal :=
  run true s_ (onMain (fun d => reviewSession3 (commitWaitRow d)))

/-- STANDBY_ALIVE_EDGE (R422). -/
def execStandbyAliveEdge (s_ : State) : Host.Outcome State Fault Refusal :=
  run true s_ (onMain standbyAliveEdge)

end Sys2Proof.Machine
end

