-- ==== Sys2Proof/Machine/ExecSeasons.lean ====
section
/-! DEFINITION. The meanings of the commands of the seasons, power and starts (01, 13, 20). -/

namespace Sys2Proof.Machine

/-- SLEEP_ACCEPTANCE_STOP (R34). -/
def execSleepAcceptanceStop (s_ : State) : Host.Outcome State Fault Refusal :=
  run true s_ (onMain sleepAcceptanceStop)

/-- WAKE_HOLD_EXPIRY (R385). -/
def execWakeHoldExpiry (s_ : State) : Host.Outcome State Fault Refusal :=
  run true s_ wakeHoldExpiry

/-- ROUND_START (R387). -/
def execRoundStart (s_ : State) : Host.Outcome State Fault Refusal :=
  run true s_ (onMain roundStart)

/-- EQX_CONSENT (R389). -/
def execEqxConsent (f : EqxFrame) (s_ : State) : Host.Outcome State Fault Refusal :=
  run true s_ (onMain (eqxConsent f))

/-- EQX_COMMIT (R391). -/
def execEqxCommit (f : EqxFrame) (s_ : State) : Host.Outcome State Fault Refusal :=
  run true s_ (onMain (eqxCommit f))

/-- EQX_ACK (R390). -/
def execEqxAck (f : EqxFrame) (s_ : State) : Host.Outcome State Fault Refusal :=
  run true s_ (onMain (eqxAck f))

/-- EQX_REFUSE (R389). -/
def execEqxRefuse (f : EqxFrame) (s_ : State) : Host.Outcome State Fault Refusal :=
  run true s_ (onMain (eqxRefuse f))

/-- EQX_ABORT (R392). -/
def execEqxAbort (f : EqxFrame) (s_ : State) : Host.Outcome State Fault Refusal :=
  run true s_ (onMain (eqxAbort f))

/-- EQX_VETO (R398). -/
def execEqxVeto (f : EqxFrame) (s_ : State) : Host.Outcome State Fault Refusal :=
  run true s_ (onMain (eqxVeto f))

/-- EQX_KEEPALIVE (R396). -/
def execEqxKeepalive (f : EqxFrame) (s_ : State) : Host.Outcome State Fault Refusal :=
  run true s_ (onMain (eqxKeepalive f))

/-- HOP_TIMEOUT (R390). -/
def execHopTimeout (s_ : State) : Host.Outcome State Fault Refusal :=
  run true s_ (onMain hopTimeout)

/-- TOKEN_TIMEOUT (R392). -/
def execTokenTimeout (s_ : State) : Host.Outcome State Fault Refusal :=
  run true s_ (onMain tokenTimeout)

/-- ABORT_REPEAT (R392). -/
def execAbortRepeat (s_ : State) : Host.Outcome State Fault Refusal :=
  run true s_ (onMain abortRepeat)

/-- CONSENT_EXPIRED (R392). -/
def execConsentExpired (s_ : State) : Host.Outcome State Fault Refusal :=
  run true s_ (onMain consentExpired)

/-- KA_SEND (R396). -/
def execKaSend (s_ : State) : Host.Outcome State Fault Refusal :=
  run true s_ (onMain kaSend)

/-- KA_SILENCE_EXPIRY (R396). -/
def execKaSilenceExpiry (s_ : State) : Host.Outcome State Fault Refusal :=
  run true s_ (onMain kaSilenceExpiry)

/-- IDLE_RETURN (R401). -/
def execIdleReturn (s_ : State) : Host.Outcome State Fault Refusal :=
  run true s_ (onMain idleReturn)

/-- COMMIT_TIME_REACHED (R402). -/
def execCommitTimeReached (s_ : State) : Host.Outcome State Fault Refusal :=
  run true s_ (onMain commitTimeReached)

/-- POWER_DOWN_STEP (R402). -/
def execPowerDownStep (s_ : State) : Host.Outcome State Fault Refusal :=
  run true s_ powerDownStep

/-- WAKE_IN (R397). -/
def execWakeIn (active : Bool) (s_ : State) : Host.Outcome State Fault Refusal :=
  run true s_ (wakeInRow active)

/-- WAKE_ALARM (R397). -/
def execWakeAlarm (s_ : State) : Host.Outcome State Fault Refusal :=
  run true s_ wakeAlarm

/-- WAKE_PULSE_END (R400). -/
def execWakePulseEnd (s_ : State) : Host.Outcome State Fault Refusal :=
  run true s_ wakePulseEnd

/-- POWER_UP_STEP (R404). -/
def execPowerUpStep (e : ColdEnv) (s_ : State) : Host.Outcome State Fault Refusal :=
  run true s_ (powerUpStep e)

/-- SPRING_IMAGE_LOADED (R404). -/
def execSpringImageLoaded (readOk : Bool) (s_ : State) : Host.Outcome State Fault Refusal :=
  run true s_ (onMain (springImageLoaded readOk))

/-- SPRING_PATHS (R404). -/
def execSpringPaths (s_ : State) : Host.Outcome State Fault Refusal :=
  run true s_ (onMain springPaths)

/-- RENIOFT_RUNNING (R404). -/
def execRenioftRunning (s_ : State) : Host.Outcome State Fault Refusal :=
  run true s_ (onMain renioftRunning)

/-- BLOB_COMMIT (R561). -/
def execBlobCommit (s_ : State) : Host.Outcome State Fault Refusal :=
  run true s_ (onMain blobCommit)

/-- SUMMER_REACHED (R404). -/
def execSummerReached (s_ : State) : Host.Outcome State Fault Refusal :=
  run true s_ (onMain summerReached)

/-- VAON_BROWNOUT (R383). -/
def execVaonBrownout (s_ : State) : Host.Outcome State Fault Refusal :=
  run true s_ vaonBrownout

/-- VAON_RISE (R606). -/
def execVaonRise (s_ : State) : Host.Outcome State Fault Refusal :=
  run true s_ vaonRise

end Sys2Proof.Machine
end

