-- ==== Sys2Proof/Machine/ExecTime.lean ====
section
/-! DEFINITION. The meanings of the commands of the time and scheduled traffic (04, 05). -/

namespace Sys2Proof.Machine

/-- KEEPER_TIME_WRITE (R106). -/
def execKeeperTimeWrite (s_ : State) : Host.Outcome State Fault Refusal :=
  run true s_ (onTime keeperTimeWrite)

/-- SYNC_RECEIVED (R120). -/
def execSyncReceived (domB : Bool) (p : Nat) (m : SyncMsg) (delta : Int) (s_ : State) : Host.Outcome State Fault Refusal :=
  run (decide (p < 25) || decide (p = 37)) s_ (onTime (syncReceived domB p m delta))

/-- ANNOUNCE_RECEIVED (R121). -/
def execAnnounceReceived (domB : Bool) (p : Nat) (gm : BitVec 64) (vec : List Nat) (s_ : State) : Host.Outcome State Fault Refusal :=
  run (decide (p < 25) || decide (p = 37)) s_ (onTime (announceReceived domB p gm vec))

/-- SYNC_RECEIPT_TIMEOUT (R121). -/
def execSyncReceiptTimeout (domB : Bool) (s_ : State) : Host.Outcome State Fault Refusal :=
  run true s_ (onTime (syncReceiptTimeout domB))

/-- ANNOUNCE_RECEIPT_TIMEOUT (R121). -/
def execAnnounceReceiptTimeout (domB : Bool) (s_ : State) : Host.Outcome State Fault Refusal :=
  run true s_ (onTime (announceReceiptTimeout domB))

/-- GM_HOLD_EXPIRY (R121). -/
def execGmHoldExpiry (domB : Bool) (s_ : State) : Host.Outcome State Fault Refusal :=
  run true s_ (onTime (gmHoldExpiry domB))

/-- REVERT_HOLD_EXPIRY (R123). -/
def execRevertHoldExpiry (s_ : State) : Host.Outcome State Fault Refusal :=
  run true s_ (onTime revertHoldExpiry)

/-- PDELAY_MEASUREMENT (R126). -/
def execPdelayMeasurement (p ps : Nat) (s_ : State) : Host.Outcome State Fault Refusal :=
  run (decide (p < 25) || decide (p = 37)) s_ (onTime (pdelayMeasurement p ps))

/-- PDELAY_FAIL (R134). -/
def execPdelayFail (p : Nat) (s_ : State) : Host.Outcome State Fault Refusal :=
  run (decide (p < 25) || decide (p = 37)) s_ (onTime (pdelayFail p))

/-- TIM_SNAP (R137). -/
def execTimSnap (w : Word) (s_ : State) : Host.Outcome State Fault Refusal :=
  run true s_ (onBus (timSnap w))

/-- TXTS_POP (R132). -/
def execTxtsPop (p n : Nat) (s_ : State) : Host.Outcome State Fault Refusal :=
  run (decide (p < 25) && decide (n < 128)) s_ (onBus (txtsPop p n))

/-- GATE_EVENT (R142). -/
def execGateEvent (p : Nat) (s_ : State) : Host.Outcome State Fault Refusal :=
  run (decide (p < 25)) s_ (onMain (gateEvent p))

/-- GCL_SWITCH (R148). -/
def execGclSwitch (s_ : State) : Host.Outcome State Fault Refusal :=
  run true s_ (onMain gclSwitch)

/-- PREEMPT_VERIFY (R151). -/
def execPreemptVerify (p : Nat) (ok : Bool) (s_ : State) : Host.Outcome State Fault Refusal :=
  run (decide (p < 25)) s_ (onMain (preemptVerify p ok))

/-- ADMISSION_RECHECK (R171). -/
def execAdmissionRecheck (s_ : State) : Host.Outcome State Fault Refusal :=
  run true s_ (onMain admissionRecheck)

/-- STREAM_GATE_EVENT (R155). -/
def execStreamGateEvent (g : Nat) (s_ : State) : Host.Outcome State Fault Refusal :=
  run true s_ (onMain (streamGateEvent g))

/-- HOLD_REQUEST (R152). -/
def execHoldRequest (p : Nat) (s_ : State) : Host.Outcome State Fault Refusal :=
  run (decide (p < 25)) s_ (onMain (holdRequest p))

/-- PDELAY_REQ_SEND (R120). -/
def execPdelayReqSend (p : Nat) (s_ : State) : Host.Outcome State Fault Refusal :=
  run (decide (p < 25) || decide (p = 37)) s_ (onTime (pdelayReqSend p))

/-- PDELAY_REQ_RECEIVED (R135). -/
def execPdelayReqReceived (p : Nat) (s_ : State) : Host.Outcome State Fault Refusal :=
  run (decide (p < 25) || decide (p = 37)) s_ (onTime (pdelayReqReceived p))

/-- SYNC_SEND (R121). -/
def execSyncSend (domB : Bool) (p : Nat) (s_ : State) : Host.Outcome State Fault Refusal :=
  run (decide (p < 25) || decide (p = 37)) s_ (onTime (syncSend domB p))

/-- ANNOUNCE_SEND (R121). -/
def execAnnounceSend (domB : Bool) (p : Nat) (s_ : State) : Host.Outcome State Fault Refusal :=
  run (decide (p < 25) || decide (p = 37)) s_ (onTime (announceSend domB p))

end Sys2Proof.Machine
end

