-- ==== Sys2Proof/Machine/ExecTopology.lean ====
section
/-! DEFINITION. The meanings of the commands of the train topology (09). -/

namespace Sys2Proof.Machine

/-- HELLO_RECEIVED (R291). -/
def execHelloReceived (p id etb : Nat) (s_ : State) : Host.Outcome State Fault Refusal :=
  run (decide (p < 25)) s_ (onMain (helloReceived p id etb))

/-- TOPOLOGY_RECEIVED (R290). -/
def execTopologyReceived (lineB : Bool) (view : List TopNode) (s_ : State) : Host.Outcome State Fault Refusal :=
  run true s_ (onMain (topologyReceived lineB view))

/-- HELLO_SEND (R291). -/
def execHelloSend (p : Nat) (s_ : State) : Host.Outcome State Fault Refusal :=
  run (decide (p < 2)) s_ (onMain (helloSend p))

/-- TOPOLOGY_SEND (R291). -/
def execTopologySend (p : Nat) (s_ : State) : Host.Outcome State Fault Refusal :=
  run (decide (p < 2)) s_ (onMain (topologySend p))

/-- NEIGHBOUR_LOST (R291). -/
def execNeighbourLost (p : Nat) (s_ : State) : Host.Outcome State Fault Refusal :=
  run (decide (p < 2)) s_ (onMain (neighbourLost p))

/-- TOPO_STABLE_EXPIRY (R290). -/
def execTopoStableExpiry (s_ : State) : Host.Outcome State Fault Refusal :=
  run true s_ (onMain topoStableExpiry)

/-- ROUTE_COMMIT (R293). -/
def execRouteCommit (r : List Route × Tbl NextHop) (ans : PartnerAns) (s_ : State) : Host.Outcome State Fault Refusal :=
  run true s_ (onMain (routeCommit r.1 r.2 ans))

/-- BYPASS_SETTLE_EXPIRY (R290). -/
def execBypassSettleExpiry (s_ : State) : Host.Outcome State Fault Refusal :=
  run true s_ (onMain settle)

/-- BYPASS_WD (R301). -/
def execBypassWd (s_ : State) : Host.Outcome State Fault Refusal :=
  run true s_ (onMain bypassWd)

/-- TOPO_INHIBIT (R294). -/
def execTopoInhibit (on : Bool) (s_ : State) : Host.Outcome State Fault Refusal :=
  run true s_ (onMain (topoInhibit on))

/-- BYPASS_COMMAND (R299). -/
def execBypassCommand (on : Bool) (s_ : State) : Host.Outcome State Fault Refusal :=
  run true s_ (onMain (bypassCommand on))

end Sys2Proof.Machine
end

