-- ==== Sys2Proof/Machine/Dispatch.lean ====
section
/-! DEFINITION. One arm per command: a direct call of its meaning. -/

namespace Sys2Proof.Machine

def exec (i : Instr) (s : State) : Host.Outcome State Fault Refusal :=
  match i with
  | .partnerCommit m => Sys2Proof.Machine.execPartnerCommit m s
  | .sleepAcceptanceStop => Sys2Proof.Machine.execSleepAcceptanceStop s
  | .cellAllocate p id chunk express tag sub txId => Sys2Proof.Machine.execCellAllocate p id chunk express tag sub txId s
  | .pfcRefresh p => Sys2Proof.Machine.execPfcRefresh p s
  | .headerArbitration => Sys2Proof.Machine.execHeaderArbitration s
  | .pipelineDecision => Sys2Proof.Machine.execPipelineDecision s
  | .fdbAgeOut fid mac => Sys2Proof.Machine.execFdbAgeOut fid mac s
  | .linkDown p => Sys2Proof.Machine.execLinkDown p s
  | .linkUp p => Sys2Proof.Machine.execLinkUp p s
  | .flowletMove g fl => Sys2Proof.Machine.execFlowletMove g fl s
  | .schedulerSelect p => Sys2Proof.Machine.execSchedulerSelect p s
  | .transmitComplete p sub => Sys2Proof.Machine.execTransmitComplete p sub s
  | .frameEndReceived id fcsOk codeErr frags assyErr => Sys2Proof.Machine.execFrameEndReceived id fcsOk codeErr frags assyErr s
  | .icvVerdict id ok => Sys2Proof.Machine.execIcvVerdict id ok s
  | .pfcReceived p x => Sys2Proof.Machine.execPfcReceived p x s
  | .averageUpdate => Sys2Proof.Machine.execAverageUpdate s
  | .ageScrub => Sys2Proof.Machine.execAgeScrub s
  | .spillWriteDone q => Sys2Proof.Machine.execSpillWriteDone q s
  | .spillRefill q memErr => Sys2Proof.Machine.execSpillRefill q memErr s
  | .spillReady => Sys2Proof.Machine.execSpillReady s
  | .keeperTimeWrite => Sys2Proof.Machine.execKeeperTimeWrite s
  | .syncReceived domB p m delta => Sys2Proof.Machine.execSyncReceived domB p m delta s
  | .announceReceived domB p gm vec => Sys2Proof.Machine.execAnnounceReceived domB p gm vec s
  | .syncReceiptTimeout domB => Sys2Proof.Machine.execSyncReceiptTimeout domB s
  | .announceReceiptTimeout domB => Sys2Proof.Machine.execAnnounceReceiptTimeout domB s
  | .gmHoldExpiry domB => Sys2Proof.Machine.execGmHoldExpiry domB s
  | .revertHoldExpiry => Sys2Proof.Machine.execRevertHoldExpiry s
  | .pdelayMeasurement p ps => Sys2Proof.Machine.execPdelayMeasurement p ps s
  | .pdelayFail p => Sys2Proof.Machine.execPdelayFail p s
  | .timSnap w => Sys2Proof.Machine.execTimSnap w s
  | .txtsPop p n => Sys2Proof.Machine.execTxtsPop p n s
  | .gateEvent p => Sys2Proof.Machine.execGateEvent p s
  | .gclSwitch => Sys2Proof.Machine.execGclSwitch s
  | .preemptVerify p ok => Sys2Proof.Machine.execPreemptVerify p ok s
  | .admissionRecheck => Sys2Proof.Machine.execAdmissionRecheck s
  | .sequenceTest => Sys2Proof.Machine.execSequenceTest s
  | .mirrorComplete no => Sys2Proof.Machine.execMirrorComplete no s
  | .recordComplete no => Sys2Proof.Machine.execRecordComplete no s
  | .partnerAck no => Sys2Proof.Machine.execPartnerAck no s
  | .replLost => Sys2Proof.Machine.execReplLost s
  | .markRecord => Sys2Proof.Machine.execMarkRecord s
  | .holdExpiry slot => Sys2Proof.Machine.execHoldExpiry slot s
  | .recovReset slot => Sys2Proof.Machine.execRecovReset slot s
  | .memberSilent slot p => Sys2Proof.Machine.execMemberSilent slot p s
  | .journalReplay bad0 bad1 => Sys2Proof.Machine.execJournalReplay bad0 bad1 s
  | .replicaRecord x => Sys2Proof.Machine.execReplicaRecord x s
  | .missLookupDone id memErr => Sys2Proof.Machine.execMissLookupDone id memErr s
  | .ctScan ix => Sys2Proof.Machine.execCtScan ix s
  | .ctRevalidate => Sys2Proof.Machine.execCtRevalidate s
  | .fragExpiry => Sys2Proof.Machine.execFragExpiry s
  | .stateRebuilt => Sys2Proof.Machine.execStateRebuilt s
  | .pickupGraceEnd => Sys2Proof.Machine.execPickupGraceEnd s
  | .ctMirror op e => Sys2Proof.Machine.execCtMirror op e s
  | .ctResendDone => Sys2Proof.Machine.execCtResendDone s
  | .bankCheck ok => Sys2Proof.Machine.execBankCheck ok s
  | .setupRequest p hdr zin zout vid => Sys2Proof.Machine.execSetupRequest p hdr zin zout vid s
  | .setupTimeout id => Sys2Proof.Machine.execSetupTimeout id s
  | .touch key state advance => Sys2Proof.Machine.execTouch key state advance s
  | .pnCkptWriteDone tx sc an => Sys2Proof.Machine.execPnCkptWriteDone tx sc an s
  | .eraseAbort => Sys2Proof.Machine.execEraseAbort s
  | .mkaPdu cak acts => Sys2Proof.Machine.execMkaPdu cak acts s
  | .entropyTestDone ok => Sys2Proof.Machine.execEntropyTestDone ok s
  | .drbgReseed => Sys2Proof.Machine.execDrbgReseed s
  | .tamperDetect x => Sys2Proof.Machine.execTamperDetect x s
  | .helloReceived p id etb => Sys2Proof.Machine.execHelloReceived p id etb s
  | .topologyReceived lineB view => Sys2Proof.Machine.execTopologyReceived lineB view s
  | .helloSend p => Sys2Proof.Machine.execHelloSend p s
  | .topologySend p => Sys2Proof.Machine.execTopologySend p s
  | .neighbourLost p => Sys2Proof.Machine.execNeighbourLost p s
  | .topoStableExpiry => Sys2Proof.Machine.execTopoStableExpiry s
  | .routeCommit r ans => Sys2Proof.Machine.execRouteCommit r ans s
  | .bypassSettleExpiry => Sys2Proof.Machine.execBypassSettleExpiry s
  | .bypassWd => Sys2Proof.Machine.execBypassWd s
  | .topoInhibit on => Sys2Proof.Machine.execTopoInhibit on s
  | .bypassCommand on => Sys2Proof.Machine.execBypassCommand on s
  | .cxTxreq n mask => Sys2Proof.Machine.execCxTxreq n mask s
  | .cxTxcancel n mask => Sys2Proof.Machine.execCxTxcancel n mask s
  | .cxTxack n mask => Sys2Proof.Machine.execCxTxack n mask s
  | .cxRxack n count => Sys2Proof.Machine.execCxRxack n count s
  | .canFrameReceived n f => Sys2Proof.Machine.execCanFrameReceived n f s
  | .canAttemptStart n => Sys2Proof.Machine.execCanAttemptStart n s
  | .canAttemptEnd n x delay => Sys2Proof.Machine.execCanAttemptEnd n x delay s
  | .busOffEnd n => Sys2Proof.Machine.execBusOffEnd n s
  | .canWakeDetect n => Sys2Proof.Machine.execCanWakeDetect n s
  | .mvbSlaveFrame n a data l => Sys2Proof.Machine.execMvbSlaveFrame n a data l s
  | .mvbSourceWrite n a data => Sys2Proof.Machine.execMvbSourceWrite n a data s
  | .mvbAgeTick n => Sys2Proof.Machine.execMvbAgeTick n s
  | .mvbBasicPeriod n => Sys2Proof.Machine.execMvbBasicPeriod n s
  | .mvbReplyTimeout n a => Sys2Proof.Machine.execMvbReplyTimeout n a s
  | .mvbForeignMaster n => Sys2Proof.Machine.execMvbForeignMaster n s
  | .masterSilenceExpiry n => Sys2Proof.Machine.execMasterSilenceExpiry n s
  | .mastershipOffer n accepted => Sys2Proof.Machine.execMastershipOffer n accepted s
  | .mvbOfferReceived n => Sys2Proof.Machine.execMvbOfferReceived n s
  | .deviceScan n a answer => Sys2Proof.Machine.execDeviceScan n a answer s
  | .gwEgressArrival p => Sys2Proof.Machine.execGwEgressArrival p s
  | .trdpReceived p ingress t => Sys2Proof.Machine.execTrdpReceived p ingress t s
  | .acfReceived p ingress stream ms => Sys2Proof.Machine.execAcfReceived p ingress stream ms s
  | .cyclicEmit n => Sys2Proof.Machine.execCyclicEmit n s
  | .subStale n => Sys2Proof.Machine.execSubStale n s
  | .gwDeadline w => Sys2Proof.Machine.execGwDeadline w s
  | .pubMirrorDone n => Sys2Proof.Machine.execPubMirrorDone n s
  | .gwStart => Sys2Proof.Machine.execGwStart s
  | .wakeHoldExpiry => Sys2Proof.Machine.execWakeHoldExpiry s
  | .roundStart => Sys2Proof.Machine.execRoundStart s
  | .eqxConsent f => Sys2Proof.Machine.execEqxConsent f s
  | .eqxCommit f => Sys2Proof.Machine.execEqxCommit f s
  | .eqxAck f => Sys2Proof.Machine.execEqxAck f s
  | .eqxRefuse f => Sys2Proof.Machine.execEqxRefuse f s
  | .eqxAbort f => Sys2Proof.Machine.execEqxAbort f s
  | .eqxVeto f => Sys2Proof.Machine.execEqxVeto f s
  | .eqxKeepalive f => Sys2Proof.Machine.execEqxKeepalive f s
  | .hopTimeout => Sys2Proof.Machine.execHopTimeout s
  | .tokenTimeout => Sys2Proof.Machine.execTokenTimeout s
  | .abortRepeat => Sys2Proof.Machine.execAbortRepeat s
  | .consentExpired => Sys2Proof.Machine.execConsentExpired s
  | .kaSend => Sys2Proof.Machine.execKaSend s
  | .kaSilenceExpiry => Sys2Proof.Machine.execKaSilenceExpiry s
  | .idleReturn => Sys2Proof.Machine.execIdleReturn s
  | .commitTimeReached => Sys2Proof.Machine.execCommitTimeReached s
  | .powerDownStep => Sys2Proof.Machine.execPowerDownStep s
  | .wakeIn active => Sys2Proof.Machine.execWakeIn active s
  | .wakeAlarm => Sys2Proof.Machine.execWakeAlarm s
  | .wakePulseEnd => Sys2Proof.Machine.execWakePulseEnd s
  | .powerUpStep e => Sys2Proof.Machine.execPowerUpStep e s
  | .springImageLoaded readOk => Sys2Proof.Machine.execSpringImageLoaded readOk s
  | .springPaths => Sys2Proof.Machine.execSpringPaths s
  | .renioftRunning => Sys2Proof.Machine.execRenioftRunning s
  | .blobCommit => Sys2Proof.Machine.execBlobCommit s
  | .summerReached => Sys2Proof.Machine.execSummerReached s
  | .vaonBrownout => Sys2Proof.Machine.execVaonBrownout s
  | .vaonRise => Sys2Proof.Machine.execVaonRise s
  | .leaseArm => Sys2Proof.Machine.execLeaseArm s
  | .leaseRenewalSend => Sys2Proof.Machine.execLeaseRenewalSend s
  | .activeLeaseEnd => Sys2Proof.Machine.execActiveLeaseEnd s
  | .leaseRenewalReceived x => Sys2Proof.Machine.execLeaseRenewalReceived x s
  | .standbyLeaseExpiry => Sys2Proof.Machine.execStandbyLeaseExpiry s
  | .yieldReceived => Sys2Proof.Machine.execYieldReceived s
  | .electionWindowExpiry => Sys2Proof.Machine.execElectionWindowExpiry s
  | .partnerLost => Sys2Proof.Machine.execPartnerLost s
  | .pathDown pin => Sys2Proof.Machine.execPathDown pin s
  | .wyusinSegment x => Sys2Proof.Machine.execWyusinSegment x s
  | .creditLimit tc l => Sys2Proof.Machine.execCreditLimit tc l s
  | .creditSend => Sys2Proof.Machine.execCreditSend s
  | .digestWindowClose => Sys2Proof.Machine.execDigestWindowClose s
  | .digestCompare window xa recs => Sys2Proof.Machine.execDigestCompare window xa recs s
  | .mismatchNotice => Sys2Proof.Machine.execMismatchNotice s
  | .pairSelftestDone pass => Sys2Proof.Machine.execPairSelftestDone pass s
  | .partnerVerdict pass => Sys2Proof.Machine.execPartnerVerdict pass s
  | .takeoverDone => Sys2Proof.Machine.execTakeoverDone s
  | .partnerReady => Sys2Proof.Machine.execPartnerReady s
  | .commitWaitExpiry => Sys2Proof.Machine.execCommitWaitExpiry s
  | .checkerWindowClose by_ main checker parity lag => Sys2Proof.Machine.execCheckerWindowClose by_ main checker parity lag s
  | .checkerTimeout main => Sys2Proof.Machine.execCheckerTimeout main s
  | .tcmError core1 corrected main => Sys2Proof.Machine.execTcmError core1 corrected main s
  | .ccrSelftestDone p0 p1 pd pc => Sys2Proof.Machine.execCcrSelftestDone p0 p1 pd pc s
  | .controlRestartDone => Sys2Proof.Machine.execControlRestartDone s
  | .checkerReloadDone => Sys2Proof.Machine.execCheckerReloadDone s
  | .compTestSlot ok => Sys2Proof.Machine.execCompTestSlot ok s
  | .sandboxFault => Sys2Proof.Machine.execSandboxFault s
  | .debugAction core1 a => Sys2Proof.Machine.execDebugAction core1 a s
  | .debugAttach => Sys2Proof.Machine.execDebugAttach s
  | .gailalumKat ok => Sys2Proof.Machine.execGailalumKat ok s
  | .gailalumFault => Sys2Proof.Machine.execGailalumFault s
  | .ncpPacket t peer x => Sys2Proof.Machine.execNcpPacket t peer x s
  | .commandAccepted ses => Sys2Proof.Machine.execCommandAccepted ses s
  | .commandExecute ses env => Sys2Proof.Machine.execCommandExecute ses env s
  | .interimReply ses => Sys2Proof.Machine.execInterimReply ses s
  | .gapTimeExpiry ses => Sys2Proof.Machine.execGapTimeExpiry ses s
  | .commandTimeout ses => Sys2Proof.Machine.execCommandTimeout ses s
  | .journalReplayed env => Sys2Proof.Machine.execJournalReplayed env s
  | .cmdDoorbell ses pi view => Sys2Proof.Machine.execCmdDoorbell ses pi view s
  | .rplCiWrite ses ci view => Sys2Proof.Machine.execRplCiWrite ses ci view s
  | .mailboxBaseWrite ses rpl hi v => Sys2Proof.Machine.execMailboxBaseWrite ses rpl hi v s
  | .sessionOpen ses t q o => Sys2Proof.Machine.execSessionOpen ses t q o s
  | .sessionClose ses => Sys2Proof.Machine.execSessionClose ses s
  | .sessionAttach ses t => Sys2Proof.Machine.execSessionAttach ses t s
  | .sysReset cold env => Sys2Proof.Machine.execSysReset cold env s
  | .funcReset b env => Sys2Proof.Machine.execFuncReset b env s
  | .sysInfo env => Sys2Proof.Machine.execSysInfo env s
  | .configLoad slotB env => Sys2Proof.Machine.execConfigLoad slotB env s
  | .portConfig p x env => Sys2Proof.Machine.execPortConfig p x env s
  | .portEnable p on force env => Sys2Proof.Machine.execPortEnable p on force env s
  | .lgRebalance g moves env => Sys2Proof.Machine.execLgRebalance g moves env s
  | .portStatus p env => Sys2Proof.Machine.execPortStatus p env s
  | .streamSet h x env => Sys2Proof.Machine.execStreamSet h x env s
  | .streamRemove h env => Sys2Proof.Machine.execStreamRemove h env s
  | .gclSet lists sec ns env => Sys2Proof.Machine.execGclSet lists sec ns env s
  | .admitDryRun streams lists env => Sys2Proof.Machine.execAdmitDryRun streams lists env s
  | .psfpUnblock h env => Sys2Proof.Machine.execPsfpUnblock h env s
  | .shaperSet p slopes pre holdNs env => Sys2Proof.Machine.execShaperSet p slopes pre holdNs env s
  | .zoneSet map hi cp zones env => Sys2Proof.Machine.execZoneSet map hi cp zones env s
  | .rulesLoad bank revalidate env => Sys2Proof.Machine.execRulesLoad bank revalidate env s
  | .profileSet n x env => Sys2Proof.Machine.execProfileSet n x env s
  | .ctRead k env => Sys2Proof.Machine.execCtRead k env s
  | .gwConfig g env => Sys2Proof.Machine.execGwConfig g env s
  | .canConfig n c env => Sys2Proof.Machine.execCanConfig n c env s
  | .mvbConfig n c env => Sys2Proof.Machine.execMvbConfig n c env s
  | .gwSend output payload deadlineMs wait env => Sys2Proof.Machine.execGwSend output payload deadlineMs wait env s
  | .canRecover n env => Sys2Proof.Machine.execCanRecover n env s
  | .mvbPortRead n a env => Sys2Proof.Machine.execMvbPortRead n a env s
  | .timeConfig t ports env => Sys2Proof.Machine.execTimeConfig t ports env s
  | .clockStep sec ns env => Sys2Proof.Machine.execClockStep sec ns env s
  | .sleepReady on env => Sys2Proof.Machine.execSleepReady on env s
  | .seasonsConfig x env => Sys2Proof.Machine.execSeasonsConfig x env s
  | .wakeRequest env => Sys2Proof.Machine.execWakeRequest env s
  | .pairConfig x env => Sys2Proof.Machine.execPairConfig x env s
  | .switchover env => Sys2Proof.Machine.execSwitchover env s
  | .compareResume env => Sys2Proof.Machine.execCompareResume env s
  | .keyInstall b env => Sys2Proof.Machine.execKeyInstall b env s
  | .keyErase t env => Sys2Proof.Machine.execKeyErase t env s
  | .secySet m env => Sys2Proof.Machine.execSecySet m env s
  | .attest nonce p384 env => Sys2Proof.Machine.execAttest nonce p384 env s
  | .updateBlock partner offset data env => Sys2Proof.Machine.execUpdateBlock partner offset data env s
  | .updateVerify env => Sys2Proof.Machine.execUpdateVerify env s
  | .solsticeSet sec ns env => Sys2Proof.Machine.execSolsticeSet sec ns env s
  | .updateAbort env => Sys2Proof.Machine.execUpdateAbort env s
  | .faultRead ix env => Sys2Proof.Machine.execFaultRead ix env s
  | .lateRingRead n env => Sys2Proof.Machine.execLateRingRead n env s
  | .lateRingAck n env => Sys2Proof.Machine.execLateRingAck n env s
  | .restore ix env => Sys2Proof.Machine.execRestore ix env s
  | .counterRead block index count env => Sys2Proof.Machine.execCounterRead block index count env s
  | .regRead a n env => Sys2Proof.Machine.execRegRead a n env s
  | .regWrite a v mirror env => Sys2Proof.Machine.execRegWrite a v mirror env s
  | .txDoorbell q pi => Sys2Proof.Machine.execTxDoorbell q pi s
  | .rxDoorbell q pi => Sys2Proof.Machine.execRxDoorbell q pi s
  | .queueStart q tx rx view => Sys2Proof.Machine.execQueueStart q tx rx view s
  | .queueStop q tx rx view => Sys2Proof.Machine.execQueueStop q tx rx view s
  | .queueResume q tx rx view => Sys2Proof.Machine.execQueueResume q tx rx view s
  | .queueSkip q tx rx view => Sys2Proof.Machine.execQueueSkip q tx rx view s
  | .invCmd space scope => Sys2Proof.Machine.execInvCmd space scope s
  | .txFrameFetch heads view => Sys2Proof.Machine.execTxFrameFetch heads view s
  | .rxFrameWrite view => Sys2Proof.Machine.execRxFrameWrite view s
  | .completionError x => Sys2Proof.Machine.execCompletionError x s
  | .flr => Sys2Proof.Machine.execFlr s
  | .perst => Sys2Proof.Machine.execPerst s
  | .hifLinkChange up speed width bme => Sys2Proof.Machine.execHifLinkChange up speed width bme s
  | .irqDelayExpiry q => Sys2Proof.Machine.execIrqDelayExpiry q s
  | .registerWrite path a whole v view => Sys2Proof.Machine.execRegisterWrite path a whole v view s
  | .statusClear a v => Sys2Proof.Machine.execStatusClear a v s
  | .aliasWrite path p o b v => Sys2Proof.Machine.execAliasWrite path p o b v s
  | .evtEnWrite hi v => Sys2Proof.Machine.execEvtEnWrite hi v s
  | .glbLockWrite v => Sys2Proof.Machine.execGlbLockWrite v s
  | .hashKeyWrite k v => Sys2Proof.Machine.execHashKeyWrite k v s
  | .latePop n => Sys2Proof.Machine.execLatePop n s
  | .porstNLow => Sys2Proof.Machine.execPorstNLow s
  | .coldStart e => Sys2Proof.Machine.execColdStart e s
  | .warmReset => Sys2Proof.Machine.execWarmReset s
  | .solstice e => Sys2Proof.Machine.execSolstice e s
  | .solsticePairWait newImages e => Sys2Proof.Machine.execSolsticePairWait newImages e s
  | .confirm => Sys2Proof.Machine.execConfirm s
  | .bootWatchdog e => Sys2Proof.Machine.execBootWatchdog e s
  | .restoreTestDone ix pass => Sys2Proof.Machine.execRestoreTestDone ix pass s
  | .journalCopyDone ch => Sys2Proof.Machine.execJournalCopyDone ch s
  | .tjHigh t => Sys2Proof.Machine.execTjHigh t s
  | .refclkFault ppm => Sys2Proof.Machine.execRefclkFault ppm s
  | .vddInRange => Sys2Proof.Machine.execVddInRange s
  | .vddStartTimeout => Sys2Proof.Machine.execVddStartTimeout s
  | .pwrRetry => Sys2Proof.Machine.execPwrRetry s
  | .pfcHoldExpiry p prio => Sys2Proof.Machine.execPfcHoldExpiry p prio s
  | .canRxError n lec by8 => Sys2Proof.Machine.execCanRxError n lec by8 s
  | .masterFrameReceived n fcode a l => Sys2Proof.Machine.execMasterFrameReceived n fcode a l s
  | .streamGateEvent g => Sys2Proof.Machine.execStreamGateEvent g s
  | .holdRequest p => Sys2Proof.Machine.execHoldRequest p s
  | .pdelayReqSend p => Sys2Proof.Machine.execPdelayReqSend p s
  | .pdelayReqReceived p => Sys2Proof.Machine.execPdelayReqReceived p s
  | .syncSend domB p => Sys2Proof.Machine.execSyncSend domB p s
  | .announceSend domB p => Sys2Proof.Machine.execAnnounceSend domB p s
  | .wrstNRise e => Sys2Proof.Machine.execWrstNRise e s
  | .vbatLoss => Sys2Proof.Machine.execVbatLoss s
  | .healthTestFail => Sys2Proof.Machine.execHealthTestFail s
  | .standbyAliveEdge => Sys2Proof.Machine.execStandbyAliveEdge s

end Sys2Proof.Machine
end

