-- ==== Sys2Proof/Machine/Step.lean ====
section
/-! DEFINITION. One step: the oldest waiting command, or one clock of an idle block. -/

namespace Sys2Proof.Machine

/-- A step takes the command at the front of the queue; on an empty queue 4 ns pass. (log entry 1: DESIGN CHOICE, 4: DESIGN CHOICE) -/
def step (s : State) : Host.Outcome State Fault Refusal :=
  match s.pending with
  | [] => .next { s with dev := idleTick s.dev }
  | i :: rest => exec i { s with pending := rest }

/-- The command a table word spells goes to the front of the queue; no word spells one. -/
def State.withFetchWord (s : State) (nbits w : Nat) : State :=
  match decodeTableWord nbits w with
  | some i => { s with pending := i :: s.pending }
  | none => s

end Sys2Proof.Machine
end

