-- ==== Sys2Proof/Safety.lean ====
section
/-! DEFINITION. What the claims call a safe run, and the domain each command acts in: the main domain (Spring and Summer, 13 Table SSN-1), the register
bus (18 Table REG-3), the time manager (04 R118, R135), or the parts that keep their supply in every season (01 R17). -/

namespace Sys2Proof.Machine

/-- Where a command acts. -/
inductive CmdDomain where
  | main
  | bus
  | time
  | always
  deriving DecidableEq, Repr

def domainOf (i : Instr) : CmdDomain :=
  match i with
  | .partnerCommit _ => .main
  | .sleepAcceptanceStop => .main
  | .cellAllocate _ _ _ _ _ _ _ => .main
  | .pfcRefresh _ => .main
  | .headerArbitration => .main
  | .pipelineDecision => .main
  | .fdbAgeOut _ _ => .main
  | .linkDown _ => .main
  | .linkUp _ => .main
  | .flowletMove _ _ => .main
  | .schedulerSelect _ => .main
  | .transmitComplete _ _ => .main
  | .frameEndReceived _ _ _ _ _ => .main
  | .icvVerdict _ _ => .main
  | .pfcReceived _ _ => .main
  | .averageUpdate => .main
  | .ageScrub => .main
  | .spillWriteDone _ => .main
  | .spillRefill _ _ => .main
  | .spillReady => .main
  | .keeperTimeWrite => .time
  | .syncReceived _ _ _ _ => .time
  | .announceReceived _ _ _ _ => .time
  | .syncReceiptTimeout _ => .time
  | .announceReceiptTimeout _ => .time
  | .gmHoldExpiry _ => .time
  | .revertHoldExpiry => .time
  | .pdelayMeasurement _ _ => .time
  | .pdelayFail _ => .time
  | .timSnap _ => .bus
  | .txtsPop _ _ => .bus
  | .gateEvent _ => .main
  | .gclSwitch => .main
  | .preemptVerify _ _ => .main
  | .admissionRecheck => .main
  | .sequenceTest => .main
  | .mirrorComplete _ => .main
  | .recordComplete _ => .main
  | .partnerAck _ => .main
  | .replLost => .main
  | .markRecord => .main
  | .holdExpiry _ => .main
  | .recovReset _ => .main
  | .memberSilent _ _ => .main
  | .journalReplay _ _ => .main
  | .replicaRecord _ => .main
  | .missLookupDone _ _ => .main
  | .ctScan _ => .main
  | .ctRevalidate => .main
  | .fragExpiry => .main
  | .stateRebuilt => .main
  | .pickupGraceEnd => .main
  | .ctMirror _ _ => .main
  | .ctResendDone => .main
  | .bankCheck _ => .main
  | .setupRequest _ _ _ _ _ => .main
  | .setupTimeout _ => .main
  | .touch _ _ _ => .main
  | .pnCkptWriteDone _ _ _ => .main
  | .eraseAbort => .main
  | .mkaPdu _ _ => .main
  | .entropyTestDone _ => .main
  | .drbgReseed => .main
  | .tamperDetect _ => .always
  | .helloReceived _ _ _ => .main
  | .topologyReceived _ _ => .main
  | .helloSend _ => .main
  | .topologySend _ => .main
  | .neighbourLost _ => .main
  | .topoStableExpiry => .main
  | .routeCommit _ _ => .main
  | .bypassSettleExpiry => .main
  | .bypassWd => .main
  | .topoInhibit _ => .main
  | .bypassCommand _ => .main
  | .cxTxreq _ _ => .main
  | .cxTxcancel _ _ => .main
  | .cxTxack _ _ => .main
  | .cxRxack _ _ => .main
  | .canFrameReceived _ _ => .main
  | .canAttemptStart _ => .main
  | .canAttemptEnd _ _ _ => .main
  | .busOffEnd _ => .main
  | .canWakeDetect _ => .always
  | .mvbSlaveFrame _ _ _ _ => .main
  | .mvbSourceWrite _ _ _ => .main
  | .mvbAgeTick _ => .main
  | .mvbBasicPeriod _ => .main
  | .mvbReplyTimeout _ _ => .main
  | .mvbForeignMaster _ => .main
  | .masterSilenceExpiry _ => .main
  | .mastershipOffer _ _ => .main
  | .mvbOfferReceived _ => .main
  | .deviceScan _ _ _ => .main
  | .gwEgressArrival _ => .main
  | .trdpReceived _ _ _ => .main
  | .acfReceived _ _ _ _ => .main
  | .cyclicEmit _ => .main
  | .subStale _ => .main
  | .gwDeadline _ => .main
  | .pubMirrorDone _ => .main
  | .gwStart => .main
  | .wakeHoldExpiry => .always
  | .roundStart => .main
  | .eqxConsent _ => .main
  | .eqxCommit _ => .main
  | .eqxAck _ => .main
  | .eqxRefuse _ => .main
  | .eqxAbort _ => .main
  | .eqxVeto _ => .main
  | .eqxKeepalive _ => .main
  | .hopTimeout => .main
  | .tokenTimeout => .main
  | .abortRepeat => .main
  | .consentExpired => .main
  | .kaSend => .main
  | .kaSilenceExpiry => .main
  | .idleReturn => .main
  | .commitTimeReached => .main
  | .powerDownStep => .always
  | .wakeIn _ => .always
  | .wakeAlarm => .always
  | .wakePulseEnd => .always
  | .powerUpStep _ => .always
  | .springImageLoaded _ => .main
  | .springPaths => .main
  | .renioftRunning => .main
  | .blobCommit => .main
  | .summerReached => .main
  | .vaonBrownout => .always
  | .vaonRise => .always
  | .leaseArm => .main
  | .leaseRenewalSend => .main
  | .activeLeaseEnd => .main
  | .leaseRenewalReceived _ => .main
  | .standbyLeaseExpiry => .main
  | .yieldReceived => .main
  | .electionWindowExpiry => .main
  | .partnerLost => .main
  | .pathDown _ => .main
  | .wyusinSegment _ => .main
  | .creditLimit _ _ => .main
  | .creditSend => .main
  | .digestWindowClose => .main
  | .digestCompare _ _ _ => .main
  | .mismatchNotice => .main
  | .pairSelftestDone _ => .main
  | .partnerVerdict _ => .main
  | .takeoverDone => .main
  | .partnerReady => .main
  | .commitWaitExpiry => .main
  | .checkerWindowClose _ _ _ _ _ => .main
  | .checkerTimeout _ => .main
  | .tcmError _ _ _ => .main
  | .ccrSelftestDone _ _ _ _ => .main
  | .controlRestartDone => .main
  | .checkerReloadDone => .main
  | .compTestSlot _ => .main
  | .sandboxFault => .main
  | .debugAction _ _ => .main
  | .debugAttach => .main
  | .gailalumKat _ => .main
  | .gailalumFault => .main
  | .ncpPacket _ _ _ => .main
  | .commandAccepted _ => .main
  | .commandExecute _ _ => .main
  | .interimReply _ => .main
  | .gapTimeExpiry _ => .main
  | .commandTimeout _ => .main
  | .journalReplayed _ => .main
  | .cmdDoorbell _ _ _ => .bus
  | .rplCiWrite _ _ _ => .bus
  | .mailboxBaseWrite _ _ _ _ => .bus
  | .sessionOpen _ _ _ _ => .main
  | .sessionClose _ => .main
  | .sessionAttach _ _ => .main
  | .sysReset _ _ => .main
  | .funcReset _ _ => .main
  | .sysInfo _ => .main
  | .configLoad _ _ => .main
  | .portConfig _ _ _ => .main
  | .portEnable _ _ _ _ => .main
  | .lgRebalance _ _ _ => .main
  | .portStatus _ _ => .main
  | .streamSet _ _ _ => .main
  | .streamRemove _ _ => .main
  | .gclSet _ _ _ _ => .main
  | .admitDryRun _ _ _ => .main
  | .psfpUnblock _ _ => .main
  | .shaperSet _ _ _ _ _ => .main
  | .zoneSet _ _ _ _ _ => .main
  | .rulesLoad _ _ _ => .main
  | .profileSet _ _ _ => .main
  | .ctRead _ _ => .main
  | .gwConfig _ _ => .main
  | .canConfig _ _ _ => .main
  | .mvbConfig _ _ _ => .main
  | .gwSend _ _ _ _ _ => .main
  | .canRecover _ _ => .main
  | .mvbPortRead _ _ _ => .main
  | .timeConfig _ _ _ => .main
  | .clockStep _ _ _ => .main
  | .sleepReady _ _ => .main
  | .seasonsConfig _ _ => .main
  | .wakeRequest _ => .main
  | .pairConfig _ _ => .main
  | .switchover _ => .main
  | .compareResume _ => .main
  | .keyInstall _ _ => .main
  | .keyErase _ _ => .main
  | .secySet _ _ => .main
  | .attest _ _ _ => .main
  | .updateBlock _ _ _ _ => .main
  | .updateVerify _ => .main
  | .solsticeSet _ _ _ => .main
  | .updateAbort _ => .main
  | .faultRead _ _ => .main
  | .lateRingRead _ _ => .main
  | .lateRingAck _ _ => .main
  | .restore _ _ => .main
  | .counterRead _ _ _ _ => .main
  | .regRead _ _ _ => .main
  | .regWrite _ _ _ _ => .main
  | .txDoorbell _ _ => .bus
  | .rxDoorbell _ _ => .bus
  | .queueStart _ _ _ _ => .bus
  | .queueStop _ _ _ _ => .bus
  | .queueResume _ _ _ _ => .bus
  | .queueSkip _ _ _ _ => .bus
  | .invCmd _ _ => .bus
  | .txFrameFetch _ _ => .main
  | .rxFrameWrite _ => .main
  | .completionError _ => .main
  | .flr => .main
  | .perst => .main
  | .hifLinkChange _ _ _ _ => .main
  | .irqDelayExpiry _ => .main
  | .registerWrite _ _ _ _ _ => .always
  | .statusClear _ _ => .bus
  | .aliasWrite _ _ _ _ _ => .always
  | .evtEnWrite _ _ => .bus
  | .glbLockWrite _ => .bus
  | .hashKeyWrite _ _ => .bus
  | .latePop _ => .bus
  | .porstNLow => .always
  | .coldStart _ => .always
  | .warmReset => .always
  | .solstice _ => .main
  | .solsticePairWait _ _ => .main
  | .confirm => .main
  | .bootWatchdog _ => .main
  | .restoreTestDone _ _ => .main
  | .journalCopyDone _ => .main
  | .tjHigh _ => .main
  | .refclkFault _ => .main
  | .vddInRange => .always
  | .vddStartTimeout => .always
  | .pwrRetry => .always
  | .pfcHoldExpiry _ _ => .main
  | .canRxError _ _ _ => .main
  | .masterFrameReceived _ _ _ _ => .main
  | .streamGateEvent _ => .main
  | .holdRequest _ => .main
  | .pdelayReqSend _ => .time
  | .pdelayReqReceived _ => .time
  | .syncSend _ _ => .time
  | .announceSend _ _ => .time
  | .wrstNRise _ => .always
  | .vbatLoss => .always
  | .healthTestFail => .main
  | .standbyAliveEdge => .main

/-- Whether the domain of a command answers in a state of the device. -/
def domainUp (i : Instr) (d : Device) : Bool :=
  match domainOf i with
  | .main => powered d
  | .bus => powered d && !d.boot.inReset
  | .time => powered d && renioftRuns d
  | .always => true

/-- Every waiting command names things the hardware has. -/
def QueueWF (s : State) : Prop := s.pending.all wellFormed = true

/-- A run of `n` steps is safe when none of them stops. -/
def SafeRun (n : Nat) (s : State) : Prop := ∃ t, core.run n s = .next t

end Sys2Proof.Machine
end

