-- ==== Sys2Proof/Certificates/Slice0/Obligations.lean ====
section
/-! DEFINITION. The statements for the provers: per family of commands what each command does when it takes effect, and what every step keeps. -/

namespace Sys2Proof.Machine

/-- The main domain has its rails (13 Table SSN-1). -/
abbrev Up (s : State) : Prop := powered s.dev = true

/-- The time manager runs: the main domain has its rails, and Renioft runs (04 R118, R135). -/
abbrev TimeUp (s : State) : Prop := powered s.dev = true ∧ renioftRuns s.dev = true

/-- The register bus answers (18 Table REG-3). -/
abbrev BusUp (s : State) : Prop := powered s.dev = true ∧ s.dev.boot.inReset = false

/-- The command answers a next state whose device is `d`, and whose queue is as it was. -/
abbrev Gives (i : Instr) (s : State) (d : Device) : Prop := exec i s = .next { s with dev := d }

/-- The command answers a next state whose device satisfies `P`, and whose queue is as it was. -/
abbrev Reaches (i : Instr) (s : State) (P : Device → Prop) : Prop := ∃ d, exec i s = .next { s with dev := d } ∧ P d

/-- Beside status, counters, outputs, the gateway and the channel named, a CAN command leaves everything as it was. -/
abbrev CanChannelOnly (n : Nat) (s : State) (d : Device) : Prop :=
  d = { s.dev with can := d.can, gw := d.gw, sq := d.sq, ctr := d.ctr, out := d.out, flt := d.flt, freeCtr := d.freeCtr } ∧
  ∀ m, m ≠ n → canSt d m = canSt s.dev m

/-- Beside status, counters, outputs, the gateway and the channel named, an MVB command leaves everything as it was. -/
abbrev MvbChannelOnly (n : Nat) (s : State) (d : Device) : Prop :=
  d = { s.dev with mvb := d.mvb, gw := d.gw, sq := d.sq, ctr := d.ctr, out := d.out, flt := d.flt, freeCtr := d.freeCtr } ∧
  ∀ m, m ≠ n → mvbSt d m = mvbSt s.dev m

/-- Both lines of a channel are in use and carry this frame well. -/
abbrev MvbLinesGood (n : Nat) (s : State) (l : MvbLines) : Prop :=
  l.a = .ok ∧ l.b = .ok ∧ l.collision = false ∧ (mvbSt s.dev n).distA = false ∧ (mvbSt s.dev n).distB = false ∧
  0 < (mvbCfg s.dev.cfg n).lineFail

/-- No CAN and no MVB channel is on. -/
abbrev BusesOff (s : State) : Prop := (∀ n, (canSt s.dev n).on = false) ∧ ∀ n, (mvbSt s.dev n).role = .off

/-- The gateway builds no messages: it has not started, or the control cores have stopped it (12 R360). -/
abbrev GwQuiet (s : State) : Prop := s.dev.gw.running = false ∨ s.dev.gw.stopped = true

/-- An operation without a session passes stage 3 (16 R469). -/
abbrev Passes (op : NcpOp) (env : ExecEnv) (s : State) : Prop :=
  powered s.dev = true ∧ ncpRuns s.dev = true ∧ checkOp true env.via 0 op s.dev = (none, s.dev)

/-- A reply without a trailer, on a transport other than Ethernet or of no session: its packet is the header of Table NCP-1 with the body (16 R462). -/
abbrev plainReply (who : Option (Nat × Word)) (replay : Bool) (r : Reply) (peer : Option NcpPeer) : Output :=
  .reply who replay r (replyHead ((who.map Prod.fst).getD 0) ((who.map Prod.snd).getD 0) replay false r) peer

/-- The final reply of an operation of no session, under an epoch. -/
abbrev replied (op : NcpOp) (r : Res) (epoch : Word) : Output :=
  plainReply none false { status := r.status, reason := r.reason, acc := true, epoch := epoch, body := r.body, opcode := op.code } none

/-- Beside the command journal, its mirror to the partner and the count of accepted commands, nothing but the outputs differs. -/
abbrev JournalOnly (s : State) (d : Device) : Prop :=
  d = { s.dev with ncp := d.ncp, ctr := d.ctr, wy := d.wy, freeCtr := d.freeCtr, out := d.out }

/-- The command is one that only reads: its reply is `r`, and beside the journal of commands nothing else happens. -/
abbrev OnlyReplies (i : Instr) (op : NcpOp) (r : Res) (s : State) : Prop :=
  Reaches i s (fun d => replied op r s.dev.glb.cfgEpoch ∈ d.out ∧ JournalOnly s d)

/-- No class C command is on its way to its epoch boundary, and none waits before this one (16 R475). -/
abbrev InTurn (s : State) : Prop := configBusy s.dev = false ∧ configAhead (s.dev.ncp.arrivals + 1) s.dev = false

/-- The device commits alone, or its partner takes part in the commit (14 R434). -/
abbrev CommitsNow (env : ExecEnv) (s : State) : Prop := exchanges s.dev = false ∨ env.partner = .ok

/-- The command is a configuration operation that passes stage 3 in its turn, without SWITCH_TIME: the configuration it asks for, of which `P` holds, is in force under the
next epoch, with event 0x0103, and it is answered OK. -/
abbrev Commits (i : Instr) (op : NcpOp) (env : ExecEnv) (s : State) (P : Cfg → Prop) : Prop :=
  Passes op env s → InTurn s → CommitsNow env s →
    Reaches i s (fun d => P d.cfg ∧ d.glb.cfgEpoch = s.dev.glb.cfgEpoch + 1 ∧ Output.event 0x0103 0 ∈ d.out ∧
      ∃ b, replied op { body := b } (s.dev.glb.cfgEpoch + 1) ∈ d.out)

/-- A message of up to 1,600 bytes on a Wyusin control channel leaves at once: the path is up, nothing waits, and it stays within 64 KiB (14 R418). -/
abbrev ChannelRoom (ch : Nat) (s : State) : Prop :=
  s.dev.pair.wyUp = true ∧ s.dev.pair.role ≠ .failed ∧ (wyTx s.dev ch).waiting = [] ∧ (wyTx s.dev ch).open_ + 1600 ≤ 65536

/-- Winter, as an invariant: the Keeper and the flash and OTP stand, the main domain is empty and no rail is up or about to rise. -/
abbrev InWinter (d : Device) : Prop :=
  d.ssn.season = .winter ∧ d.ssn.leaving = none ∧ d.ssn.pwrEn = 0 ∧ d.boot.wrstLow = false ∧ d.cfg = {} ∧ d.buf = {} ∧ d.fwd = {} ∧ d.ports = [] ∧
  d.fwl = {} ∧ d.sec = {} ∧ d.ncp = {}

end Sys2Proof.Machine

open Sys2Proof Sys2Proof.Machine
/-! ### Frame path and buffers (02, 03) -/

/-- CELL_ALLOCATE of the first bytes of a frame (R36, R69, R75), where the headroom has room and the bytes stay within 9,216: the frame is stored with its port, its
bytes and its cells, and its header enters arbitration as soon as it is ready; no queue and no port changes. On port CP with the allotment of its class exhausted the
transmit call is answered BUSY and nothing else changes (Table BUF-3). HEADER_ARBITRATION (R37, R38): with one header in arbitration, of an internal port, and no answer of the
miss path waiting, that header enters the pipeline under the current epoch and the calendar advances; with no header in arbitration, a recirculation slot takes the oldest answer of the miss path. -/
def Obligations.FramesEnterPipeline : Prop :=
  (∀ (s : State) (p id : Nat) (chunk : Bytes) (e : Bool) (tag : Option SecTag) (sub : Nat) (tx : Option (BitVec 16)),
    Up s → p < 38 → frameOf s.dev id = none → chunk.length + 4 ≤ 9216 →
    (p < 25 → lookupD s.dev.buf.headroom p 0 + ceilDiv (chunk.length + 32) 256 ≤ headroomOf s.dev.cfg p) →
    (p = 36 → cpBusy chunk s.dev = false) →
    Reaches (.cellAllocate p id chunk e tag sub tx) s (fun d =>
      (∃ f, frameOf d id = some f ∧ f.port = p ∧ f.bytes = chunk ∧ f.cells = ceilDiv (chunk.length + 32) 256 ∧ f.phase = .arriving ∧
        f.ended = false ∧ f.express = e ∧ f.ageStamp = s.dev.buf.ageClock ∧
        d.fwd = { s.dev.fwd with arrivals := s.dev.fwd.arrivals ++ (if headerReady s.dev f = true ∧ id ∉ s.dev.fwd.arrivals then [id] else []) }) ∧
      d.cfg = s.dev.cfg ∧ d.ports = s.dev.ports ∧ d.buf.queues = s.dev.buf.queues ∧ (∀ k, k ≠ id → frameOf d k = frameOf s.dev k))) ∧
  (∀ (s : State) (id : Nat) (chunk : Bytes) (e : Bool) (tag : Option SecTag) (sub : Nat) (tx : Option (BitVec 16)),
    Up s → frameOf s.dev id = none → cpBusy chunk s.dev = true →
    Gives (.cellAllocate 36 id chunk e tag sub tx) s { s.dev with out := s.dev.out ++ [.cpBusy] }) ∧
  (∀ (s : State) (id : Nat) (f : Frame), Up s → s.dev.fwd.arrivals = [id] → frameOf s.dev id = some f → 24 < f.port → f.port < 37 →
    s.dev.fwd.recirc = [] →
    Reaches .headerArbitration s (fun d =>
      frameOf d id = some { f with phase := .inPipe, epoch := s.dev.glb.cfgEpoch, mac := .clear } ∧
      d.fwd.pipe = s.dev.fwd.pipe ++ [id] ∧ d.fwd.arrivals = [] ∧ d.fwd.calSlot = (s.dev.fwd.calSlot + 1) % 128 ∧
      d.buf.queues = s.dev.buf.queues ∧ d.ports = s.dev.ports ∧ d.ctr = s.dev.ctr ∧ d.cfg = s.dev.cfg ∧ d.out = s.dev.out)) ∧
  (∀ (s : State) (id : Nat) (key : Bytes) (rest : List (Nat × Bytes)), Up s → s.dev.fwd.arrivals = [] →
    s.dev.fwd.recirc = (id, key) :: rest → (rest.any (fun x => x.2 = key)) = true →
    92 ≤ s.dev.fwd.calSlot → s.dev.fwd.calSlot < 105 →
    Gives .headerArbitration s { s.dev with fwd := { s.dev.fwd with
      calSlot := s.dev.fwd.calSlot + 1, recirc := rest, pipe := s.dev.fwd.pipe ++ [id] } })

/-- PIPELINE_DECISION (R39, R55, Table FWD-6), with no comparison of outputs configured: the oldest header of the pipeline is decided and leaves it. A frame of an
Ethernet port that is not configured is discarded as PORT_STATE (0x0211) and counted on its port, and no queue changes; a link-local frame of a configured and ready port, or
of a port that is no Ethernet port, gets one copy at the end of the queue of CP for its priority, where CP is enabled and that queue is of class Assured and not in spill
state, and is kept. -/
def Obligations.DecisionDiscardsOrQueues : Prop :=
  (∀ (s : State) (id : Nat) (rest : List Nat) (f : Frame), Up s → s.dev.fwd.pipe = id :: rest → frameOf s.dev id = some f →
    f.dec = none → f.port < 25 → (cfgPort (cfgAt s.dev f.epoch) f.port).configured = false → f.ended = false →
    s.dev.cfg.pair.compare = [] → (∀ x ∈ s.dev.buf.allots, x.1 < 304) → (∀ i, f.charge = .allot i → i < 304) →
    Reaches .pipelineDecision s (fun d =>
      (∃ g, frameOf d id = some g ∧ g.phase = .dropped ∧ g.cells = 0 ∧ g.refs = 0) ∧ d.fwd = { s.dev.fwd with pipe := rest } ∧
      counter (codeKey 0x0211 f.port) d = counter (codeKey 0x0211 f.port) s.dev + 1 ∧ d.buf.queues = s.dev.buf.queues ∧ d.ports = s.dev.ports ∧
      d.cfg = s.dev.cfg)) ∧
  (∀ (s : State) (id : Nat) (rest : List Nat) (f : Frame) (q : Nat), Up s → s.dev.fwd.pipe = id :: rest → frameOf s.dev id = some f →
    f.dec = none → (f.port < 25 → (cfgPort (cfgAt s.dev f.epoch) f.port).configured = true ∧ (portSt s.dev f.port).ready = true) →
    isLinkLocal (parse (cfgAt s.dev f.epoch).fwd.userTypes f.bytes) = true → s.dev.cfg.pair.compare = [] → portOff s.dev 36 = false →
    q = queueFor (cfgAt s.dev f.epoch) 36
      (f.hostTc.getD (framePrio (cfgAt s.dev f.epoch) f.port (parse (cfgAt s.dev f.epoch).fwd.userTypes f.bytes))) none →
    q / 8 = 36 → (queueCfg (cfgAt s.dev f.epoch) q).cls = .assured → (queueOf s.dev q).inSpill = false →
    Reaches .pipelineDecision s (fun d =>
      (∃ c, (queueOf d q).copies = (queueOf s.dev q).copies ++ [c] ∧ c.frame = id ∧ c.age = f.ageStamp ∧ c.itc = f.itc ∧ c.cls = .assured) ∧
      (∀ k, k ≠ q → queueOf d k = queueOf s.dev k) ∧
      (∃ g, frameOf d id = some g ∧ g.phase = .decided ∧ g.refs = f.refs + 1 ∧ g.bytes = f.bytes) ∧ d.fwd = { s.dev.fwd with pipe := rest } ∧
      d.ports = s.dev.ports ∧ d.cfg = s.dev.cfg))

/-- FRAME_END_RECEIVED (R58, R59, Table SCH-15): a decided frame of no stream with a good FCS, no code error and a length from 64 to 9,216 bytes, whose cells are taken,
has ended, and nothing but its own entry changes; where it came in preemptable mPackets on an Ethernet port and was reassembled, FRAG_RX counts its fragments as well. A
frame with a bad FCS of which no copy cuts through is discarded as RX_ERR (0x0210) and counted on its port.
ICV_VERDICT (R261): a good verdict on a frame whose PN is not below the lowest acceptable one and whose ICV has its place marks the frame good, counts it, and
advances the receive SA, where the SecY does not have validation disabled. -/
def Obligations.FrameEndAndVerdict : Prop :=
  (∀ (s : State) (id n : Nat) (e : Bool) (f : Frame), Up s → frameOf s.dev id = some f → f.ended = false → f.phase = .decided → f.stream = none →
    f.late = [] → 64 ≤ storedLen f → storedLen f ≤ 9216 → cellsFor (storedLen f) ≤ f.cells → (f.express = true ∨ 25 ≤ f.port) →
    (∀ r ∈ s.dev.pair.recs, r.frame ≠ id) →
    Gives (.frameEndReceived id true false n e) s (setFrame id { f with ended := true } s.dev)) ∧
  (∀ (s : State) (id n : Nat) (f : Frame), Up s → frameOf s.dev id = some f → f.ended = false → f.phase = .decided → f.stream = none →
    f.late = [] → 64 ≤ storedLen f → storedLen f ≤ 9216 → cellsFor (storedLen f) ≤ f.cells → f.express = false → f.port < 25 → 0 < n →
    (∀ r ∈ s.dev.pair.recs, r.frame ≠ id) →
    Gives (.frameEndReceived id true false n false) s
      (setFrame id { f with ended := true } (bumpBy (0x800410 + f.port * 0x1000) n s.dev))) ∧
  (∀ (s : State) (id : Nat) (f : Frame), Up s → frameOf s.dev id = some f → f.ended = false → f.phase = .decided → f.late = [] → f.port < 25 →
    f.express = true → f.refs = 0 → inTransmission id s.dev = false → (∀ q, (queueOf s.dev q).copies = [] ∧ (queueOf s.dev q).spill = []) →
    (∀ x ∈ s.dev.buf.allots, x.1 < 304) → (∀ i, f.charge = .allot i → i < 304) → s.dev.fwd.recirc = [] → s.dev.fwl.missQ = [] →
    Reaches (.frameEndReceived id false false 0 false) s (fun d =>
      frameOf d id = none ∧ counter (codeKey 0x0210 f.port) d = counter (codeKey 0x0210 f.port) s.dev + 1 ∧
      d.ports = s.dev.ports ∧ d.cfg = s.dev.cfg)) ∧
  (∀ (s : State) (id sc pn : Nat) (an : BitVec 2) (f : Frame) (sa : RxSa) (rc : RxScCfg) (sy : SecyCfg), Up s → frameOf s.dev id = some f →
    f.mac = .pending sc an pn → f.deferred = [] → (∀ t, f.tag = some t → badTag t f.bytes.length true = false) →
    rxSaOf s.dev sc an = some sa → sa.lowest ≤ pn →
    lookup? (cfgAt s.dev f.epoch).msc.rxScs sc = some rc → lookup? (cfgAt s.dev f.epoch).msc.secys rc.secy = some sy → sy.validate ≠ .disabled →
    Reaches (.icvVerdict id true) s (fun d =>
      frameOf d id = some { f with mac := .good sc, deferred := [] } ∧
      rxSaOf d sc an = some (rxSaAccepted sy.replayWindow pn sa) ∧
      counter (0x488000 + sc * 0x80) d = counter (0x488000 + sc * 0x80) s.dev + 1 ∧
      d.buf.queues = s.dev.buf.queues ∧ d.ports = s.dev.ports ∧ d.out = s.dev.out ∧ d.cfg = s.dev.cfg))

/-- PFC_REFRESH (R77): on a port without PFC with an exhausted allotment a PAUSE is sent again; on a port with PFC of which one allotment is exhausted, a PFC frame that names
exactly the priorities of its class. PFC_RECEIVED (R80): a PFC frame sets and ends holds by priority, and a PAUSE sets or ends the hold of the port; where it names a
Scheduled class with quanta, PFC_IGNORED (0x0312) is counted. PFC_HOLD_EXPIRY: a hold whose time is over ends. Nothing else changes. -/
def Obligations.FlowControlHolds : Prop :=
  (∀ (s : State) (p t : Nat), Up s → p < 25 → t < 8 → (allotOf s.dev (p * 8 + t)).exhausted = true → (portCfg s.dev p).pfc = false →
    Gives (.pfcRefresh p) s { s.dev with out := s.dev.out ++ [.pause p true] }) ∧
  (∀ (s : State) (p t : Nat), Up s → p < 25 → t < 8 → (∀ u, u < 8 → ((allotOf s.dev (p * 8 + u)).exhausted = true ↔ u = t)) →
    (portCfg s.dev p).pfc = true →
    ∃ m : BitVec 8, (∀ k, k < 8 → (m.getLsbD k = true ↔ tcOf s.dev.cfg p k = t)) ∧
      Gives (.pfcRefresh p) s { s.dev with out := s.dev.out ++ [.pfc p m true] }) ∧
  (∀ (s : State) (p : Nat) (l : List (Nat × Nat)), Up s → p < 25 → (∀ y ∈ l, y.1 < 8 ∧ y.2 < 65536) →
    (∀ y ∈ l, y.2 ≠ 0 → schedQueue s.dev p (tcOf s.dev.cfg p y.1) = false) →
    Gives (.pfcReceived p (.pfc l)) s
      (modPort p (fun x => { x with hold := { x.hold with prios := l.foldl (fun t y =>
        if y.2 = 0 then removeAt t y.1 else insertAt t y.1 (s.dev.now + y.2 * quantumPs s.dev p)) x.hold.prios } }) s.dev)) ∧
  (∀ (s : State) (p quanta tc : Nat), Up s → p < 25 → quanta ≠ 0 → quanta < 65536 → tc < 8 → schedQueue s.dev p tc = true →
    Gives (.pfcReceived p (.pause quanta)) s
      (countCode 0x0312 p (modPort p (fun x => { x with hold := { x.hold with pause := some (s.dev.now + quanta * quantumPs s.dev p) } }) s.dev))) ∧
  (∀ (s : State) (p quanta : Nat), Up s → p < 25 → quanta ≠ 0 → quanta < 65536 → (∀ tc, tc < 8 → schedQueue s.dev p tc = false) →
    Gives (.pfcReceived p (.pause quanta)) s
      (modPort p (fun x => { x with hold := { x.hold with pause := some (s.dev.now + quanta * quantumPs s.dev p) } }) s.dev)) ∧
  (∀ (s : State) (p : Nat), Up s → p < 25 →
    Gives (.pfcReceived p (.pause 0)) s (modPort p (fun x => { x with hold := { x.hold with pause := none } }) s.dev)) ∧
  (∀ (s : State) (p k t : Nat), Up s → p < 25 → lookup? (portSt s.dev p).hold.prios k = some t → t ≤ s.dev.now →
    Gives (.pfcHoldExpiry p (some k)) s
      (modPort p (fun x => { x with hold := { x.hold with prios := removeAt x.hold.prios k } }) s.dev)) ∧
  (∀ (s : State) (p t : Nat), Up s → p < 25 → (portSt s.dev p).hold.pause = some t → t ≤ s.dev.now →
    Gives (.pfcHoldExpiry p none) s (modPort p (fun x => { x with hold := { x.hold with pause := none } }) s.dev))

/-- LINK_UP (R126, R170, R525) of port 2 to 24 whose link is down: the link is up, peer-delay counts restart, the effective link-delay bound goes back to LINK_BOUND, and the
port's page sets its status bit with event 0x0220. LINK_DOWN (R98, R151, R525) of such a port whose link is up: the link is down, preemption, asCapable and holds end, nothing is in
transmission or preempted, every queue that is not of class Assured is empty, and the page sets its bit with event 0x0221. A LINK_UP of a link that is up and a LINK_DOWN of
one that is down change nothing. -/
def Obligations.LinkChanges : Prop :=
  (∀ (s : State) (p : Nat), Up s → 2 ≤ p → p < 25 → (portSt s.dev p).linkUp = false →
    Reaches (.linkUp p) s (fun d =>
      (portSt d p).linkUp = true ∧ (portSt d p).pdelayCount = 0 ∧ (portSt d p).pdelayMaxPs = 0 ∧
      d.sch.effBound = removeAt s.dev.sch.effBound p ∧
      (sqOf (sqPRT p) d).bits.getLsbD 0 = true ∧ (sqOf (sqPRT p) d).seq = (sqOf (sqPRT p) s.dev).seq + 1 ∧
      Output.event 0x0220 p ∈ d.out ∧ d.buf = s.dev.buf ∧ d.fwd = s.dev.fwd ∧ d.ctr = s.dev.ctr ∧ d.cfg = s.dev.cfg)) ∧
  (∀ (s : State) (p : Nat), Up s → 2 ≤ p → p < 25 → (portSt s.dev p).linkUp = true →
    Reaches (.linkDown p) s (fun d =>
      (portSt d p).linkUp = false ∧ (portSt d p).preemptActive = false ∧ (portSt d p).asCapable = false ∧ (portSt d p).hold = {} ∧
      (portSt d p).cur = none ∧ (portSt d p).preempted = none ∧ (portSt d p).macHold = false ∧ (sqOf (sqPRT p) d).bits.getLsbD 1 = true ∧ Output.event 0x0221 p ∈ d.out ∧
      (∀ t, t < 8 → (queueCfg s.dev.cfg (p * 8 + t)).cls ≠ .assured → queueOf d (p * 8 + t) = {}) ∧
      d.cfg = s.dev.cfg ∧ d.now = s.dev.now)) ∧
  (∀ (s : State) (p : Nat), Up s → (p < 2 ∨ p = 37) → (portSt s.dev p).linkUp = false →
    Reaches (.linkUp p) s (fun d =>
      (portSt d p).linkUp = true ∧ (portSt d p).pdelayCount = 0 ∧ d.sch.effBound = removeAt s.dev.sch.effBound p ∧
      (sqOf (sqPRT p) d).bits.getLsbD 0 = true ∧ Output.event 0x0220 p ∈ d.out ∧ d.buf = s.dev.buf ∧ d.cfg = s.dev.cfg)) ∧
  (∀ (s : State) (p : Nat), Up s → (p < 2 ∨ p = 37) → (portSt s.dev p).linkUp = true →
    Reaches (.linkDown p) s (fun d =>
      (portSt d p).linkUp = false ∧ (portSt d p).hold = {} ∧ (portSt d p).cur = none ∧ (portSt d p).preempted = none ∧
      (sqOf (sqPRT p) d).bits.getLsbD 1 = true ∧ Output.event 0x0221 p ∈ d.out ∧ d.cfg = s.dev.cfg)) ∧
  (∀ (s : State) (p : Nat), Up s → 2 ≤ p → p < 25 → (portSt s.dev p).linkUp = true → Gives (.linkUp p) s s.dev) ∧
  (∀ (s : State) (p : Nat), Up s → 2 ≤ p → p < 25 → (portSt s.dev p).linkUp = false → Gives (.linkDown p) s s.dev)

/-- SCHEDULER_SELECT (R88, R107) on an Ethernet port without MACsec whose link and transmitter are on, or on port CP, that sends nothing, has no hold and no running gate
list: where class 7 is not Reserved and its head is whole, verified and within its residence limit, the head leaves its queue, its transmission begins with the tick
of its egress timestamp, and the count of dequeued frames of the queue advances; no other queue, no frame and no output changes. TRANSMIT_COMPLETE (R130): a whole frame in transmission leaves, with a valid FCS
unless it was stomped or broken off, and its port is free; no queue changes where the queue is not of class Reserved. A frame that has not ended is not yet complete. -/
def Obligations.SelectAndComplete : Prop :=
  (∀ (s : State) (p : Nat) (c : Copy) (rest : List Copy) (f : Frame), Up s → (p < 25 ∨ p = 36) →
    (p < 25 → (portSt s.dev p).linkUp = true ∧ (portSt s.dev p).txOn = true ∧ (secysOn s.dev.cfg p).isEmpty = true) →
    (portSt s.dev p).cur = none → (portSt s.dev p).preempted = none → (portSt s.dev p).preemptActive = false → (portSt s.dev p).hold = {} →
    (gateSt s.dev p).running = false → (queueCfg s.dev.cfg (p * 8 + 7)).cls ≠ .reserved →
    (queueOf s.dev (p * 8 + 7)).copies = c :: rest → frameOf s.dev c.frame = some f → f.ended = true → f.mac = .clear →
    copyAge s.dev c ≤ limitTicks s.dev.cfg (p * 8 + 7) →
    Reaches (.schedulerSelect p) s (fun d =>
      (portSt d p).cur = some { q := p * 8 + 7, copy := c, len := (copyBytes s.dev f c).length + 4, began := s.dev.now, tick := egressTick p s.dev } ∧
      (queueOf d (p * 8 + 7)).copies = rest ∧ (∀ k, k ≠ p * 8 + 7 → queueOf d k = queueOf s.dev k) ∧
      counter (queueCtr (p * 8 + 7) 2) d = counter (queueCtr (p * 8 + 7) 2) s.dev + 1 ∧
      d.buf.frames = s.dev.buf.frames ∧ d.out = s.dev.out ∧ d.sq = s.dev.sq ∧ d.cfg = s.dev.cfg ∧ (∀ k, k ≠ p → portSt d k = portSt s.dev k))) ∧
  (∀ (s : State) (p sub : Nat) (t : TxCur) (f : Frame), Up s → p < 38 → (portSt s.dev p).cur = some t →
    frameOf s.dev t.copy.frame = some f → f.ended = true → reservedQueue s.dev t.q = false →
    Reaches (.transmitComplete p sub) s (fun d =>
      (portSt d p).cur = none ∧ putOut p s.dev f t.copy t.sec (!(f.stomp && t.ct || t.abort)) ∈ d.out ∧
      d.cfg = s.dev.cfg ∧ d.fwd = s.dev.fwd ∧ d.buf.queues = s.dev.buf.queues)) ∧
  (∀ (s : State) (p sub : Nat) (t : TxCur) (f : Frame), Up s → p < 38 → (portSt s.dev p).cur = some t →
    frameOf s.dev t.copy.frame = some f → f.ended = false → Gives (.transmitComplete p sub) s s.dev)

/-- AVERAGE_UPDATE (R85): the average of every Standard and Bulk queue that has one becomes A + (D − A) / 2^W, and nothing else changes. FDB_AGE_OUT (R47): a learned entry
not seen for the ageing time leaves, any other entry stays. FLOWLET_MOVE (R54): a pending move whose entry has been idle for FLOWLET_TIME since it was last selected and since the
move was asked sets its table entry to the target and is pending no more, and where it was the last of its group the status bit REBAL_DONE is set; before that time, and
where no move is pending, nothing changes. -/
def Obligations.AgeingAveragesAndFlowlets : Prop :=
  (∀ s : State, Up s → Reaches .averageUpdate s (fun d =>
    (∀ q x, lookup? s.dev.buf.queues q = some x → lookup? d.buf.queues q = some { x with
      avg := (if (queueCfg s.dev.cfg q).cls = .standard ∨ (queueCfg s.dev.cfg q).cls = .bulk then
        x.avg.map (fun a => nextAvg a (depth s.dev q) (queueCfg s.dev.cfg q).weight) else x.avg) }) ∧
    (∀ q, lookup? s.dev.buf.queues q = none → lookup? d.buf.queues q = none) ∧
    d = { s.dev with buf := { s.dev.buf with queues := d.buf.queues } })) ∧
  (∀ (s : State) (fid mac : Nat) (e : FdbEntry), Up s → fid < 4096 → mac < 2 ^ 48 → lookup? s.dev.fwd.fdb (fdbKey fid mac) = some e →
    Gives (.fdbAgeOut fid mac) s
      (if e.learned = true ∧ e.seen + s.dev.cfg.fwd.ageingS * 1000000000000 ≤ s.dev.now then
        { s.dev with fwd := { s.dev.fwd with fdb := removeAt s.dev.fwd.fdb (fdbKey fid mac) } } else s.dev)) ∧
  (∀ (s : State) (g e target asked : Nat), Up s → g < 64 → e < 256 → lookup? s.dev.fwd.moves (g * 256 + e) = some (target, asked) →
    max asked (lookupD s.dev.fwd.lastSel (g * 256 + e) 0) + s.dev.cfg.fwd.flowletUs * 1000000 ≤ s.dev.now →
    Reaches (.flowletMove g e) s (fun d =>
      lookup? (lgTable d d.cfg g) e = some target ∧ (∀ k, k ≠ e → lookup? (lgTable d d.cfg g) k = lookup? (lgTable s.dev s.dev.cfg g) k) ∧
      (∀ k, k ≠ g → lookup? d.fwd.lg k = lookup? s.dev.fwd.lg k) ∧
      d.fwd.moves = removeAt s.dev.fwd.moves (g * 256 + e) ∧
      (movesOf g d = 0 → 0 < movesOf g s.dev → (sqOf sqFWD d).bits.getLsbD 5 = true) ∧
      d = { s.dev with fwd := { s.dev.fwd with lg := d.fwd.lg, moves := d.fwd.moves }, sq := d.sq, out := d.out })) ∧
  (∀ (s : State) (g e target asked : Nat), Up s → g < 64 → e < 256 → lookup? s.dev.fwd.moves (g * 256 + e) = some (target, asked) →
    s.dev.now < max asked (lookupD s.dev.fwd.lastSel (g * 256 + e) 0) + s.dev.cfg.fwd.flowletUs * 1000000 → Gives (.flowletMove g e) s s.dev) ∧
  (∀ (s : State) (g e : Nat), Up s → g < 64 → e < 256 → lookup? s.dev.fwd.moves (g * 256 + e) = none → Gives (.flowletMove g e) s s.dev)

/-- AGE_SCRUB (R89), with copies in one queue and none of it spilled: a head past its residence limit, the rest being within theirs, is discarded from its queue and the status bit AGE_DISCARD is
set; with no copy queued nothing changes. SPILL_WRITE_DONE (R92 to R94): the one unwritten copy of a spill section, whole and verified, while the limits leave room, is written with its descriptor
image, counts in the spill area, and its frame's cells are released. SPILL_REFILL (R95): the last copy of a spill section, within its limit, comes back to the chip and the spill state
ends; with an uncorrectable error in the page (R98, Table BUF-6) it is lost and counted, with the status bit SPILL_LOST and a transient of the DRAM channel. SPILL_READY (R99), before the blob is committed,
sets its flag alone. -/
def Obligations.ScrubAndSpill : Prop :=
  (∀ (s : State) (q : Nat) (x : Queue) (c : Copy) (rest : List Copy), Up s → s.dev.buf.queues = [(q, x)] → x.copies = c :: rest →
    limitTicks s.dev.cfg q < copyAge s.dev c → (∀ c2 ∈ rest, copyAge s.dev c2 ≤ limitTicks s.dev.cfg q) → x.spill = [] →
    Reaches .ageScrub s (fun d => (queueOf d q).copies = rest ∧ (sqOf sqBUF d).bits.getLsbD 1 = true ∧ d.cfg = s.dev.cfg ∧ d.fwd = s.dev.fwd)) ∧
  (∀ s : State, Up s → (s.dev.buf.queues.all (fun x => decide (x.2.copies = []) && decide (x.2.spill = []))) = true →
    Gives .ageScrub s s.dev) ∧
  (∀ (s : State) (q : Nat) (c : Copy) (f : Frame), Up s → q < 368 → (queueOf s.dev q).spill = [c] → c.image = none →
    frameOf s.dev c.frame = some f → f.ended = true → f.mac = .clear → f.chip = 1 → s.dev.buf.spillFull = false →
    s.dev.buf.spillPages + (ceilDiv ((queueOf s.dev q).wpos + spillRecBytes f) pageData - ceilDiv (queueOf s.dev q).wpos pageData) ≤ spillPageLimit s.dev →
    Reaches (.spillWriteDone q) s (fun d =>
      d.buf.spillCopies = s.dev.buf.spillCopies + 1 ∧
      (∃ c2, (queueOf d q).spill = [c2] ∧ c2.image = some (descImage f c none) ∧ c2.frame = c.frame) ∧
      (queueOf d q).wpos = (queueOf s.dev q).wpos + spillRecBytes f ∧ (queueOf d q).copies = (queueOf s.dev q).copies ∧
      (∃ g, frameOf d c.frame = some g ∧ g.cells = 0 ∧ g.chip = 0 ∧ g.bytes = f.bytes) ∧ d.cfg = s.dev.cfg ∧ d.ports = s.dev.ports)) ∧
  (∀ (s : State) (q : Nat) (c : Copy) (f : Frame), Up s → q < 368 → (queueOf s.dev q).inSpill = true → (queueOf s.dev q).copies = [] →
    (queueOf s.dev q).spill = [c] → c.image.isSome = true → c.page ≤ (queueOf s.dev q).rpage → copyAge s.dev c ≤ limitTicks s.dev.cfg q →
    frameOf s.dev c.frame = some f →
    Reaches (.spillRefill q none) s (fun d =>
      (∃ e, (queueOf d q).copies = [e] ∧ e = { c with image := none, desc := e.desc }) ∧ (queueOf d q).spill = [] ∧ (queueOf d q).inSpill = false ∧
      d.buf.spillCopies = s.dev.buf.spillCopies - 1 ∧ d.cfg = s.dev.cfg ∧ d.ports = s.dev.ports)) ∧
  (∀ (s : State) (q ch : Nat) (c : Copy) (f : Frame), Up s → q < 368 → ch < 2 → (queueOf s.dev q).inSpill = true → (queueOf s.dev q).copies = [] →
    (queueOf s.dev q).spill = [c] → c.image.isSome = true → frameOf s.dev c.frame = some f → (ledgerOf s.dev (32 + ch)).times = [] →
    1 < (ledgerCfg s.dev (32 + ch)).limit →
    Reaches (.spillRefill q (some ch)) s (fun d =>
      (queueOf d q).copies = [] ∧ (queueOf d q).spill = [] ∧ (queueOf d q).inSpill = false ∧
      counter (queueCtr q 11) d = counter (queueCtr q 11) s.dev + 1 ∧ (sqOf sqBUF d).bits.getLsbD 6 = true ∧
      (ledgerOf d (32 + ch)).transients = (ledgerOf s.dev (32 + ch)).transients + 1 ∧ d.cfg = s.dev.cfg)) ∧
  (∀ s : State, Up s → s.dev.ssn.blobDone = false →
    Gives .spillReady s { s.dev with buf := { s.dev.buf with spillReady := true } })

/-! ### Time and scheduled traffic (04, 05) -/

/-- KEEPER_TIME_WRITE (R106), while the time manager runs: while LOCKED the local clock goes to the Keeper's counter, which is then valid; in any other mode nothing is
written. TIM_SNAP (R137): a write of 1 to bit 0 latches the whole clock at one tick, a write of 0 nothing. -/
def Obligations.ClockRegisters : Prop :=
  (∀ s : State, TimeUp s → s.dev.tim.mode = .locked →
    Gives .keeperTimeWrite s { s.dev with keeper := { s.dev.keeper with
      timeSec := s.dev.tim.sec, timeSub := BitVec.ofNat 15 (s.dev.tim.ns.toNat * 32768 / 1000000000), timeOk := true } }) ∧
  (∀ s : State, Up s → s.dev.tim.mode ≠ .locked → Gives .keeperTimeWrite s s.dev) ∧
  (∀ (s : State) (w : Word), BusUp s → Gives (.timSnap w) s
    (if w.getLsbD 0 then { s.dev with tim := { s.dev.tim with
      snap := { sec := s.dev.tim.sec, ns := s.dev.tim.ns, frac := s.dev.tim.frac, ts32 := ts32 s.dev, step := s.dev.tim.step } } } else s.dev))

/-- SYNC_RECEIVED (R115, R120) on the slave port of a domain: outside FREE_RUN the grandmaster's offset is measured from the origin time, the correction, the link delay and the
ingress timestamp, with the time of the Sync, and the clock is not stepped; in FREE_RUN a Sync of the preferred domain that is usable and within SLEW_WINDOW selects the
domain and locks the clock without a step, with event 0x0401 and its status bit. On a port of any other role nothing happens. -/
def Obligations.SyncMeasuresAndLocks : Prop :=
  (∀ (s : State) (b : Bool) (p origin : Nat) (corr delta off : Int), TimeUp s → (p < 25 ∨ p = 37) → portRole s.dev b p = .slave → s.dev.tim.mode ≠ .freeRun →
    off = ((origin : Int) * 65536 + (corr + linkDelayFine s.dev p) - stampFine (ingressStamp p 0 s.dev)) / 65536 →
    Reaches (.syncReceived b p ⟨origin, corr⟩ delta) s (fun d =>
      (domOf d b).offsetNs = off ∧ (domOf d b).lastSync = some s.dev.now ∧ (domOf d b).slavePort = (domOf s.dev b).slavePort ∧
      (domOf d b).gm = (domOf s.dev b).gm ∧ d.tim.step = s.dev.tim.step ∧ d.ports = s.dev.ports ∧ d.buf = s.dev.buf ∧ d.cfg = s.dev.cfg)) ∧
  (∀ (s : State) (b : Bool) (p origin : Nat) (corr delta off : Int), TimeUp s → (p < 25 ∨ p = 37) → portRole s.dev b p = .slave → s.dev.tim.mode = .freeRun →
    off = ((origin : Int) * 65536 + (corr + linkDelayFine s.dev p) - stampFine (ingressStamp p 0 s.dev)) / 65536 →
    s.dev.cfg.tim.preferredB = b → (domOf s.dev b).gmValid = true → (domOf s.dev b).gmIsSelf = false → 0 < syncTimeoutPs s.dev b →
    (domOf s.dev b).gmSince + (domCfg s.dev b).gmHoldMs * 1000000000 ≤ s.dev.now →
    (domOf s.dev b).vec.getD 1 255 ≤ (domCfg s.dev b).classMax → off.natAbs ≤ s.dev.cfg.tim.slewWindowNs →
    Reaches (.syncReceived b p ⟨origin, corr⟩ delta) s (fun d =>
      d.tim.mode = .locked ∧ d.tim.selB = b ∧ Output.event 0x0401 0 ∈ d.out ∧ (sqOf sqTIM d).bits.getLsbD 8 = true ∧ d.tim.step = s.dev.tim.step)) ∧
  (∀ (s : State) (b : Bool) (p origin : Nat) (corr delta : Int), TimeUp s → (p < 25 ∨ p = 37) → portRole s.dev b p ≠ .slave →
    Gives (.syncReceived b p ⟨origin, corr⟩ delta) s s.dev)

/-- Grandmasters (R121, R122, R124). ANNOUNCE_RECEIVED: the first Announce heard in a domain that is not grandmaster-capable, on a port that takes part without external
configuration, is taken and starts GM_HOLD. ANNOUNCE_RECEIPT_TIMEOUT: when the only Announce heard has aged, the domain loses its grandmaster, or the NV8 takes its place where it is
capable and has a device ID. SYNC_RECEIPT_TIMEOUT: without Syncs for that time the domain has no Sync. GM_HOLD_EXPIRY: a usable domain is noted as usable. REVERT_HOLD_EXPIRY (R123): with REVERT, both engines of one
profile and a domain selected outside FREE_RUN, the preferred domain is selected again, with event 0x0403 and no step, once it was usable for REVERT_HOLD; before that nothing changes. -/
def Obligations.GrandmasterAndRevert : Prop :=
  (∀ (s : State) (b : Bool) (p : Nat) (gm : BitVec 64) (vec : List Nat), TimeUp s → (p < 25 ∨ p = 37) → ptpLive s.dev b p = true →
    extSlave s.dev b = false → (portDom s.dev b p).ext = none → (domCfg s.dev b).gmCapable = false →
    (domOf s.dev b).gmValid = false → (domOf s.dev b).heard = [] →
    Reaches (.announceReceived b p gm vec) s (fun d =>
      (domOf d b).gm = gm ∧ (domOf d b).gmValid = true ∧ (domOf d b).gmIsSelf = false ∧ (domOf d b).vec = vec ++ [gm.toNat] ∧
      (domOf d b).gmSince = s.dev.now ∧ (domOf d b).slavePort = some p ∧ (domOf d b).lastAnnounce = some s.dev.now ∧
      d.ports = s.dev.ports ∧ d.buf = s.dev.buf ∧ d.cfg = s.dev.cfg)) ∧
  (∀ (s : State) (b : Bool) (t p : Nat) (v : List Nat × Nat), TimeUp s → (domOf s.dev b).lastAnnounce = some t → (domOf s.dev b).slavePort = some p →
    (domOf s.dev b).heard = [(p, v)] → (domOf s.dev b).gmIsSelf = false → t + announceTimeoutPs s.dev b ≤ s.dev.now → (domCfg s.dev b).gmCapable = false →
    Reaches (.announceReceiptTimeout b) s (fun d =>
      (domOf d b).gmValid = false ∧ (domOf d b).vec = [] ∧ (domOf d b).heard = [] ∧ (domOf d b).slavePort = none ∧ d.ports = s.dev.ports ∧ d.cfg = s.dev.cfg)) ∧
  (∀ (s : State) (b : Bool) (t p : Nat) (v : List Nat × Nat), TimeUp s → (domOf s.dev b).lastAnnounce = some t → (domOf s.dev b).slavePort = some p →
    (domOf s.dev b).heard = [(p, v)] → (domOf s.dev b).gmIsSelf = false → t + announceTimeoutPs s.dev b ≤ s.dev.now → canBeGm s.dev b = true →
    extSlave s.dev b = false →
    Reaches (.announceReceiptTimeout b) s (fun d =>
      (domOf d b).gmIsSelf = true ∧ (domOf d b).gm = Config.uid ∧ (domOf d b).gmValid = true ∧ (domOf d b).vec = ownVec s.dev b ∧ d.ports = s.dev.ports ∧
      d.cfg = s.dev.cfg)) ∧
  (∀ (s : State) (b : Bool) (t : Nat), TimeUp s → (domOf s.dev b).lastSync = some t → t + syncTimeoutPs s.dev b ≤ s.dev.now →
    Reaches (.syncReceiptTimeout b) s (fun d => (domOf d b).lastSync = none ∧ (domOf d b).gm = (domOf s.dev b).gm ∧ d.ports = s.dev.ports ∧ d.cfg = s.dev.cfg)) ∧
  (∀ (s : State) (b : Bool), TimeUp s → usable s.dev b = true →
    Reaches (.gmHoldExpiry b) s (fun d =>
      (domOf d b).usableSince.isSome = true ∧ (domOf d b).gm = (domOf s.dev b).gm ∧ d.ports = s.dev.ports ∧ d.cfg = s.dev.cfg)) ∧
  (∀ (s : State) (t : Nat), TimeUp s → s.dev.cfg.tim.revert = true → sameProfile s.dev = true → s.dev.tim.mode ≠ .freeRun → s.dev.tim.unselected = false →
    s.dev.tim.selB ≠ s.dev.cfg.tim.preferredB → usable s.dev s.dev.cfg.tim.preferredB = true →
    (domOf s.dev s.dev.cfg.tim.preferredB).usableSince = some t → t + secPs s.dev.cfg.tim.revertHoldS ≤ s.dev.now →
    Reaches .revertHoldExpiry s (fun d =>
      d.tim.selB = s.dev.cfg.tim.preferredB ∧ Output.event 0x0403 0 ∈ d.out ∧ d.tim.step = s.dev.tim.step ∧ d.buf = s.dev.buf ∧ d.ports = s.dev.ports ∧
      d.cfg = s.dev.cfg)) ∧
  (∀ (s : State) (t : Nat), TimeUp s → (domOf s.dev s.dev.cfg.tim.preferredB).usableSince = some t →
    s.dev.now < t + secPs s.dev.cfg.tim.revertHoldS → Gives .revertHoldExpiry s s.dev)

/-- Peer delay (R120, R126, R135, Table TIM-5) on a port whose link is up: PDELAY_REQ_SEND sends a request that counts as unanswered; PDELAY_REQ_RECEIVED is answered by a response and its
follow-up; PDELAY_MEASUREMENT passes its value, maximum and count on, makes the port asCapable exactly when it is within the threshold, and event 0x0502 follows a bound that rises; PDELAY_FAIL: too many
unanswered requests take asCapable, with event 0x0408 and its status bit. SYNC_SEND on a master port: a gPTP Sync received is relayed with its residence time, once, where the clock was not stepped between, and the grandmaster's own Sync carries
the local time. ANNOUNCE_SEND on a master port: with no grandmaster known, a device that is not grandmaster-capable announces priority1 255. On a port that takes no part neither Sync nor, where a grandmaster is known, Announce is sent. -/
def Obligations.PtpMessages : Prop :=
  (∀ (s : State) (p : Nat), TimeUp s → (p < 25 ∨ p = 37) → portDown s.dev p = false →
    Reaches (.pdelayReqSend p) s (fun d =>
      (portSt d p).pdelayLost = (portSt s.dev p).pdelayLost + 1 ∧ d.out = s.dev.out ++ [.ptp (ptpMsg s.dev false .pdelayReq p)] ∧
      d = { s.dev with ports := d.ports, out := d.out })) ∧
  (∀ (s : State) (p : Nat), TimeUp s → (p < 25 ∨ p = 37) → portDown s.dev p = false →
    Gives (.pdelayReqReceived p) s { s.dev with
      out := s.dev.out ++ [.ptp (ptpMsg s.dev false .pdelayResp p), .ptp (ptpMsg s.dev false .pdelayRespFollowUp p)] }) ∧
  (∀ (s : State) (p ps : Nat), TimeUp s → (p < 25 ∨ p = 37) → portDown s.dev p = false →
    Reaches (.pdelayMeasurement p ps) s (fun d =>
      (portSt d p).pdelayPs = ps ∧ (portSt d p).pdelayCount = (portSt s.dev p).pdelayCount + 1 ∧
      (portSt d p).pdelayMaxPs = max (portSt s.dev p).pdelayMaxPs ps ∧
      (portSt d p).pdelayLost = 0 ∧ (portSt d p).asCapable = decide (ps ≤ (portCfg s.dev p).ptp.propThreshPs) ∧
      (effectiveBound s.dev p < effectiveBound d p → Output.event 0x0502 p ∈ d.out) ∧ d.buf = s.dev.buf ∧ d.cfg = s.dev.cfg)) ∧
  (∀ (s : State) (p : Nat), TimeUp s → (p < 25 ∨ p = 37) → (portCfg s.dev p).ptp.allowedLost < (portSt s.dev p).pdelayLost → (portSt s.dev p).asCapable = true →
    Reaches (.pdelayFail p) s (fun d => (portSt d p).asCapable = false ∧ Output.event 0x0408 p ∈ d.out ∧ (sqOf sqTIM d).bits.getLsbD 5 = true ∧
      d.buf = s.dev.buf ∧ d.cfg = s.dev.cfg)) ∧
  (∀ (s : State) (b : Bool) (p : Nat) (r : Relay), TimeUp s → (p < 25 ∨ p = 37) → portRole s.dev b p = .master → (domOf s.dev b).gmIsSelf = false →
    (domCfg s.dev b).profile = .gptp → (domOf s.dev b).relay = some r → r.step = (egressStamp p 0 s.dev).step → r.sent.contains p = false →
    Reaches (.syncSend b p) s (fun d =>
      d.out = s.dev.out ++ [.ptp { ptpMsg s.dev b .sync p with priority1 := (domOf s.dev b).vec.getD 0 255 },
        .ptp { ptpMsg s.dev b .followUp p with
          origin := r.origin, rate := (domOf s.dev b).rate,
          corr := r.corr + (stampFine (egressStamp p 0 s.dev) - r.at_) * (2199023255552 + (domOf s.dev b).rate) / 2199023255552 }] ∧
      (domOf d b).relay = some { r with sent := p :: r.sent } ∧ d = { s.dev with tim := d.tim, out := d.out })) ∧
  (∀ (s : State) (b : Bool) (p : Nat), TimeUp s → (p < 25 ∨ p = 37) → portRole s.dev b p = .master → (domOf s.dev b).gmIsSelf = true → canBeGm s.dev b = true →
    Reaches (.syncSend b p) s (fun d =>
      Output.ptp { ptpMsg s.dev b .sync p with priority1 := (domOf s.dev b).vec.getD 0 255 } ∈ d.out ∧
      Output.ptp { ptpMsg s.dev b .followUp p with origin := localNs s.dev } ∈ d.out ∧
      (domOf d b).lastSync = some s.dev.now ∧ (domOf d b).offsetNs = 0 ∧ d.ports = s.dev.ports ∧ d.buf = s.dev.buf ∧ d.cfg = s.dev.cfg)) ∧
  (∀ (s : State) (b : Bool) (p : Nat), TimeUp s → (p < 25 ∨ p = 37) → ptpLive s.dev b p = false → Gives (.syncSend b p) s s.dev) ∧
  (∀ (s : State) (b : Bool) (p : Nat), TimeUp s → (p < 25 ∨ p = 37) → portRole s.dev b p = .master → (domOf s.dev b).gmValid = false →
    (domCfg s.dev b).gmCapable = false →
    Gives (.announceSend b p) s { s.dev with out := s.dev.out ++ [.ptp { ptpMsg s.dev b .announce p with priority1 := 255 }] }) ∧
  (∀ (s : State) (b : Bool) (p : Nat), TimeUp s → (p < 25 ∨ p = 37) → ptpLive s.dev b p = false → (domOf s.dev b).gmValid = true →
    Gives (.announceSend b p) s s.dev)

/-- GATE_EVENT (R142, R145): where the entry, its gates or the cycle of a running list have changed, they are set for its port, and the cycles passed are counted; with no running
list nothing happens. STREAM_GATE_EVENT (Table SCH-4): a stream gate goes to the entry that its base time and cycle give, and its octets count from 0. HOLD_REQUEST (R152): within a hold span of the running
list, preemptable traffic is held and the hold counted where preemption is active. PREEMPT_VERIFY (R151), where verification is on: success makes preemption active, failure leaves it off with
event 0x0507; with preemption off nothing happens. -/
def Obligations.GatesAndPreemption : Prop :=
  (∀ (s : State) (p : Nat) (g : Gcl), Up s → p < 25 → opList s.dev p = some g →
    ((listEntry g (localNs s.dev)).1 ≠ (gateSt s.dev p).entry ∨ gatesOf g (listEntry g (localNs s.dev)).1 ≠ (gateSt s.dev p).gates ∨
      cycleIdx g (localNs s.dev) ≠ (gateSt s.dev p).cycleNo) → (portSt s.dev p).preemptActive = false →
    Reaches (.gateEvent p) s (fun d =>
      (gateSt d p).entry = (listEntry g (localNs s.dev)).1 ∧ (gateSt d p).gates = gatesOf g (listEntry g (localNs s.dev)).1 ∧
      (gateSt d p).cycles = (gateSt s.dev p).cycles + BitVec.ofInt 32 (cycleIdx g (localNs s.dev) - (gateSt s.dev p).cycleNo) ∧
      (gateSt d p).cycleNo = cycleIdx g (localNs s.dev) ∧ (∀ k, k ≠ p → gateSt d k = gateSt s.dev k) ∧
      d.buf = s.dev.buf ∧ d.cfg = s.dev.cfg ∧ d.tim = s.dev.tim ∧ d.out = s.dev.out)) ∧
  (∀ (s : State) (p : Nat), Up s → p < 25 → opList s.dev p = none → Gives (.gateEvent p) s s.dev) ∧
  (∀ (s : State) (g : Nat) (x : StreamGate), Up s → g < 1024 → lookup? s.dev.cfg.sch.gates g = some x →
    ((listEntry (gateList x) (localNs s.dev)).1 ≠ (lookupD s.dev.sch.psfp g {}).entry ∨ cycleIdx (gateList x) (localNs s.dev) ≠ (lookupD s.dev.sch.psfp g {}).cycleNo) →
    Gives (.streamGateEvent g) s { s.dev with sch := { s.dev.sch with psfp := insertAt s.dev.sch.psfp g { lookupD s.dev.sch.psfp g {} with
      entry := (listEntry (gateList x) (localNs s.dev)).1, cycleNo := cycleIdx (gateList x) (localNs s.dev), octets := 0 } } }) ∧
  (∀ (s : State) (p : Nat) (g : Gcl), Up s → p < 25 → opList s.dev p = some g → holdSpan g (localNs s.dev) (portCfg s.dev p).holdAdvanceNs = true →
    (portSt s.dev p).preemptActive = true → (portSt s.dev p).macHold = false → (portSt s.dev p).cur = none →
    Reaches (.holdRequest p) s (fun d =>
      (portSt d p).macHold = true ∧ counter (0x800418 + p * 0x1000) d = counter (0x800418 + p * 0x1000) s.dev + 1 ∧
      d = { s.dev with ports := d.ports, ctr := d.ctr })) ∧
  (∀ (s : State) (p : Nat), Up s → p < 25 → (portCfg s.dev p).preempt.enabled = true → (portCfg s.dev p).preempt.verifyOff = false →
    opList s.dev p = none → (portSt s.dev p).macHold = false →
    Gives (.preemptVerify p true) s (modPort p (fun x => { x with preemptActive := true, verifyFail := false }) s.dev)) ∧
  (∀ (s : State) (p : Nat), Up s → p < 25 → (portCfg s.dev p).preempt.enabled = true → (portCfg s.dev p).preempt.verifyOff = false →
    Reaches (.preemptVerify p false) s (fun d =>
      (portSt d p).preemptActive = false ∧ (portSt d p).verifyFail = true ∧ (portSt d p).macHold = false ∧ Output.event 0x0507 p ∈ d.out ∧
      (sqOf sqSCH d).bits.getLsbD 6 = true ∧ d.buf = s.dev.buf ∧ d.cfg = s.dev.cfg)) ∧
  (∀ (s : State) (p : Nat) (ok : Bool), Up s → p < 25 → (portCfg s.dev p).preempt.enabled = false → Gives (.preemptVerify p ok) s s.dev)

/-- GCL_SWITCH (R148): when SWITCH_TIME has arrived the pending configuration is in force under its epoch and pending no more, with event 0x0103 and the status bits of FWD and GLB, and with event 0x0505
where gate lists change; before it, and with none pending, nothing happens. ADMISSION_RECHECK (R171), after a bound has risen: where no check names an admitted stream, no stream is at risk or flagged any more; an
admitted stream that a check names is at risk, with event 0x0503 and a late error record; with no bound risen nothing happens. -/
def Obligations.SwitchTimeAndRecheck : Prop :=
  (∀ (s : State) (x : PendingCommit), Up s → s.dev.switching = some x → x.sec * 1000000000 + x.ns ≤ localNs s.dev →
    Reaches .gclSwitch s (fun d =>
      d.cfg = x.cfg ∧ d.switching = none ∧ d.glb.cfgEpoch = x.epoch.getD (s.dev.glb.cfgEpoch + 1) ∧
      Output.event 0x0103 0 ∈ d.out ∧ (sqOf sqFWD d).bits.getLsbD 0 = true ∧ (sqOf sqGLB d).bits.getLsbD 2 = true ∧
      (s.dev.cfg.sch.lists ≠ x.cfg.sch.lists → Output.event 0x0505 0 ∈ d.out))) ∧
  (∀ (s : State) (x : PendingCommit), Up s → s.dev.switching = some x → localNs s.dev < x.sec * 1000000000 + x.ns → Gives .gclSwitch s s.dev) ∧
  (∀ s : State, Up s → s.dev.switching = none → Gives .gclSwitch s s.dev) ∧
  (∀ s : State, Up s → s.dev.sch.recheck = true →
    (∀ y ∈ standingChecks s.dev.cfg ++ (checkAll s.dev.cfg s.dev.cfg s.dev).2, ∀ x ∈ s.dev.cfg.sch.streams, isAdmitted x.2 = true → y.handle ≠ x.1) →
    Gives .admissionRecheck s { s.dev with sch := { s.dev.sch with
      recheck := false, streams := s.dev.sch.streams.map (fun x => (x.1, { x.2 with flagged := false, atRisk := false })) } }) ∧
  (∀ (s : State) (h : Nat) (sc : StreamCfg) (y : Reject), Up s → s.dev.sch.recheck = true → s.dev.cfg.sch.streams = [(h, sc)] → isAdmitted sc = true →
    (standingChecks s.dev.cfg ++ (checkAll s.dev.cfg s.dev.cfg s.dev).2).find? (fun y => decide (y.handle = h)) = some y → s.dev.flt.late.length < 256 →
    Reaches .admissionRecheck s (fun d =>
      (lookupD d.sch.streams h {}).atRisk = true ∧ d.sch.recheck = false ∧ Output.event 0x0503 h ∈ d.out ∧ (sqOf sqSCH d).bits.getLsbD 3 = true ∧
      d.flt.late = s.dev.flt.late ++ [{ reason := 0x0503, detail := rejectBytes y, ts := ts32 s.dev, epoch := s.dev.glb.cfgEpoch }] ∧ d.cfg = s.dev.cfg)) ∧
  (∀ s : State, Up s → s.dev.sch.recheck = false → Gives .admissionRecheck s s.dev)

/-! ### Assured delivery (06) -/

/-- SEQUENCE_TEST (R183, R185, R186, R193), without a replay due or a stop of acceptance, for a frame without a failed ICV that the test takes next: a frame of a TALKER-numbered stream in RUN, within its rate and with journal
space, whose number is new in the window enters it and its record is written, acknowledged only where no partner replicates; a DEVICE stream of an active that has used the numbers its mirror covers stalls with
event 0x0607 and records nothing. RECORD_COMPLETE (R186, R191): a frame's record held by every journal copy, and acknowledged where a partner replicates, is complete, its frame is accepted and counted; behind a gap it is held, and alone
at the next number it leaves the window. -/
def Obligations.RecordsOfFrames : Prop :=
  (∀ (s : State) (id n seq : Nat) (f : Frame) (h : Nat) (sc : StreamCfg) (x : AsdSlot), Up s → s.dev.glb.stopAccept = false →
    s.dev.asd.replayDue = false → nextForTest s.dev = some id → frameOf s.dev id = some f → f.stream = some h →
    lookup? (cfgAt s.dev f.epoch).sch.streams h = some sc → slotOf s.dev h = some (n, x) → slotAt s.dev n = some x → sc.asd.device = false →
    isStandby s.dev = false → (parse (cfgAt s.dev f.epoch).fwd.userTypes f.bytes).rtag = some seq → seq < 65536 →
    journalRoom (1 + ceilDiv ((withRtag (cfgAt s.dev f.epoch) 0 f.bytes).length + 4) 64) s.dev = true → (∀ b, f.mac ≠ .passed b) →
    (asdMeter n sc.asd ((64 + 64 * ceilDiv ((withRtag (cfgAt s.dev f.epoch) 0 f.bytes).length + 4) 64) * 8) s.dev).1 = false →
    x.mode = .run → seqDist x.next seq < 64 → lookup? x.win seq = none →
    Reaches .sequenceTest s (fun d =>
      (∃ r, d.asd.journal = s.dev.asd.journal ++ [r] ∧ r.kind = .frame ∧ r.no = s.dev.asd.nextNo ∧ r.slot = n ∧ r.seq = seq ∧ r.frame = id ∧
        r.bytes = withRtag (cfgAt s.dev f.epoch) seq f.bytes ∧ r.acked = (!s.dev.asd.replicating) ∧ r.complete = false) ∧
      (∃ y, slotAt d n = some y ∧ lookup? y.win seq = some (id, false, 0) ∧ y.next = x.next ∧ y.mode = .run) ∧
      d.asd.waiting = s.dev.asd.waiting.filter (· ≠ id) ∧ d.buf = s.dev.buf ∧ d.cfg = s.dev.cfg)) ∧
  (∀ (s : State) (id n : Nat) (f : Frame) (h : Nat) (sc : StreamCfg) (x : AsdSlot), Up s → s.dev.glb.stopAccept = false →
    s.dev.asd.replayDue = false → nextForTest s.dev = some id → frameOf s.dev id = some f → f.stream = some h →
    lookup? (cfgAt s.dev f.epoch).sch.streams h = some sc → slotOf s.dev h = some (n, x) → sc.asd.device = true → isStandby s.dev = false →
    (∀ b, f.mac ≠ .passed b) → x.counter = (x.mirror + 512) % 65536 →
    Reaches .sequenceTest s (fun d =>
      (∃ y, slotAt d n = some y ∧ y.stalled = true ∧ y.counter = x.counter) ∧ Output.event 0x0607 n ∈ d.out ∧
      (sqOf sqASD d).bits.getLsbD 7 = true ∧ d.buf = s.dev.buf ∧ d.asd.journal = s.dev.asd.journal)) ∧
  (∀ (s : State) (no id t0 : Nat) (r : JRec) (x : AsdSlot) (b : Bool), Up s → recOf s.dev no = some r → r.kind = .frame → r.complete = false →
    r.replica = false → (r.acked = true ∨ s.dev.asd.replicating = false) → slotAt s.dev r.slot = some x → lookup? x.win x.next = none →
    lookup? x.win r.seq = some (id, b, t0) →
    Reaches (.recordComplete no) s (fun d =>
      (∃ y, slotAt d r.slot = some y ∧ lookup? y.win r.seq = some (id, true, s.dev.now) ∧ y.next = x.next ∧ y.lastAccept = s.dev.now) ∧
      (∃ q, recOf d no = some q ∧ q.complete = true ∧ q.seq = r.seq) ∧
      counter (0x384000 + r.slot * 0x40) d = counter (0x384000 + r.slot * 0x40) s.dev + 1 ∧ d.buf = s.dev.buf)) ∧
  (∀ (s : State) (no id t0 : Nat) (r : JRec) (x : AsdSlot) (b : Bool), Up s → recOf s.dev no = some r → r.kind = .frame → r.complete = false →
    r.replica = false → (r.acked = true ∨ s.dev.asd.replicating = false) → slotAt s.dev r.slot = some x → r.seq = x.next →
    x.win = [(x.next, (id, b, t0))] →
    Reaches (.recordComplete no) s (fun d =>
      ∃ y, slotAt d r.slot = some y ∧ y.win = [] ∧ y.next = (x.next + 1) % 65536 ∧ y.lastAccept = s.dev.now))

/-- MIRROR_COMPLETE (R182): a counter mirror held by every copy, and acknowledged where a partner replicates, becomes M of its slot and ends its stall. PARTNER_ACK (R186): a record that a journal copy still misses is acknowledged and stays incomplete; one that every copy
holds is complete. REPL_LOST (R187): with one own record unacknowledged, and no acknowledgement for 1 ms, the partner no longer replicates, with event 0x0608 and REPL_LOST; before that nothing happens. MARK_RECORD (R189), with journal space: a mark record is written. -/
def Obligations.MirrorsAcksAndMarks : Prop :=
  (∀ (s : State) (no : Nat) (r : JRec) (x : AsdSlot), Up s → recOf s.dev no = some r → r.kind = .mirror → r.complete = false →
    (r.acked = true ∨ s.dev.asd.replicating = false) → slotAt s.dev r.slot = some x →
    Reaches (.mirrorComplete no) s (fun d =>
      (∃ y, slotAt d r.slot = some y ∧ y.mirror = r.seq ∧ y.stalled = false ∧ y.counter = x.counter ∧ y.win = x.win) ∧
      d.buf = s.dev.buf ∧ d.asd.waiting = s.dev.asd.waiting ∧ d.out = s.dev.out)) ∧
  (∀ (s : State) (no : Nat) (r : JRec), Up s → recOf s.dev no = some r → r.copy0 = false →
    Reaches (.partnerAck no) s (fun d =>
      recOf d no = some { r with acked := true } ∧ d.asd.lastAck = s.dev.now ∧ d.asd.slots = s.dev.asd.slots ∧ d.buf = s.dev.buf ∧ d.out = s.dev.out)) ∧
  (∀ (s : State) (no : Nat) (r : JRec), Up s → recOf s.dev no = some r → r.copy0 = true → r.copy1 = true → r.complete = false → r.kind = .mirror →
    Reaches (.partnerAck no) s (fun d => recOf d no = some { r with acked := true, complete := true } ∧ d.asd.lastAck = s.dev.now ∧ d.buf = s.dev.buf)) ∧
  (∀ (s : State) (r : JRec), Up s → s.dev.asd.replicating = true → s.dev.asd.journal = [r] → r.acked = false → r.replica = false → r.copy0 = false →
    max r.wrote s.dev.asd.lastAck + 1000000000 ≤ s.dev.now →
    Reaches .replLost s (fun d => d.asd.replicating = false ∧ d.pair.partnerReady = false ∧ d.asd.journal = [r] ∧
      Output.event 0x0608 0 ∈ d.out ∧ (sqOf sqASD d).bits.getLsbD 1 = true)) ∧
  (∀ s : State, Up s → (∀ r ∈ s.dev.asd.journal, r.acked = true ∨ s.dev.now < max r.wrote s.dev.asd.lastAck + 1000000000) → Gives .replLost s s.dev) ∧
  (∀ s : State, Up s → s.dev.asd.replicating = false → journalRoom (1 + ceilDiv (4 * s.dev.asd.slots.length) 64) s.dev = true →
    Reaches .markRecord s (fun d =>
      (∃ r, d.asd.journal = s.dev.asd.journal ++ [r] ∧ r.kind = .mark ∧ r.no = s.dev.asd.nextNo ∧ r.complete = false) ∧
      d.asd.nextNo = s.dev.asd.nextNo + 1 ∧ d.buf = s.dev.buf ∧ d.out = s.dev.out))

/-- Timers of a slot. HOLD_EXPIRY (R194): the gap before a single held frame is skipped when it has waited its hold time, and the frame leaves the window. RECOV_RESET (R195): a slot in RUN with an empty window forgets its sequence, with event 0x0605, when no frame was accepted for
the reset time, and not before. MEMBER_SILENT (R196): a member port without a contribution for the latent time, while another port's frame was accepted in that time, is reported with event 0x0606, and not again. -/
def Obligations.AssuredTimers : Prop :=
  (∀ (s : State) (n seq id t : Nat) (x : AsdSlot) (a : AsdCfg), Up s → n < 2048 → streamOfSlot s.dev n = some (x, a) → x.win = [(seq, (id, true, t))] →
    x.next < 65536 → seq < 65536 → seq ≠ x.next → t + a.holdUs * 1000000 ≤ s.dev.now →
    Reaches (.holdExpiry n) s (fun d => ∃ y, slotAt d n = some y ∧ y.win = [] ∧ y.next = (seq + 1) % 65536)) ∧
  (∀ (s : State) (n : Nat) (x : AsdSlot) (a : AsdCfg), Up s → n < 2048 → streamOfSlot s.dev n = some (x, a) → x.mode = .run → x.win = [] →
    x.lastAccept + a.resetMs * 1000000000 ≤ s.dev.now →
    Reaches (.recovReset n) s (fun d =>
      slotAt d n = some { x with mode := .init, win := [], hist := [] } ∧ Output.event 0x0605 n ∈ d.out ∧ (sqOf sqASD d).bits.getLsbD 5 = true ∧
      d.buf = s.dev.buf ∧ d.asd.journal = s.dev.asd.journal)) ∧
  (∀ (s : State) (n : Nat) (x : AsdSlot) (a : AsdCfg), Up s → n < 2048 → streamOfSlot s.dev n = some (x, a) →
    s.dev.now < x.lastAccept + a.resetMs * 1000000000 → Gives (.recovReset n) s s.dev) ∧
  (∀ (s : State) (n p q t u : Nat) (x : AsdSlot) (a : AsdCfg), Up s → n < 2048 → p < 38 → streamOfSlot s.dev n = some (x, a) →
    lookup? x.members p = some t → (q, u) ∈ x.accepted → q ≠ p → t + a.latentMs * 1000000000 ≤ s.dev.now → s.dev.now < u + a.latentMs * 1000000000 →
    x.silent.contains p = false →
    Reaches (.memberSilent n p) s (fun d =>
      slotAt d n = some { x with silent := p :: x.silent } ∧ Output.event 0x0606 n ∈ d.out ∧ (sqOf sqASD d).bits.getLsbD 6 = true ∧ d.buf = s.dev.buf)) ∧
  (∀ (s : State) (n p : Nat) (x : AsdSlot) (a : AsdCfg), Up s → n < 2048 → p < 38 → streamOfSlot s.dev n = some (x, a) → x.silent.contains p = true →
    Gives (.memberSilent n p) s s.dev)

/-- JOURNAL_REPLAY (R198): a replay that is due ends with event 0x0609 and REPLAY_DONE; without one nothing is read. REPLICA_RECORD (R186, R201): a standby with journal space and room on channel 3 journals
the active's frame record as complete, under a number of its own, and acknowledges the active's; any other device takes none. -/
def Obligations.ReplayAndReplica : Prop :=
  (∀ (s : State) (bad0 bad1 : List Nat), Up s → s.dev.asd.replayDue = true →
    Reaches (.journalReplay bad0 bad1) s (fun d => Output.event 0x0609 0 ∈ d.out ∧ (sqOf sqASD d).bits.getLsbD 8 = true)) ∧
  (∀ (s : State) (bad0 bad1 : List Nat), Up s → s.dev.asd.replayDue = false → Gives (.journalReplay bad0 bad1) s s.dev) ∧
  (∀ (s : State) (r : JRec), Up s → isStandby s.dev = true → r.kind = .frame → journalRoom (recUnits r) s.dev = true → ChannelRoom 3 s →
    Reaches (.replicaRecord r) s (fun d =>
      (∃ q, d.asd.journal = s.dev.asd.journal ++ [q] ∧ q.no = s.dev.asd.nextNo ∧ q.slot = r.slot ∧ q.seq = r.seq ∧ q.bytes = r.bytes ∧ q.replica = true ∧
        q.complete = true ∧ q.finished = false) ∧
      d.out = s.dev.out ++ [.wyusin 3 .ack r.no 0] ∧ d.buf = s.dev.buf ∧ d.pair = s.dev.pair)) ∧
  (∀ (s : State) (r : JRec), Up s → isStandby s.dev = false → Gives (.replicaRecord r) s s.dev)

/-! ### Firewall (07) -/

/-- MISS_LOOKUP_DONE (R212, R232), for the first queued frame of its key and without a memory error: with the end of the lookup every queued frame of the key leaves the miss queue and waits for a
recirculation slot, and the frame has its verdict: to pass where an entry exists that is not of TCP; where none exists, on a device that is no standby, as the setup of the flow answers for a frame whose ICV verdict is there and that is no ICMP error. -/
def Obligations.MissLookupReleases : Prop :=
  (∀ (s : State) (id ix : Nat) (key : Bytes) (f : Frame) (x : Decision) (e : Ct), Up s → (id, key) ∈ s.dev.fwl.missQ →
    s.dev.fwl.missQ.find? (fun y => y.1 = id) = some (id, key) → s.dev.fwl.missQ.find? (fun y => y.2 = key) = some (id, key) →
    frameOf s.dev id = some f → f.dec = some x → ctFind s.dev key = some (ix, e) → e.kind ≠ .tcp →
    Reaches (.missLookupDone id none) s (fun d =>
      d.fwl.missQ = s.dev.fwl.missQ.filter (fun y => y.2 ≠ key) ∧ lookup? d.fwl.verdicts id = some none ∧
      d.fwd.recirc = s.dev.fwd.recirc ++ s.dev.fwl.missQ.filter (fun y => y.2 = key) ∧ d.buf = s.dev.buf ∧ d.cfg = s.dev.cfg)) ∧
  (∀ (s : State) (id : Nat) (key : Bytes) (f : Frame) (x : Decision), Up s → (id, key) ∈ s.dev.fwl.missQ →
    s.dev.fwl.missQ.find? (fun y => y.1 = id) = some (id, key) → s.dev.fwl.missQ.find? (fun y => y.2 = key) = some (id, key) →
    frameOf s.dev id = some f → f.dec = some x → ctFind s.dev key = none →
    (∀ ip, (viewOf (cfgAt s.dev f.epoch) f x).h.ip = some ip → isIcmpError ip = false) → (∀ a b c, f.mac ≠ .pending a b c) → isStandby s.dev = false →
    Reaches (.missLookupDone id none) s (fun d =>
      d.fwl.missQ = s.dev.fwl.missQ.filter (fun y => y.2 ≠ key) ∧
      lookup? d.fwl.verdicts id =
        some (setupFlow (cfgAt s.dev f.epoch) f.port f.bytes (viewOf (cfgAt s.dev f.epoch) f x) s.dev).1 ∧
      d.fwd.recirc = s.dev.fwd.recirc ++ s.dev.fwl.missQ.filter (fun y => y.2 = key)))

/-- CT_SCAN (R226) of an entry without links that stands alone in its chain, is not cached and is not waited for: idle for longer than its timeout on a device that is no standby and does not replicate, it leaves conntrack and its slot is free; a younger one stays. CT_REVALIDATE (R215): the pass
visits the next entry, keeps one whose rule still permits it, deletes one (alone in its chain, on such a device) that no rule matches, with its count, and ends with event 0x0705. -/
def Obligations.ScanAndRevalidate : Prop :=
  (∀ (s : State) (ix : Nat) (e : Ct), Up s → ix < 8388608 → ctAt s.dev ix = some e → e.alias_ = false → e.link = none → e.next = none → e.prev = none →
    isStandby s.dev = false → s.dev.asd.replicating = false → s.dev.fwl.missQ = [] → s.dev.fwd.recirc = [] → wayOf s.dev e.key = none →
    timeoutOf s.dev.cfg e < s.dev.fwl.fwSec.toNat - max e.seen.toNat s.dev.fwl.restartSec.toNat →
    Reaches (.ctScan ix) s (fun d => d.fwl.ct = removeAt s.dev.fwl.ct ix ∧ d.fwl.free = ix :: s.dev.fwl.free ∧ d.buf = s.dev.buf ∧ d.out = s.dev.out)) ∧
  (∀ (s : State) (ix : Nat) (e : Ct), Up s → ix < 8388608 → ctAt s.dev ix = some e → e.link = none → wayOf s.dev e.key = none →
    s.dev.fwl.fwSec.toNat - max e.seen.toNat s.dev.fwl.restartSec.toNat ≤ timeoutOf s.dev.cfg e → Gives (.ctScan ix) s s.dev) ∧
  (∀ (s : State) (pos : Nat), Up s → s.dev.fwl.revalPos = some pos → s.dev.fwl.ct.find? (fun x => pos ≤ x.1) = none →
    Reaches .ctRevalidate s (fun d => d.fwl = { s.dev.fwl with revalPos := none } ∧ Output.event 0x0705 0 ∈ d.out ∧ (sqOf sqFWL d).bits.getLsbD 5 = true)) ∧
  (∀ (s : State) (pos ix : Nat) (e : Ct) (r : Rule), Up s → s.dev.fwl.revalPos = some pos → s.dev.fwl.ct.find? (fun x => pos ≤ x.1) = some (ix, e) →
    e.alias_ = false → e.napt = false → firstRule s.dev.cfg.fwl.bank.rules (entryView s.dev.cfg e) = some r → r.action = .permit →
    Gives .ctRevalidate s { s.dev with fwl := { s.dev.fwl with revalPos := some (ix + 1) } }) ∧
  (∀ (s : State) (pos ix : Nat) (e : Ct), Up s → s.dev.fwl.revalPos = some pos → s.dev.fwl.ct.find? (fun x => pos ≤ x.1) = some (ix, e) →
    ctAt s.dev ix = some e → e.alias_ = false → e.link = none → e.next = none → e.prev = none → s.dev.asd.replicating = false → isStandby s.dev = false →
    firstRule s.dev.cfg.fwl.bank.rules (entryView s.dev.cfg e) = none →
    Reaches .ctRevalidate s (fun d => d.fwl.ct = removeAt s.dev.fwl.ct ix ∧ d.fwl.revalPos = some (ix + 1) ∧
      counter 0x402058 d = counter 0x402058 s.dev + 1))

/-- FRAG_EXPIRY (R228): fragment entries 2 s past their latest fragment leave. STATE_REBUILT (R239): with external memory ready and no reload from the partner awaited, the rebuilt state ends Spring rules and begins 60 s of grace with event 0x0704; without the memory nothing happens.
PICKUP_GRACE_END (R227): the grace ends at its time. BANK_CHECK (R244) under Spring rules: a bank that fails its check must be read again; one that passes ends Spring rules under the same conditions. -/
def Obligations.FirewallRestarts : Prop :=
  (∀ s : State, Up s → Reaches .fragExpiry s (fun d =>
    (∀ x, x ∈ d.fwl.frags ↔ x ∈ s.dev.fwl.frags ∧ s.dev.now < x.last + 2000000000000) ∧
    d = { s.dev with fwl := { s.dev.fwl with frags := d.fwl.frags } })) ∧
  (∀ s : State, Up s → s.dev.fwl.spring = true → s.dev.buf.spillReady = true → s.dev.fwl.reload = false →
    Reaches .stateRebuilt s (fun d =>
      d.fwl.spring = false ∧ d.fwl.bankLoaded = true ∧ d.fwl.ctReady = true ∧ d.fwl.graceEnd = some (s.dev.now + 60000000000000) ∧
      d.fwl.ct = s.dev.fwl.ct ∧ Output.event 0x0704 0 ∈ d.out ∧ (sqOf sqFWL d).bits.getLsbD 4 = true ∧ d.buf = s.dev.buf)) ∧
  (∀ s : State, Up s → s.dev.buf.spillReady = false → Gives .stateRebuilt s s.dev) ∧
  (∀ (s : State) (t : Nat), Up s → s.dev.fwl.graceEnd = some t →
    Gives .pickupGraceEnd s (if t ≤ s.dev.now then { s.dev with fwl := { s.dev.fwl with graceEnd := none } } else s.dev)) ∧
  (∀ s : State, Up s → s.dev.fwl.spring = true → Gives (.bankCheck false) s { s.dev with fwl := { s.dev.fwl with bankLoaded := false } }) ∧
  (∀ s : State, Up s → s.dev.fwl.spring = true → s.dev.buf.spillReady = true → s.dev.fwl.reload = false →
    Reaches (.bankCheck true) s (fun d => d.fwl.bankLoaded = true ∧ d.fwl.spring = false ∧ d.fwl.ct = s.dev.fwl.ct))

/-- CT_MIRROR (R241) on a standby: a created entry stands in its home slot where that is free, a deleted one alone in its chain is gone, an update keeps the receiver's own links; on an active, a failed insertion at the standby raises MIRROR_FAIL with event 0x0706, and beside Spring rules no other message is applied. CT_RESEND_DONE
(R243): on an active that reloads nothing, while the partner is ready and replicates, CT_SYNC reads 1. -/
def Obligations.MirrorsApply : Prop :=
  (∀ (s : State) (e : Ct), Up s → isStandby s.dev = true → ctFind s.dev e.key = none → ctAt s.dev (homeOf s.dev.fwl.seed e.key) = none →
    e.napt = false → s.dev.pair.setups = [] →
    Reaches (.ctMirror .create e) s (fun d =>
      ctAt d (homeOf s.dev.fwl.seed e.key) = some { e with next := none, prev := none, link := none } ∧ d.buf = s.dev.buf ∧ d.out = s.dev.out)) ∧
  (∀ (s : State) (e o : Ct) (ix : Nat), Up s → isStandby s.dev = true → ctFind s.dev e.key = some (ix, o) →
    Reaches (.ctMirror .update e) s (fun d =>
      ctAt d ix = some { e with next := o.next, prev := o.prev, link := o.link } ∧ d.buf = s.dev.buf ∧ d.out = s.dev.out)) ∧
  (∀ (s : State) (e o : Ct) (ix : Nat), Up s → isStandby s.dev = true → ctFind s.dev e.key = some (ix, o) → ctAt s.dev ix = some o →
    o.next = none → o.prev = none →
    Reaches (.ctMirror .delete e) s (fun d => d.fwl.ct = removeAt s.dev.fwl.ct ix ∧ d.fwl.free = ix :: s.dev.fwl.free ∧ d.buf = s.dev.buf)) ∧
  (∀ (s : State) (op : MirrorOp) (e : Ct), Up s → isStandby s.dev = false → s.dev.fwl.spring = false → op ≠ .failed → Gives (.ctMirror op e) s s.dev) ∧
  (∀ (s : State) (e : Ct), Up s → s.dev.pair.role = .active →
    Reaches (.ctMirror .failed e) s (fun d => d.fwl = { s.dev.fwl with mirrorFails := s.dev.fwl.mirrorFails + 1 } ∧ Output.event 0x0706 0 ∈ d.out ∧
      (sqOf sqFWL d).bits.getLsbD 6 = true ∧ d.buf = s.dev.buf)) ∧
  (∀ s : State, Up s → s.dev.pair.role = .active → s.dev.pair.partnerReady = true → s.dev.asd.replicating = true → s.dev.fwl.reload = false →
    Gives .ctResendDone s { s.dev with fwl := { s.dev.fwl with ctSync := true } })

/-- Setups for the standby (14 R420). SETUP_REQUEST on an active: an entry that exists already, not of TCP, is mirrored where the partner replicates and channel 4 has room; with no entry, the flow is set up, and a setup that
is denied is answered so where channel 4 has room; a device that is not active does nothing. SETUP_TIMEOUT: a request without an answer ends after 1 ms, and not before. TOUCH: an active applies what the standby observed of an entry it has; a device that is not active does nothing. -/
def Obligations.SetupsForThePartner : Prop :=
  (∀ (s : State) (p zin zout vid ix : Nat) (hdr : Bytes) (e : Ct), Up s → p < 38 → zin < 16 → zout < 16 → vid < 4096 → s.dev.pair.role = .active →
    ctFind s.dev (frameCtKey s.dev.cfg (wholeHdr (parse s.dev.cfg.fwd.userTypes hdr)) zin zout).1 = some (ix, e) → ctAt s.dev ix = some e → e.kind ≠ .tcp →
    s.dev.asd.replicating = true → ChannelRoom 4 s →
    Reaches (.setupRequest p hdr zin zout vid) s (fun d =>
      d.out = s.dev.out ++ [.ctMirror 0 (ctBytes ix { e with mirrorNo := s.dev.fwl.mirrorNo + 1 } s.dev)] ∧ d.fwl.mirrorNo = s.dev.fwl.mirrorNo + 1 ∧
      ctAt d ix = some { e with mirrorNo := s.dev.fwl.mirrorNo + 1 } ∧ d.buf = s.dev.buf)) ∧
  (∀ (s : State) (p zin zout vid code : Nat) (hdr : Bytes), Up s → p < 38 → zin < 16 → zout < 16 → vid < 4096 → s.dev.pair.role = .active →
    ChannelRoom 4 s → ctFind s.dev (frameCtKey s.dev.cfg (wholeHdr (parse s.dev.cfg.fwd.userTypes hdr)) zin zout).1 = none →
    (setupFlow s.dev.cfg p hdr ⟨wholeHdr (parse s.dev.cfg.fwd.userTypes hdr), zin, zout, vid, (zoneCfg s.dev.cfg zin).naptInside⟩ s.dev).1 = some code →
    Reaches (.setupRequest p hdr zin zout vid) s (fun d =>
      Output.setupDenied (frameCtKey s.dev.cfg (wholeHdr (parse s.dev.cfg.fwd.userTypes hdr)) zin zout).1 ∈ d.out)) ∧
  (∀ (s : State) (p zin zout vid : Nat) (hdr : Bytes), Up s → p < 38 → zin < 16 → zout < 16 → vid < 4096 → s.dev.pair.role = .active →
    ctFind s.dev (frameCtKey s.dev.cfg (wholeHdr (parse s.dev.cfg.fwd.userTypes hdr)) zin zout).1 = none →
    (setupFlow s.dev.cfg p hdr ⟨wholeHdr (parse s.dev.cfg.fwd.userTypes hdr), zin, zout, vid, (zoneCfg s.dev.cfg zin).naptInside⟩ s.dev).1 = none →
    Gives (.setupRequest p hdr zin zout vid) s
      (setupFlow s.dev.cfg p hdr ⟨wholeHdr (parse s.dev.cfg.fwd.userTypes hdr), zin, zout, vid, (zoneCfg s.dev.cfg zin).naptInside⟩ s.dev).2) ∧
  (∀ (s : State) (p zin zout vid : Nat) (hdr : Bytes), Up s → p < 38 → zin < 16 → zout < 16 → vid < 4096 → s.dev.pair.role ≠ .active →
    Gives (.setupRequest p hdr zin zout vid) s s.dev) ∧
  (∀ (s : State) (id due : Nat) (key : Bytes), Up s → s.dev.pair.setups = [(id, key, due)] → due ≤ s.dev.now →
    Reaches (.setupTimeout id) s (fun d => d.pair.setups = [] ∧ d.cfg = s.dev.cfg)) ∧
  (∀ (s : State) (id due : Nat) (key : Bytes), Up s → s.dev.pair.setups = [(id, key, due)] → s.dev.now < due → Gives (.setupTimeout id) s s.dev) ∧
  (∀ (s : State) (key : Bytes) (st : CtPhase) (adv : Bool) (ix : Nat) (e : Ct), Up s → s.dev.pair.role = .active →
    ctFind s.dev key = some (ix, e) →
    Reaches (.touch key st adv) s (fun d =>
      (∃ y, ctAt d ix = some y ∧ y.state = st ∧ y.seen = (if adv then s.dev.fwl.fwSec else e.seen) ∧ y.key = e.key) ∧ d.buf = s.dev.buf)) ∧
  (∀ (s : State) (key : Bytes) (st : CtPhase) (adv : Bool), Up s → s.dev.pair.role ≠ .active → Gives (.touch key st adv) s s.dev)

/-! ### MACsec, keys and tamper (08, 19) -/

/-- PN_CKPT_WRITE_DONE (R274) of the only SA of an SC: the Keeper holds the checkpoint, and a transmit SC that waited for it goes on; with no SA nothing happens. ERASE_ABORT (R271), while no key operation waits: 1 ms after an erase, with no frame in the buffer, the erase is over and what a port sends
under the erased SA is broken off; before that nothing happens. MKA_PDU (R251, R265): with the CAK's slot usable and masked operations allowed, MKA makes an SA of a transmit SC the encoding SA, which ends a stop of the SC, and retires an SA of the only receive SC; otherwise nothing happens. -/
def Obligations.CheckpointEraseAndMka : Prop :=
  (∀ (s : State) (sc v : Nat) (an : BitVec 2) (a : TxSa), Up s → sc < 1024 → (txScOf s.dev sc).sas = [a] → a.an = an → a.ckptPend = some v →
    Reaches (.pnCkptWriteDone true sc an) s (fun d =>
      lookup? d.keeper.ckptTx (sc * 4 + an.toNat) = some v ∧ (txScOf d sc).sas = [{ a with ckpt := v, ckptPend := none }] ∧
      (txScOf d sc).stalled = false ∧ d.keeper.root = s.dev.keeper.root ∧ d.buf = s.dev.buf ∧ d.out = s.dev.out)) ∧
  (∀ (s : State) (sc v : Nat) (an : BitVec 2) (a : RxSa), Up s → sc < 1024 → rxSas s.dev sc = [a] → a.an = an → a.ckptPend = some v →
    Reaches (.pnCkptWriteDone false sc an) s (fun d =>
      lookup? d.keeper.ckptRx (sc * 4 + an.toNat) = some v ∧ rxSas d sc = [{ a with ckptPend := none }] ∧ d.buf = s.dev.buf)) ∧
  (∀ (s : State) (sc : Nat) (an : BitVec 2), Up s → sc < 1024 → (txScOf s.dev sc).sas = [] → Gives (.pnCkptWriteDone true sc an) s s.dev) ∧
  (∀ (s : State) (e : Bool × Nat × BitVec 2 × Nat), Up s → s.dev.msc.erasing = [e] → e.2.2.2 + 1000000000 ≤ s.dev.now → s.dev.ncp.pend = [] →
    s.dev.buf.frames = [] →
    Reaches .eraseAbort s (fun d => d.msc = { s.dev.msc with erasing := [] } ∧
      (∀ p, (portSt d p).cur = (portSt s.dev p).cur.map (fun t => if (egressUnder [e] (some t)).isSome then { t with abort := true } else t)) ∧
      d.buf = s.dev.buf ∧ d.sec = s.dev.sec ∧ d.cfg = s.dev.cfg)) ∧
  (∀ (s : State) (e : Bool × Nat × BitVec 2 × Nat), Up s → s.dev.msc.erasing = [e] → s.dev.now < e.2.2.2 + 1000000000 → s.dev.ncp.pend = [] →
    Gives .eraseAbort s s.dev) ∧
  (∀ (s : State) (cak sc : Nat) (an : BitVec 2), Up s → cak < 64 → secRefusal s.dev = none → slotUse 0 false 3 cak s.dev = none →
    ((txScOf s.dev sc).sas.any (fun a => decide (a.an = an))) = true →
    Reaches (.mkaPdu cak [.encode sc an]) s (fun d =>
      (txScOf d sc).enc = some an ∧ (txScOf d sc).stopped = false ∧ (txScOf d sc).sas = (txScOf s.dev sc).sas ∧ d.sec = s.dev.sec ∧ d.buf = s.dev.buf)) ∧
  (∀ (s : State) (cak sc : Nat) (an : BitVec 2) (l : List RxSa), Up s → cak < 64 → secRefusal s.dev = none → slotUse 0 false 3 cak s.dev = none →
    s.dev.msc.rx = [(sc, l)] →
    Reaches (.mkaPdu cak [.retire false sc an]) s (fun d => rxSaOf d sc an = none ∧ d.sec = s.dev.sec ∧ d.buf = s.dev.buf ∧ d.out = s.dev.out)) ∧
  (∀ (s : State) (cak : Nat) (acts : List MkaAct), Up s → cak < 64 →
    ((secRefusal s.dev).isSome = true ∨ (slotUse 0 false 3 cak s.dev).isSome = true) → Gives (.mkaPdu cak acts) s s.dev)

/-- Entropy (R549, R279). ENTROPY_TEST_DONE, while no key operation waits: a passed test, with no root secret and no key table due, seeds the DRBG with a free value and ends the test; a first failure counts and the test goes on. DRBG_RESEED replaces the seed of a working DRBG by a free value, and does
nothing without tested entropy. HEALTH_TEST_FAIL: a failed health test after a passed start-up test degrades the DRBG with event 0x0809. -/
def Obligations.EntropySource : Prop :=
  (∀ s : State, Up s → s.dev.msc.entropyDone = false → s.dev.sec.rootDue = false → s.dev.sec.loadDue = false → s.dev.ncp.pend = [] →
    Reaches (.entropyTestDone true) s (fun d =>
      d.msc.entropyOk = true ∧ d.msc.entropyDone = true ∧ d.msc.drbgDegraded = false ∧
      d.msc.drbg = Config.freeValue s.dev.freeCtr % 18446744073709551616 ∧ d.freeCtr = s.dev.freeCtr + 1 ∧
      d = { s.dev with msc := d.msc, freeCtr := d.freeCtr })) ∧
  (∀ s : State, Up s → s.dev.msc.entropyDone = false → s.dev.msc.entropyTries = 0 → s.dev.ncp.pend = [] →
    Reaches (.entropyTestDone false) s (fun d => d.msc.entropyTries = 1 ∧ d.msc.entropyDone = false ∧ d.sec = s.dev.sec ∧ d.keeper = s.dev.keeper)) ∧
  (∀ s : State, Up s → s.dev.msc.entropyOk = true → s.dev.msc.drbgDegraded = false →
    Gives .drbgReseed s { s.dev with
      freeCtr := s.dev.freeCtr + 1, msc := { s.dev.msc with drbg := Config.freeValue s.dev.freeCtr % 18446744073709551616 } }) ∧
  (∀ s : State, Up s → s.dev.msc.entropyOk = false → Gives .drbgReseed s s.dev) ∧
  (∀ s : State, Up s → s.dev.msc.entropyDone = true → s.dev.msc.entropyOk = true →
    Reaches .healthTestFail s (fun d => d.msc = { s.dev.msc with drbgDegraded := true } ∧ Output.event 0x0809 0 ∈ d.out ∧
      (sqOf sqMSC d).bits.getLsbD 8 = true ∧ d.sec = s.dev.sec ∧ d.buf = s.dev.buf))

/-- TAMPER_DETECT (R531, R532, R533), while no key operation waits: a watched source zeroes the Keeper's root secret, boot count, checkpoints and time; in Summer and Spring the key slots and SAs go too, every transmit SC of the configuration stops, with events 0x1201 and 0x0805, and the security
manager refuses from then on. A source that is not watched has no effect. -/
def Obligations.TamperZeroes : Prop :=
  (∀ (s : State) (x : TamperSrc), watched x s.dev = true → s.dev.ncp.pend = [] →
    Reaches (.tamperDetect x) s (fun d =>
      d.keeper.valid = false ∧ d.keeper.root = none ∧ d.keeper.bootCount = 0 ∧ d.keeper.ckptTx = [] ∧ d.keeper.ckptRx = [] ∧ d.keeper.timeOk = false)) ∧
  (∀ (s : State) (x : TamperSrc), watched x s.dev = true → s.dev.ncp.pend = [] → (s.dev.ssn.season = .summer ∨ s.dev.ssn.season = .spring) →
    Reaches (.tamperDetect x) s (fun d => d.sec.slots = [] ∧ d.sec.tampered = true ∧ d.msc.rx = [] ∧
      d.msc.tx = s.dev.cfg.msc.secys.map (fun y => (y.1, { stopped := true })) ∧ Output.event 0x1201 0 ∈ d.out ∧ Output.event 0x0805 0 ∈ d.out ∧
      secRefusal d = some { status := 0x0404, reason := 0x1231 })) ∧
  (∀ (s : State) (x : TamperSrc), watched x s.dev = false → s.dev.ncp.pend = [] → Gives (.tamperDetect x) s s.dev)

/-! ### Train topology (09) -/

/-- HELLO_RECEIVED (R288, R291): a new neighbour on a direction is kept with event 0x0903, a known one is refreshed; a HELLO of the own ETB on any other Ethernet port that is not blocked
blocks that port with event 0x0904. NEIGHBOUR_LOST (R291): a neighbour silent for the loss time is gone with event 0x0903, and not before. HELLO_SEND and TOPOLOGY_SEND (R291, R301) while Renioft executes: when its interval has passed the frame leaves, a HELLO unless the line is bypassed and refreshing the
watchdog, a TOPOLOGY frame unless the line is bypassed or inserting; before its interval has passed, or bypassed, neither leaves. -/
def Obligations.NeighboursAndTtdp : Prop :=
  (∀ (s : State) (p id etb : Nat), Up s → p < 2 → lookup? s.dev.top.neighbours p = none →
    Reaches (.helloReceived p id etb) s (fun d =>
      lookup? d.top.neighbours p = some { id := id, lastHello := s.dev.now } ∧ Output.event 0x0903 0 ∈ d.out ∧
      (sqOf sqTOP d).bits.getLsbD 2 = true ∧ d.top.line = s.dev.top.line ∧ d.ports = s.dev.ports ∧ d.buf = s.dev.buf)) ∧
  (∀ (s : State) (p etb : Nat) (n : Neighbour), Up s → p < 2 → lookup? s.dev.top.neighbours p = some n →
    Gives (.helloReceived p n.id etb) s { s.dev with top := { s.dev.top with
      neighbours := insertAt s.dev.top.neighbours p { id := n.id, lastHello := s.dev.now } } }) ∧
  (∀ (s : State) (p id : Nat), Up s → 2 ≤ p → p < 25 → (portSt s.dev p).loopBlock = false →
    Reaches (.helloReceived p id s.dev.cfg.top.etbId) s (fun d =>
      (portSt d p).loopBlock = true ∧ Output.event 0x0904 p ∈ d.out ∧ (sqOf sqTOP d).bits.getLsbD 3 = true ∧ d.top = s.dev.top ∧ d.buf = s.dev.buf)) ∧
  (∀ (s : State) (p : Nat) (n : Neighbour), Up s → p < 2 → lookup? s.dev.top.neighbours p = some n →
    n.lastHello + msPs (s.dev.cfg.top.helloMs + 5 + s.dev.cfg.top.helloLoss * s.dev.cfg.top.helloFastMs) ≤ s.dev.now →
    Reaches (.neighbourLost p) s (fun d =>
      d.top = { s.dev.top with neighbours := removeAt s.dev.top.neighbours p, topoAt := d.top.topoAt } ∧ Output.event 0x0903 0 ∈ d.out ∧ d.buf = s.dev.buf)) ∧
  (∀ (s : State) (p : Nat) (n : Neighbour), Up s → p < 2 → lookup? s.dev.top.neighbours p = some n →
    s.dev.now < n.lastHello + msPs (s.dev.cfg.top.helloMs + 5 + s.dev.cfg.top.helloLoss * s.dev.cfg.top.helloFastMs) →
    Gives (.neighbourLost p) s s.dev) ∧
  (∀ (s : State) (p : Nat), Up s → p < 2 → s.dev.top.line ≠ .bypassed → renioftRuns s.dev = true →
    periodOver (lookup? s.dev.top.helloAt p) (helloPeriodMs p s.dev) s.dev = true →
    Gives (.helloSend p) s { s.dev with
      top := { s.dev.top with lastRefresh := s.dev.now, helloAt := insertAt s.dev.top.helloAt p s.dev.now }, out := s.dev.out ++ [.ttdpHello p (ownLine s.dev) s.dev.cfg.top.etbId] }) ∧
  (∀ (s : State) (p : Nat), Up s → p < 2 → s.dev.top.line ≠ .bypassed → s.dev.top.line ≠ .inserting → renioftRuns s.dev = true →
    periodOver (lookup? s.dev.top.topoAt p) s.dev.cfg.top.topoMs s.dev = true →
    Gives (.topologySend p) s { s.dev with
      top := { s.dev.top with topoAt := insertAt s.dev.top.topoAt p s.dev.now }, out := s.dev.out ++ [.ttdpTopology p (ownLine s.dev) (s.dev.top.neighbours.map (fun x => (x.1, x.2.id)))
                                             s.dev.top.inhibit s.dev.cfg.top.car (lanryTlv s.dev)] }) ∧
  (∀ (s : State) (p : Nat), Up s → p < 2 →
    (periodOver (lookup? s.dev.top.helloAt p) (helloPeriodMs p s.dev) s.dev = false → Gives (.helloSend p) s s.dev) ∧
    (periodOver (lookup? s.dev.top.topoAt p) s.dev.cfg.top.topoMs s.dev = false → Gives (.topologySend p) s s.dev)) ∧
  (∀ (s : State) (p : Nat), Up s → p < 2 → s.dev.top.line = .bypassed → Gives (.helloSend p) s s.dev ∧ Gives (.topologySend p) s s.dev)

/-- TOPOLOGY_RECEIVED (R290): the view of its line is kept; in DISCOVERING, with nothing seen on line B, a view of line A that is not empty begins STABLE_WAIT. TOPO_STABLE_EXPIRY (R292, R293): the merged view of at most 63 nodes that stayed stable is
inaugurated with its counter and event 0x0901; one that has not stayed so long is not. ROUTE_COMMIT (R293) on the device that owns the routes, outside transitions and while no commit is on its way: routes that every manager prepares are in force under the next epoch with event 0x0103 where no partner is to answer; routes
that a manager refuses, or that the partner refuses, are not; where none is queued nothing happens. -/
def Obligations.InaugurationAndRoutes : Prop :=
  (∀ (s : State) (view : List TopNode), Up s →
    Reaches (.topologyReceived false view) s (fun d => d.top.viewA = some view ∧ d.top.viewB = s.dev.top.viewB ∧ d.buf = s.dev.buf) ∧
    Reaches (.topologyReceived true view) s (fun d => d.top.viewB = some view ∧ d.top.viewA = s.dev.top.viewA ∧ d.buf = s.dev.buf)) ∧
  (∀ (s : State) (x : TopNode) (rest : List TopNode), Up s → s.dev.top.line = .discovering → s.dev.top.viewB = none →
    Reaches (.topologyReceived false (x :: rest)) s (fun d => d.top.line = .stableWait ∧ d.top.since = s.dev.now)) ∧
  (∀ s : State, Up s → s.dev.top.line = .stableWait → s.dev.top.since + msPs s.dev.cfg.top.stableMs ≤ s.dev.now → (mergedView s.dev).length ≤ 63 →
    Reaches .topoStableExpiry s (fun d =>
      d.top.line = .inaugurated ∧ d.top.list = numbered (mergedView s.dev) ∧ d.top.count = counterOf (numbered (mergedView s.dev)) ∧
      d.top.inaugurated = true ∧ Output.event 0x0901 0 ∈ d.out ∧ (sqOf sqTOP d).bits.getLsbD 0 = true)) ∧
  (∀ s : State, Up s → s.dev.now < s.dev.top.since + msPs s.dev.cfg.top.stableMs → Gives .topoStableExpiry s s.dev) ∧
  (∀ (s : State) (routes : List Route) (hops : Tbl NextHop) (ans : PartnerAns) (bs : List PortBound), Up s → s.dev.top.routeQueued = true →
    inTransition s.dev = false → s.dev.switching = none → configBusy s.dev = false → isOwner s.dev = true → exchanges s.dev = false →
    prepare (routedCfg routes hops s.dev.cfg) false { s.dev with top := { s.dev.top with routeQueued := false } } = .ok bs →
    Reaches (.routeCommit (routes, hops) ans) s (fun d =>
      d.cfg = routedCfg routes hops s.dev.cfg ∧ d.glb.cfgEpoch = s.dev.glb.cfgEpoch + 1 ∧ d.top.routeQueued = false ∧
      Output.event 0x0103 0 ∈ d.out ∧ (sqOf sqFWD d).bits.getLsbD 0 = true ∧ (sqOf sqGLB d).bits.getLsbD 2 = true)) ∧
  (∀ (s : State) (routes : List Route) (hops : Tbl NextHop) (ans : PartnerAns) (x : Reject) (b : Bytes), Up s → s.dev.top.routeQueued = true →
    inTransition s.dev = false → s.dev.switching = none → configBusy s.dev = false → isOwner s.dev = true →
    prepare (routedCfg routes hops s.dev.cfg) false { s.dev with top := { s.dev.top with routeQueued := false } } = .refused x b →
    Gives (.routeCommit (routes, hops) ans) s { s.dev with top := { s.dev.top with routeQueued := false } }) ∧
  (∀ (s : State) (routes : List Route) (hops : Tbl NextHop) (status reason : BitVec 16), Up s → s.dev.top.routeQueued = true →
    inTransition s.dev = false → s.dev.switching = none → configBusy s.dev = false → isOwner s.dev = true → exchanges s.dev = true →
    Reaches (.routeCommit (routes, hops) (.refused status reason)) s (fun d =>
      d.cfg = s.dev.cfg ∧ d.glb = s.dev.glb ∧ d.top = { s.dev.top with routeQueued := false })) ∧
  (∀ (s : State) (routes : List Route) (hops : Tbl NextHop) (ans : PartnerAns), Up s → s.dev.top.routeQueued = false →
    Gives (.routeCommit (routes, hops) ans) s s.dev)

/-- The bypass relay. BYPASS_SETTLE_EXPIRY (R290): settling ends INSERTING when BB0 has link and no line was seen; with no link nothing happens. BYPASS_WD (R301): without Renioft the watchdog releases the relay with event 0x0905, with it nothing happens. BYPASS_COMMAND (R299): a command releases the relay; its end
inserts the device again where TOP, BB0 and BB1 are configured and the watchdog has not fired. TOPO_INHIBIT (R294): the local inhibit, whose end, where no node announces one, returns an inhibited line to STABLE_WAIT. -/
def Obligations.BypassAndInhibit : Prop :=
  (∀ s : State, Up s → s.dev.top.line = .inserting → s.dev.top.since + msPs s.dev.cfg.top.settleMs ≤ s.dev.now → (portSt s.dev 0).linkUp = true →
    s.dev.top.viewA = none → s.dev.top.viewB = none →
    Gives .bypassSettleExpiry s { s.dev with top := { s.dev.top with line := .discovering, since := s.dev.now } }) ∧
  (∀ s : State, Up s → (portSt s.dev 0).linkUp = false → (portSt s.dev 1).linkUp = false → Gives .bypassSettleExpiry s s.dev) ∧
  (∀ s : State, Up s → s.dev.top.bypassEn = true → renioftRuns s.dev = false → s.dev.top.lastRefresh + msPs s.dev.cfg.top.wdMs ≤ s.dev.now →
    Reaches .bypassWd s (fun d =>
      d.top.line = .bypassed ∧ d.top.bypassEn = false ∧ d.top.wdReleased = true ∧ Output.pin .bypassEn false ∈ d.out ∧ Output.event 0x0905 0 ∈ d.out ∧
      (sqOf sqTOP d).bits.getLsbD 4 = true ∧ d.buf = s.dev.buf)) ∧
  (∀ s : State, Up s → renioftRuns s.dev = true → Gives .bypassWd s s.dev) ∧
  (∀ s : State, Up s → Reaches (.bypassCommand true) s (fun d =>
      d.top.line = .bypassed ∧ d.top.bypassEn = false ∧ d.top.bypassCmd = true ∧ d.buf = s.dev.buf ∧ d.ports = s.dev.ports)) ∧
  (∀ s : State, Up s → s.dev.top.line = .bypassed → s.dev.cfg.top.configured = true → s.dev.top.wdReleased = false →
    (portCfg s.dev 0).configured = true → (portCfg s.dev 1).configured = true →
    Reaches (.bypassCommand false) s (fun d => d.top.line = .inserting ∧ d.top.bypassEn = true ∧ d.top.bypassCmd = false ∧ d.top.since = s.dev.now)) ∧
  (∀ (s : State) (on : Bool), Up s → s.dev.top.line ≠ .inhibited →
    Reaches (.topoInhibit on) s (fun d => d = { s.dev with top := { s.dev.top with inhibit := on, topoAt := d.top.topoAt }, out := d.out })) ∧
  (∀ s : State, Up s → s.dev.top.line = .inhibited → (mergedView s.dev).any (fun x => x.inhibit && x.present) = false →
    Reaches (.topoInhibit false) s (fun d =>
      d = { s.dev with top := { s.dev.top with inhibit := false, line := .stableWait, since := s.dev.now, topoAt := d.top.topoAt }, out := d.out }))

/-! ### CAN, MVB and the gateway (10, 11, 12) -/

/-- The hand-over of CAN entries (R315, R318). CX_TXREQ on a channel that runs makes PENDING every entry whose bit is set, all of them FREE and sendable, and no other, and reports HANDOVER_ERR (0x0A0A) for a single
entry that is not FREE; CX_TXCANCEL of a single entry ends a PENDING one CANCELLED and marks one whose attempt runs; CX_TXACK of a single DONE entry frees it while no message waits; CX_RXACK releases the oldest
received entries, none of which holds cells; CAN_ATTEMPT_START in NORMAL, without bus-off and with no attempt running, sends the offered entry; CAN_ATTEMPT_END, of an entry that is not cancelled on a channel that stays, ends it SENT, or PENDING again with LEC and TEC + 8 after an error
that is no acknowledgement error and stays below bus-off. -/
def Obligations.CanEntries : Prop :=
  (∀ (s : State) (n : Nat) (mask : BitVec 64), Up s → n < 8 → (canSt s.dev n).on = true → (canSt s.dev n).closing = false →
    (∀ e, mask.getLsbD e = true → (txOf (canSt s.dev n) e).phase = .free ∧ txInvalid (canCfg s.dev.cfg n) (txOf (canSt s.dev n) e) = false) →
    Reaches (.cxTxreq n mask) s (fun d =>
      (∀ e, (txOf (canSt d n) e).phase = if mask.getLsbD e then .pending else (txOf (canSt s.dev n) e).phase) ∧
      (∀ e, (txOf (canSt d n) e).frame = (txOf (canSt s.dev n) e).frame) ∧ d.out = s.dev.out ∧ CanChannelOnly n s d)) ∧
  (∀ (s : State) (n e : Nat) (mask : BitVec 64), Up s → n < 8 → maskBits mask = [e] → (txOf (canSt s.dev n) e).phase ≠ .free →
    Reaches (.cxTxreq n mask) s (fun d =>
      d.can = s.dev.can ∧ Output.event 0x0A0A n ∈ d.out ∧ (sqOf (sqCXL n) d).bits.getLsbD 9 = true ∧ CanChannelOnly n s d)) ∧
  (∀ (s : State) (n e : Nat) (mask : BitVec 64), Up s → n < 8 → maskBits mask = [e] → (txOf (canSt s.dev n) e).phase = .pending →
    lookup? s.dev.gw.entries (n * 64 + e) = none →
    Reaches (.cxTxcancel n mask) s (fun d =>
      (txOf (canSt d n) e).phase = .done ∧ (txOf (canSt d n) e).result = .cancelled ∧ (sqOf (sqCXL n) d).bits.getLsbD 0 = true ∧
      CanChannelOnly n s d)) ∧
  (∀ (s : State) (n e : Nat) (mask : BitVec 64), Up s → n < 8 → maskBits mask = [e] → (txOf (canSt s.dev n) e).phase = .attempt →
    Reaches (.cxTxcancel n mask) s (fun d =>
      txOf (canSt d n) e = { txOf (canSt s.dev n) e with cancel := true } ∧ d.out = s.dev.out ∧ CanChannelOnly n s d)) ∧
  (∀ (s : State) (n e : Nat) (mask : BitVec 64), Up s → n < 8 → maskBits mask = [e] → (txOf (canSt s.dev n) e).phase = .done →
    waitList s.dev n = [] →
    Reaches (.cxTxack n mask) s (fun d =>
      txOf (canSt d n) e = { txOf (canSt s.dev n) e with phase := .free } ∧ (∀ e', e' ≠ e → txOf (canSt d n) e' = txOf (canSt s.dev n) e') ∧
      d.out = s.dev.out ∧ CanChannelOnly n s d)) ∧
  (∀ (s : State) (n count : Nat), Up s → n < 8 → (∀ r ∈ (canSt s.dev n).rx, r.cells = 0) →
    Reaches (.cxRxack n count) s (fun d =>
      (canSt d n).rx = (canSt s.dev n).rx.drop count ∧ (canSt d n).rxHead = ((canSt s.dev n).rxHead + min count (canSt s.dev n).rx.length) % 256 ∧
      (canSt d n).tx = (canSt s.dev n).tx ∧ CanChannelOnly n s d)) ∧
  (∀ (s : State) (n e : Nat), Up s → n < 8 → (canSt s.dev n).on = true → (canSt s.dev n).closing = false → (canSt s.dev n).busOff = false →
    (canCfg s.dev.cfg n).mode = .normal → inPhase (canSt s.dev n) .attempt = [] → offered (canCfg s.dev.cfg n).fifo (canSt s.dev n) = some e →
    Reaches (.canAttemptStart n) s (fun d =>
      (txOf (canSt d n) e).phase = .attempt ∧ (txOf (canSt d n) e).attempts = satInc (txOf (canSt s.dev n) e).attempts ∧
      (∀ e', e' ≠ e → txOf (canSt d n) e' = txOf (canSt s.dev n) e') ∧ d.out = s.dev.out ∧ CanChannelOnly n s d)) ∧
  (∀ (s : State) (n e : Nat) (t : TxEntry) (rest : List (Nat × TxEntry)) (delay : Option Nat), Up s → n < 8 → inPhase (canSt s.dev n) .attempt = (e, t) :: rest →
    (canSt s.dev n).closing = false → (canSt s.dev n).alone = false → t.cancel = false → lookup? s.dev.gw.entries (n * 64 + e) = none →
    Reaches (.canAttemptEnd n .sent delay) s (fun d =>
      (txOf (canSt d n) e).phase = .done ∧ (txOf (canSt d n) e).result = .sent ∧ (canSt d n).txErr = (canSt s.dev n).txErr - 1 ∧
      Output.can n (wireFrame (canSt s.dev n) t.frame) true ∈ d.out ∧ (sqOf (sqCXL n) d).bits.getLsbD 0 = true ∧ CanChannelOnly n s d)) ∧
  (∀ (s : State) (n e lec : Nat) (t : TxEntry) (rest : List (Nat × TxEntry)) (delay : Option Nat), Up s → n < 8 → lec < 16 → lec ≠ 3 →
    inPhase (canSt s.dev n) .attempt = (e, t) :: rest → (canSt s.dev n).closing = false → t.cancel = false → t.retry = 255 →
    (canSt s.dev n).txErr + 8 ≤ 255 →
    Reaches (.canAttemptEnd n (.error lec false) delay) s (fun d =>
      (txOf (canSt d n) e).phase = .pending ∧ (txOf (canSt d n) e).lec = BitVec.ofNat 4 lec ∧ (txOf (canSt d n) e).failed = t.failed + 1 ∧
      (canSt d n).txErr = (canSt s.dev n).txErr + 8 ∧ Output.can n (wireFrame (canSt s.dev n) t.frame) false ∈ d.out ∧ CanChannelOnly n s d))

/-- CAN reception, errors and wake (R317, R320, R321, R323, R331), while the gateway builds no messages: with REC at most 127 and room, an accepted frame of at most 64 bytes is appended to the receive entries with its filter and RSEQ; a channel that is
OFF hears nothing; CAN_RX_ERROR counts REC up by 1 or 8, at most to 255; BUS_OFF_END clears both counters with event 0x0A04, and does nothing to a channel that does not recover; an armed CAN wake detector begins Spring in Autumn, with PWR_EN[0] at once where it was low for a Keeper tick; one that is
not armed does nothing. -/
def Obligations.CanReception : Prop :=
  (∀ (s : State) (n i : Nat) (f : CanFrame), Up s → n < 8 → (canSt s.dev n).on = true → (canSt s.dev n).busOff = false →
    hasFormat (canCfg s.dev.cfg n) f.fmt = true → (canSt s.dev n).rxErr ≤ 127 →
    (canFilters s.dev.cfg n).findIdx? (fun k => decide (k = canKey f)) = some i → (canSt s.dev n).rx.length < 256 → canCells f = 0 →
    GwQuiet s →
    Reaches (.canFrameReceived n f) s (fun d =>
      (canSt d n).rx = (canSt s.dev n).rx ++ [{ frame := f, filter := i, rseq := (canSt s.dev n).rseq + 1 }] ∧
      (canSt d n).rseq = (canSt s.dev n).rseq + 1 ∧ (canSt d n).rxErr = (canSt s.dev n).rxErr - 1 ∧ (canSt d n).tx = (canSt s.dev n).tx ∧
      CanChannelOnly n s d)) ∧
  (∀ (s : State) (n : Nat) (f : CanFrame), Up s → n < 8 → (canSt s.dev n).on = false → Gives (.canFrameReceived n f) s s.dev) ∧
  (∀ (s : State) (n lec : Nat) (by8 : Bool), Up s → n < 8 → lec < 16 → (canSt s.dev n).on = true → (canSt s.dev n).busOff = false →
    Reaches (.canRxError n lec by8) s (fun d =>
      (canSt d n).rxErr = min 255 ((canSt s.dev n).rxErr + if by8 then 8 else 1) ∧ (canSt d n).txErr = (canSt s.dev n).txErr ∧
      (canSt d n).tx = (canSt s.dev n).tx ∧ CanChannelOnly n s d)) ∧
  (∀ (s : State) (n : Nat), Up s → n < 8 → (canSt s.dev n).busOff = true → (canSt s.dev n).recovering = true → GwQuiet s →
    Reaches (.busOffEnd n) s (fun d =>
      (canSt d n).busOff = false ∧ (canSt d n).txErr = 0 ∧ (canSt d n).rxErr = 0 ∧ (canSt d n).passive = false ∧
      Output.event 0x0A04 n ∈ d.out ∧ (sqOf (sqCXL n) d).bits.getLsbD 4 = true ∧ CanChannelOnly n s d)) ∧
  (∀ (s : State) (n : Nat), Up s → n < 8 → (canSt s.dev n).recovering = false → Gives (.busOffEnd n) s s.dev) ∧
  (∀ (s : State) (n : Nat), n < 8 → detectorOn s.dev n = true → s.dev.ssn.season = .autumn → GwQuiet s →
    Reaches (.canWakeDetect n) s (fun d =>
      d.ssn.season = .spring ∧ d.ssn.wakeSource = 2 ∧ d.ssn.wakeChan = n ∧
      (s.dev.ssn.pwrFell + keeperTickPs ≤ s.dev.now → d.ssn.pwrEn = 1 ∧ Output.pin (.pwrEn 0) true ∈ d.out) ∧
      d.can = s.dev.can ∧ d.buf = s.dev.buf)) ∧
  (∀ (s : State) (n : Nat), n < 8 → detectorOn s.dev n = false → Gives (.canWakeDetect n) s s.dev)

/-- The traffic store (R342 to R344), on good lines where a frame is received: a slave frame of a sink port that no route takes and a write of a source port fill the page that PAGE does not name and flip it, with age 0 and
the mark cleared; a millisecond ages the only port of a channel, and a sink port past its limit is marked with event 0x0B06 (the gateway building no messages); a poll of an unmarked source port of its size, on a slave channel of the device that owns the sources and with no message waiting for a page, is answered with the
current page, and a device-status poll of a slave channel with the status. -/
def Obligations.MvbTrafficStore : Prop :=
  (∀ (s : State) (n a : Nat) (p : MvbPort) (data : Bytes) (l : MvbLines), Up s → n < 2 → a < 4096 → (mvbSt s.dev n).role ≠ .off →
    MvbLinesGood n s l → lookup? (mvbCfg s.dev.cfg n).ports a = some p → p.source = false → p.route = false → data.length = mvbBytes p.size →
    Reaches (.mvbSlaveFrame n a data l) s (fun d =>
      mvbEntry d n a = { flipPage (mvbEntry s.dev n a) data with line := l.firstB, ts := ts32 s.dev } ∧ currentPage (mvbEntry d n a) = data ∧
      (∀ b, b ≠ a → mvbEntry d n b = mvbEntry s.dev n b) ∧ d.out = s.dev.out ∧ MvbChannelOnly n s d)) ∧
  (∀ (s : State) (n a : Nat) (p : MvbPort) (data : Bytes), Up s → n < 2 → a < 4096 → lookup? (mvbCfg s.dev.cfg n).ports a = some p →
    p.source = true → data.length = mvbBytes p.size →
    Reaches (.mvbSourceWrite n a data) s (fun d =>
      currentPage (mvbEntry d n a) = data ∧ (mvbEntry d n a).page = !(mvbEntry s.dev n a).page ∧ (mvbEntry d n a).upd = (mvbEntry s.dev n a).upd + 1 ∧
      (mvbEntry d n a).age = 0 ∧ (mvbEntry d n a).mark = false ∧ (∀ b, b ≠ a → mvbEntry d n b = mvbEntry s.dev n b) ∧ d.out = s.dev.out ∧
      MvbChannelOnly n s d)) ∧
  (∀ (s : State) (n a : Nat) (p : MvbPort), Up s → n < 2 → (mvbCfg s.dev.cfg n).ports = [(a, p)] → p.limit = 0 →
    Reaches (.mvbAgeTick n) s (fun d =>
      mvbEntry d n a = { mvbEntry s.dev n a with age := min 65535 ((mvbEntry s.dev n a).age + 1) } ∧ d.out = s.dev.out ∧ MvbChannelOnly n s d)) ∧
  (∀ (s : State) (n a : Nat) (p : MvbPort), Up s → n < 2 → (mvbCfg s.dev.cfg n).ports = [(a, p)] → p.source = false → p.limit ≠ 0 → p.limit < 65535 →
    (mvbEntry s.dev n a).age = p.limit → (mvbEntry s.dev n a).mark = false → GwQuiet s →
    Reaches (.mvbAgeTick n) s (fun d =>
      (mvbEntry d n a).mark = true ∧ (mvbEntry d n a).age = p.limit + 1 ∧ Output.event 0x0B06 n ∈ d.out ∧
      (sqOf (sqMVB n) d).bits.getLsbD 5 = true ∧ MvbChannelOnly n s d)) ∧
  (∀ (s : State) (n a fcode : Nat) (p : MvbPort) (l : MvbLines), Up s → n < 2 → a < 4096 → fcode ≤ 4 → (mvbSt s.dev n).role = .slave →
    MvbLinesGood n s l → lookup? (mvbCfg s.dev.cfg n).ports a = some p → p.source = true → p.size = fcode → (mvbEntry s.dev n a).mark = false →
    isOwner s.dev = true → s.dev.gw.pages = [] →
    Reaches (.masterFrameReceived n fcode a l) s (fun d =>
      d.out = s.dev.out ++ [.mvbSlave n a (currentPage (mvbEntry s.dev n a))] ∧ (mvbSt d n).lastFrame = s.dev.now ∧ MvbChannelOnly n s d)) ∧
  (∀ (s : State) (n : Nat) (l : MvbLines), Up s → n < 2 → (mvbCfg s.dev.cfg n).devAddr < 4096 → (mvbSt s.dev n).role = .slave → MvbLinesGood n s l →
    Reaches (.masterFrameReceived n 15 (mvbCfg s.dev.cfg n).devAddr l) s (fun d =>
      d.out = s.dev.out ++ [.mvbStatus n] ∧ MvbChannelOnly n s d))

/-- Bus administration (R346, R347, R349), while the gateway builds no messages: a master that scans no devices and polls none of its own sources polls the periodic list of the basic period and sends the event poll; a reply
that does not come is counted and no longer awaited; a foreign master frame ends mastership (0x0B03, 0x0B02); silence, or an offer to a standby, gains it (0x0B01), not before its time and not on a slave;
an accepted offer passes it on and a refused one does not; a device that answers first is found (0x0B09), and one that missed its scans is lost (0x0B08). -/
def Obligations.MvbAdministration : Prop :=
  (∀ (s : State) (n : Nat), Up s → n < 2 → (mvbSt s.dev n).role = .master → (mvbSt s.dev n).devices = [] →
    (mvbCfg s.dev.cfg n).known = [] → (∀ p ∈ (mvbCfg s.dev.cfg n).periodic, answersPoll s.dev n p.addr p.size = false) →
    Reaches (.mvbBasicPeriod n) s (fun d =>
      d.out = s.dev.out ++ (((mvbCfg s.dev.cfg n).periodic.filter (fun p => decide ((mvbSt s.dev n).period % max 1 p.every = p.first))).map
        (fun p => Output.mvbMaster n p.size p.addr)) ++ [.mvbMaster n 9 0] ∧
      (mvbSt d n).waiting = (mvbSt s.dev n).waiting ++ (((mvbCfg s.dev.cfg n).periodic.filter
        (fun p => decide ((mvbSt s.dev n).period % max 1 p.every = p.first))).map (·.addr)) ∧
      (mvbSt d n).period = ((mvbSt s.dev n).period + 1) % max 1 (mvbCfg s.dev.cfg n).macroCycle ∧ MvbChannelOnly n s d)) ∧
  (∀ (s : State) (n a : Nat), Up s → n < 2 → a < 4096 → (mvbSt s.dev n).role = .master → a ∈ (mvbSt s.dev n).waiting →
    Reaches (.mvbReplyTimeout n a) s (fun d =>
      (mvbSt d n).waiting = (mvbSt s.dev n).waiting.erase a ∧ counter (0x581000 + n * 0x10000 + 24) d = counter (0x581000 + n * 0x10000 + 24) s.dev + 1 ∧
      d.out = s.dev.out ∧ MvbChannelOnly n s d)) ∧
  (∀ (s : State) (n : Nat), Up s → n < 2 → (mvbSt s.dev n).role = .master → GwQuiet s →
    Reaches (.mvbForeignMaster n) s (fun d =>
      (mvbSt d n).role = .standby ∧ Output.event 0x0B03 n ∈ d.out ∧ Output.event 0x0B02 n ∈ d.out ∧ MvbChannelOnly n s d)) ∧
  (∀ (s : State) (n : Nat), Up s → n < 2 → (mvbSt s.dev n).role = .standby → GwQuiet s →
    (mvbSt s.dev n).lastFrame + ((mvbCfg s.dev.cfg n).silenceMs + (mvbCfg s.dev.cfg n).baRank) * 1000000000 ≤ s.dev.now →
    Reaches (.masterSilenceExpiry n) s (fun d => (mvbSt d n).role = .master ∧ Output.event 0x0B01 n ∈ d.out ∧ MvbChannelOnly n s d)) ∧
  (∀ (s : State) (n : Nat), Up s → n < 2 →
    s.dev.now < (mvbSt s.dev n).lastFrame + ((mvbCfg s.dev.cfg n).silenceMs + (mvbCfg s.dev.cfg n).baRank) * 1000000000 →
    Gives (.masterSilenceExpiry n) s s.dev) ∧
  (∀ (s : State) (n a : Nat), Up s → n < 2 → (mvbSt s.dev n).role = .master → (mvbCfg s.dev.cfg n).turn ≠ 0 →
    (mvbCfg s.dev.cfg n).turn ≤ (mvbSt s.dev n).macros → nextAdmin (mvbCfg s.dev.cfg n) = some a → GwQuiet s →
    Reaches (.mastershipOffer n true) s (fun d =>
      (mvbSt d n).role = .standby ∧ (mvbSt d n).master = some a ∧ Output.mvbMaster n 8 a ∈ d.out ∧ MvbChannelOnly n s d) ∧
    Reaches (.mastershipOffer n false) s (fun d =>
      (mvbSt d n).role = .master ∧ (mvbSt d n).macros = 0 ∧ d.out = s.dev.out ++ [.mvbMaster n 8 a] ∧ MvbChannelOnly n s d)) ∧
  (∀ (s : State) (n : Nat), Up s → n < 2 → (mvbSt s.dev n).role = .standby → GwQuiet s →
    Reaches (.mvbOfferReceived n) s (fun d => (mvbSt d n).role = .master ∧ Output.event 0x0B01 n ∈ d.out ∧ MvbChannelOnly n s d)) ∧
  (∀ (s : State) (n : Nat), Up s → n < 2 → (mvbSt s.dev n).role = .slave →
    Reaches (.mvbOfferReceived n) s (fun d => (mvbSt d n).role = .slave ∧ d.out = s.dev.out ∧ MvbChannelOnly n s d)) ∧
  (∀ (s : State) (n a : Nat) (w : BitVec 16), Up s → n < 2 → a < 4096 → (mvbSt s.dev n).role = .master →
    lookup? (mvbSt s.dev n).devices a = none → GwQuiet s →
    Reaches (.deviceScan n a (some w)) s (fun d =>
      lookup? (mvbSt d n).devices a = some 0 ∧ lookup? (mvbSt d n).status a = some w ∧ Output.event 0x0B09 n ∈ d.out ∧ MvbChannelOnly n s d)) ∧
  (∀ (s : State) (n a k : Nat), Up s → n < 2 → a < 4096 → (mvbSt s.dev n).role = .master → lookup? (mvbSt s.dev n).devices a = some k →
    (mvbCfg s.dev.cfg n).devLoss ≤ k + 1 → GwQuiet s →
    Reaches (.deviceScan n a none) s (fun d =>
      (mvbSt d n).devices = removeAt (mvbSt s.dev n).devices a ∧ Output.event 0x0B08 n ∈ d.out ∧ MvbChannelOnly n s d))

/-- The gateway (R360, R361, R363, R367 to R371, R374). GW_START after the blob commit and SPILL_READY, nothing being held: it runs, with event 0x0C03. GW_EGRESS_ARRIVAL: a message frame without a deadline is taken
from its queue and delivered; stopped, nothing is taken. TRDP_RECEIVED and ACF_RECEIVED: an accepted telegram or message of one FRAME route to an output that does not trigger enters the image of the output, a repeated one and one of no stream are counted. CYCLIC_EMIT: an output of a bus whose
period has passed is emitted (here: to another port, its allotment exhausted, so that the frame waits), and not before. SUB_STALE on a device that owns nothing, with no routes: a silent subscription becomes stale with event 0x0C01. GW_DEADLINE: a routed message past its deadline leaves the wait list or its
page, and is counted. PUB_MIRROR_DONE: the oldest mirror that runs moves M; with none nothing happens. -/
def Obligations.GatewayMessages : Prop :=
  (∀ s : State, Up s → s.dev.cfg.gw.loaded = true → s.dev.buf.spillReady = true → s.dev.gw.running = false → s.dev.gw.held = [] →
    Reaches .gwStart s (fun d =>
      d.gw.running = true ∧ Output.event 0x0C03 0 ∈ d.out ∧ (sqOf sqGWY d).bits.getLsbD 2 = true ∧
      d = { s.dev with gw := d.gw, sq := d.sq, out := d.out, flt := d.flt })) ∧
  (∀ s : State, Up s → s.dev.gw.running = true → Gives .gwStart s s.dev) ∧
  (∀ (s : State) (p : Nat) (c : Copy) (d1 : Device) (f : Frame) (x : Bytes), Up s → 26 ≤ p → p < 36 → s.dev.gw.stopped = false →
    s.dev.gw.running = true → popPort p classOrder s.dev = (some c, d1) → frameOf d1 c.frame = some f →
    (parse d1.cfg.fwd.userTypes (copyBytes d1 f c)).etherType = 0x88B6 →
    x = (copyBytes d1 f c).drop (parse d1.cfg.fwd.userTypes (copyBytes d1 f c)).payOff → byteAt x 0 = 16 → beAt x 20 2 = 0 →
    Gives (.gwEgressArrival p) s (deliver { output := beAt x 4 2 % 4096, origin := originOf (byteAt x 3) (beAt x 12 4), payload := (x.drop 24).take (beAt x 6 2) }
      (copyGone p c true true d1))) ∧
  (∀ (s : State) (p : Nat), Up s → 26 ≤ p → p < 36 → s.dev.gw.stopped = true → Gives (.gwEgressArrival p) s s.dev) ∧
  (∀ (s : State) (p ingress : Nat) (t : Telegram) (r : GwRoute) (o : GwOutput), Up s → p < 38 → ingress < 38 → s.dev.gw.running = true →
    s.dev.gw.stopped = false → t.formOk = true → t.topo = 0 →
    (routesFor s.dev.cfg ingress .trdp 0 t.comId.toNat).filter (outputHere s.dev.cfg p) = [r] → lookup? s.dev.cfg.gw.outputs r.output = some o →
    acceptsSeq (gwOut s.dev r.output) t.srcIp.toNat t.counter s.dev.now = true → r.sigCount = 0 → t.payload.length ≤ o.len →
    t.payload.length ≤ formatMax o → o.onUpdate = false → o.onChange = false →
    Reaches (.trdpReceived p ingress t) s (fun d =>
      (gwOut d r.output).image = some t.payload ∧ (gwOut d r.output).stale = false ∧ (gwOut d r.output).heard = s.dev.now ∧
      lookup? (gwOut d r.output).last t.srcIp.toNat = some (t.counter, s.dev.now) ∧
      d = { s.dev with gw := { s.dev.gw with outs := d.gw.outs } })) ∧
  (∀ (s : State) (p ingress : Nat) (t : Telegram) (r : GwRoute), Up s → p < 38 → ingress < 38 → s.dev.gw.running = true →
    s.dev.gw.stopped = false → t.formOk = true → t.topo = 0 →
    (routesFor s.dev.cfg ingress .trdp 0 t.comId.toNat).filter (outputHere s.dev.cfg p) = [r] →
    acceptsSeq (gwOut s.dev r.output) t.srcIp.toNat t.counter s.dev.now = false →
    Gives (.trdpReceived p ingress t) s (gwCtr r.output 1 (gwDiscard 0x0C11 s.dev))) ∧
  (∀ (s : State) (p ingress : Nat) (stream : BitVec 64) (i : Nat) (m : AcfMsg) (r : GwRoute) (o : GwOutput), Up s → p < 38 → ingress < 38 →
    s.dev.gw.running = true → s.dev.gw.stopped = false → s.dev.cfg.gw.streams.find? (fun x => decide (x.2 = stream)) = some (i, stream) →
    (routesFor s.dev.cfg ingress .acf (m.busId % 32 * 256 + i) (acfIdent m)).filter (outputHere s.dev.cfg p) = [r] →
    lookup? s.dev.cfg.gw.outputs r.output = some o → r.sigCount = 0 → m.payload.length ≤ o.len → m.payload.length ≤ formatMax o →
    o.onUpdate = false → o.onChange = false →
    Reaches (.acfReceived p ingress stream [m]) s (fun d =>
      (gwOut d r.output).image = some m.payload ∧ d = { s.dev with gw := { s.dev.gw with outs := d.gw.outs } })) ∧
  (∀ (s : State) (p ingress : Nat) (stream : BitVec 64) (ms : List AcfMsg), Up s → p < 38 → ingress < 38 → s.dev.gw.running = true →
    s.dev.gw.stopped = false → s.dev.cfg.gw.streams.find? (fun x => decide (x.2 = stream)) = none →
    Gives (.acfReceived p ingress stream ms) s (gwDiscard 0x0C10 s.dev)) ∧
  (∀ (s : State) (n : Nat) (o : GwOutput), Up s → lookup? s.dev.cfg.gw.outputs n = some o → o.cyclic = true → 0 < o.periodMs → o.eth = false →
    (gwOut s.dev n).cycled + o.periodMs * 1000000000 ≤ s.dev.now → (gwOut s.dev n).emitted = none → gwEmits s.dev = true →
    o.dstPort ≠ ownSource s.dev.cfg n o → s.dev.gw.queue = [] →
    (allotOf s.dev (gwAllot s.dev (ownSource s.dev.cfg n o))).exhausted = true →
    Reaches (.cyclicEmit n) s (fun d =>
      (gwOut d n).emitted = some (s.dev.now, imageOf s.dev n) ∧ (gwOut d n).cycled = (gwOut s.dev n).cycled + o.periodMs * 1000000000 ∧
      counter (0x5C4000 + n * 0x20) d = counter (0x5C4000 + n * 0x20) s.dev + 1 ∧
      d.gw.queue = [(ownSource s.dev.cfg n o, gwFrame s.dev.cfg.gw.mac 0 (ownSource s.dev.cfg n o) o.dstPort n .route 0 (ts32 s.dev).toNat 0 (imageOf s.dev n))] ∧
      d.out = s.dev.out ∧ d.buf = s.dev.buf)) ∧
  (∀ (s : State) (n : Nat) (o : GwOutput), Up s → lookup? s.dev.cfg.gw.outputs n = some o →
    s.dev.now < (gwOut s.dev n).cycled + o.periodMs * 1000000000 → Gives (.cyclicEmit n) s s.dev) ∧
  (∀ (s : State) (n : Nat) (o : GwOutput), Up s → lookup? s.dev.cfg.gw.outputs n = some o → o.timeoutMs ≠ 0 →
    (gwOut s.dev n).heard + o.timeoutMs * 1000000000 ≤ s.dev.now → (gwOut s.dev n).stale = false → s.dev.gw.running = true → s.dev.gw.stopped = false → isOwner s.dev = false →
    s.dev.cfg.gw.routes = [] →
    Reaches (.subStale n) s (fun d =>
      (gwOut d n).stale = true ∧ Output.event 0x0C01 n ∈ d.out ∧ (sqOf sqGWY d).bits.getLsbD 0 = true ∧
      d = { s.dev with gw := d.gw, sq := d.sq, out := d.out, flt := d.flt })) ∧
  (∀ (s : State) (n k t : Nat) (m : GwMsg), Up s → (waitList s.dev n)[k]? = some m → m.deadline = some t → t ≤ s.dev.now → m.origin = .route →
    Reaches (.gwDeadline (.waiting n k)) s (fun d =>
      waitList d n = (waitList s.dev n).eraseIdx k ∧ counter (0x5C4000 + m.output * 0x20 + 16) d = counter (0x5C4000 + m.output * 0x20 + 16) s.dev + 1 ∧
      d.can = s.dev.can ∧ d.buf = s.dev.buf)) ∧
  (∀ (s : State) (n a t : Nat) (m : GwMsg), Up s → s.dev.gw.pages = [(n * 4096 + a, m)] → m.deadline = some t → t ≤ s.dev.now → m.origin = .route →
    Reaches (.gwDeadline (.page n a)) s (fun d =>
      d.gw.pages = [] ∧ counter (0x5C4000 + m.output * 0x20 + 16) d = counter (0x5C4000 + m.output * 0x20 + 16) s.dev + 1 ∧
      d.mvb = s.dev.mvb ∧ d.buf = s.dev.buf)) ∧
  (∀ (s : State) (n : Nat) (v : Word) (rest : List Word), Up s → (gwOut s.dev n).mirrors = v :: rest → (gwOut s.dev n).held = false → s.dev.gw.sends = [] →
    Gives (.pubMirrorDone n) s (setGwOut n { gwOut s.dev n with m := v, mirrors := rest, held := false } s.dev)) ∧
  (∀ (s : State) (n : Nat), Up s → (gwOut s.dev n).mirrors = [] → s.dev.gw.sends = [] → Gives (.pubMirrorDone n) s s.dev)

/-! ### Seasons (13) -/

/-- The Equinox round at a member and at the origin (R387 to R392, R398), outside the fallback. ROUND_START at a READY origin, rested and with no commit on its way, sends CONSENT with the next round number and event 0x0D01; a node that is not READY starts none. On a good frame from another origin a member that does not refuse acknowledges a
CONSENT and passes it on, one that refuses says why to the origin; a COMMIT of the consented round is recorded, acknowledged and passed on; an ACK ends the wait for it; the returned COMMIT ends the round at the origin with event 0x0D02; a frame of the own TOPO_COUNT that fails
its checks is counted and nothing else. -/
def Obligations.EquinoxTokens : Prop :=
  (∀ (s : State) (dest : BitVec 12), Up s → isOrigin s.dev = true → isReady s.dev = true → s.dev.ssn.pass = none → s.dev.ssn.roundEnd = none →
    s.dev.ssn.consent = none → configBusy s.dev = false → s.dev.ssn.fallback = false → s.dev.ssn.season = .summer → s.dev.ssn.leaving = none → nextInRing s.dev (ownId s.dev) = some dest →
    dest ≠ ownId s.dev →
    Reaches .roundStart s (fun d =>
      d.ssn.round = s.dev.ssn.round + 1 ∧ d.ssn.pass = some (s.dev.now, false) ∧ d.ssn.consent = some s.dev.now ∧ Output.event 0x0D01 0 ∈ d.out ∧
      (∃ f, Output.eqx .consent dest f ∈ d.out ∧ f.round = s.dev.ssn.round + 1 ∧ f.sender = ownId s.dev) ∧
      d = { s.dev with ssn := d.ssn, sq := d.sq, ctr := d.ctr, out := d.out, flt := d.flt })) ∧
  (∀ s : State, Up s → isReady s.dev = false → Gives .roundStart s s.dev) ∧
  (∀ (s : State) (f : EqxFrame) (dest : BitVec 12), Up s → s.dev.glb.deviceId.isSome = true → eqxGood .consent f s.dev = true → s.dev.glb.deviceId ≠ some f.origin → f.fallback = false →
    refusal (nsOf (addMs (localSecNs s.dev) s.dev.ssn.params.commitDelayMs)) s.dev = none → nextInRing s.dev (ownId s.dev) = some dest →
    dest ≠ ownId s.dev →
    Reaches (.eqxConsent f) s (fun d =>
      d.ssn.round = f.round ∧ d.ssn.consent = some s.dev.now ∧ d.ssn.commit = none ∧ (∃ g, Output.eqx .ack f.sender g ∈ d.out ∧ g.round = f.round) ∧
      (∃ g, Output.eqx .consent dest g ∈ d.out ∧ g.round = f.round ∧ g.hops = f.hops + 1) ∧ d = { s.dev with ssn := d.ssn, out := d.out })) ∧
  (∀ (s : State) (f : EqxFrame) (r : BitVec 16), Up s → s.dev.glb.deviceId.isSome = true → eqxGood .consent f s.dev = true → s.dev.glb.deviceId ≠ some f.origin → f.fallback = false →
    refusal (nsOf (addMs (localSecNs s.dev) s.dev.ssn.params.commitDelayMs)) s.dev = some r →
    Reaches (.eqxConsent f) s (fun d =>
      (∃ g, Output.eqx .refuse f.origin g ∈ d.out ∧ g.round = f.round ∧ g.reason = r) ∧ d = { s.dev with out := d.out })) ∧
  (∀ (s : State) (f : EqxFrame) (dest : BitVec 12), Up s → s.dev.glb.deviceId.isSome = true → eqxGood .commit f s.dev = true → s.dev.glb.deviceId ≠ some f.origin → f.fallback = false →
    s.dev.ssn.consent.isSome = true → s.dev.ssn.round = f.round → nextInRing s.dev (ownId s.dev) = some dest → dest ≠ ownId s.dev →
    Reaches (.eqxCommit f) s (fun d =>
      d.ssn.commit = some (f.commitSec, f.commitNs) ∧ d.ssn.consent = s.dev.ssn.consent ∧
      (∃ g, Output.eqx .commit dest g ∈ d.out ∧ g.round = f.round ∧ g.commitSec = f.commitSec ∧ g.commitNs = f.commitNs) ∧
      d = { s.dev with ssn := d.ssn, out := d.out })) ∧
  (∀ (s : State) (f : EqxFrame) (t : Nat), Up s → s.dev.glb.deviceId.isSome = true → eqxGood .commit f s.dev = true → s.dev.glb.deviceId = some f.origin → f.fallback = false →
    s.dev.ssn.pass = some (t, true) → f.round = s.dev.ssn.round →
    Reaches (.eqxCommit f) s (fun d =>
      d.ssn.pass = none ∧ d.ssn.wait = none ∧ d.ssn.roundEnd = some s.dev.now ∧ d.ssn.commit = s.dev.ssn.commit ∧ Output.event 0x0D02 0 ∈ d.out ∧
      (sqOf sqSSN d).bits.getLsbD 1 = true)) ∧
  (∀ (s : State) (f : EqxFrame) (w : EqxWait), Up s → s.dev.glb.deviceId.isSome = true → eqxGood .ack f s.dev = true → f.fallback = false → s.dev.ssn.wait = some w → w.target = f.sender →
    w.frame.round = f.round → Gives (.eqxAck f) s { s.dev with ssn := { s.dev.ssn with wait := none } }) ∧
  (∀ (s : State) (f : EqxFrame), Up s → s.dev.glb.deviceId.isSome = true → f.topo = s.dev.top.count →
    (eqxGood .consent f s.dev = false → Gives (.eqxConsent f) s (ssnCtr 6 s.dev)) ∧ (eqxGood .commit f s.dev = false → Gives (.eqxCommit f) s (ssnCtr 6 s.dev)) ∧
    (eqxGood .ack f s.dev = false → Gives (.eqxAck f) s (ssnCtr 6 s.dev)) ∧ (eqxGood .refuse f s.dev = false → Gives (.eqxRefuse f) s (ssnCtr 6 s.dev)) ∧
    (eqxGood .abort f s.dev = false → Gives (.eqxAbort f) s (ssnCtr 6 s.dev)) ∧ (eqxGood .veto f s.dev = false → Gives (.eqxVeto f) s (ssnCtr 6 s.dev)) ∧
    (eqxGood .keepalive f s.dev = false → Gives (.eqxKeepalive f) s (ssnCtr 6 s.dev)))

/-- How a round ends without sleep, and the fallback (R389, R390, R392, R395, R396, R398). On good frames of the own round, before the commit time: a REFUSE at the origin (not for the clock), an ABORT, a VETO end the consent with
event 0x0D03 and let traffic go on, and so does the first lost token, with event 0x0D05; a hop without ACK is repeated once, not before its time; a member's expired consent ends with 0x0D0D; a KEEPALIVE enters the fallback and is noted; a due ABORT repeats to every other member, at last once;
in the fallback a node with a device ID that is not READY keeps it alive; outside it sends none. -/
def Obligations.EquinoxEnds : Prop :=
  (∀ (s : State) (f : EqxFrame), Up s → s.dev.glb.deviceId.isSome = true → eqxGood .refuse f s.dev = true → f.fallback = false → s.dev.ssn.pass.isSome = true → f.round = s.dev.ssn.round →
    f.reason ≠ 0x0D21 →
    Reaches (.eqxRefuse f) s (fun d =>
      d.ssn.consent = none ∧ d.ssn.pass = none ∧ d.glb.stopAccept = false ∧ d.ssn.roundEnd = some s.dev.now ∧
      Output.event 0x0D03 f.reason.toNat ∈ d.out ∧ (sqOf sqSSN d).bits.getLsbD 2 = true ∧ d.buf = s.dev.buf ∧ d.top = s.dev.top)) ∧
  (∀ (s : State) (f : EqxFrame), Up s → s.dev.glb.deviceId.isSome = true → eqxGood .abort f s.dev = true → f.fallback = false → s.dev.ssn.fallback = false →
    s.dev.ssn.consent.isSome = true → f.round = s.dev.ssn.round → pastCommit s.dev = false →
    Reaches (.eqxAbort f) s (fun d =>
      d.ssn.consent = none ∧ d.ssn.commit = none ∧ d.glb.stopAccept = false ∧ Output.event 0x0D03 f.reason.toNat ∈ d.out ∧ d.buf = s.dev.buf)) ∧
  (∀ (s : State) (f : EqxFrame), Up s → s.dev.glb.deviceId.isSome = true → eqxGood .veto f s.dev = true → f.fallback = false → s.dev.ssn.fallback = false →
    s.dev.ssn.consent.isSome = true → f.round = s.dev.ssn.round → pastCommit s.dev = false →
    Reaches (.eqxVeto f) s (fun d =>
      d.ssn.consent = none ∧ d.ssn.commit = none ∧ d.glb.stopAccept = false ∧ Output.event 0x0D03 f.reason.toNat ∈ d.out ∧ d.buf = s.dev.buf)) ∧
  (∀ (s : State) (f : EqxFrame), Up s → s.dev.glb.deviceId.isSome = true → eqxGood .keepalive f s.dev = true → s.dev.ssn.leaving = none →
    Reaches (.eqxKeepalive f) s (fun d => d.ssn.fallback = true ∧ d.ssn.lastKa = s.dev.now ∧ d.glb.stopAccept = false ∧ d.buf = s.dev.buf)) ∧
  (∀ (s : State) (w : EqxWait), Up s → s.dev.ssn.wait = some w → w.sentAt + msPs s.dev.ssn.params.hopMs ≤ s.dev.now → w.resent = false →
    Gives .hopTimeout s { s.dev with
      ssn := { s.dev.ssn with wait := some { w with resent := true, sentAt := s.dev.now } }
      out := s.dev.out ++ [.eqx w.type_ w.target { w.frame with
        sender := ownId s.dev, target := some w.target, mac := eqxMac s.dev w.type_ { w.frame with target := some w.target, sender := ownId s.dev } }] }) ∧
  (∀ (s : State) (w : EqxWait), Up s → s.dev.ssn.wait = some w → s.dev.now < w.sentAt + msPs s.dev.ssn.params.hopMs → Gives .hopTimeout s s.dev) ∧
  (∀ (s : State) (t : Nat) (b : Bool), Up s → s.dev.ssn.pass = some (t, b) → t + msPs s.dev.ssn.params.tokenMs ≤ s.dev.now → s.dev.ssn.lostRuns = 0 →
    Reaches .tokenTimeout s (fun d =>
      d.ssn.consent = none ∧ d.ssn.pass = none ∧ d.ssn.lostRuns = 1 ∧ d.glb.stopAccept = false ∧ Output.event 0x0D05 0 ∈ d.out ∧
      Output.event 0x0D03 0x0D26 ∈ d.out ∧ d.buf = s.dev.buf)) ∧
  (∀ (s : State) (r : EqxRepeat), Up s → s.dev.ssn.again = some r → r.due ≤ s.dev.now →
    Reaches .abortRepeat s (fun d =>
      d.ssn = { s.dev.ssn with again := if r.left ≤ 1 then none else some { r with left := r.left - 1, due := r.due + msPs 5 } } ∧
      (∀ x ∈ ring s.dev, x ≠ ownId s.dev → ∃ g, Output.eqx .abort x g ∈ d.out ∧ g.round = r.frame.round) ∧
      d = { s.dev with ssn := d.ssn, out := d.out })) ∧
  (∀ (s : State) (t : Nat), Up s → s.dev.ssn.consent = some t → s.dev.ssn.commit = none → t + 2 * msPs s.dev.ssn.params.tokenMs ≤ s.dev.now →
    s.dev.ssn.fallback = false → s.dev.ssn.pass = none → s.dev.ssn.leaving = none →
    Reaches .consentExpired s (fun d =>
      d.ssn.consent = none ∧ d.glb.stopAccept = false ∧ Output.event 0x0D0D 0 ∈ d.out ∧ (sqOf sqSSN d).bits.getLsbD 2 = true ∧ d.buf = s.dev.buf)) ∧
  (∀ s : State, Up s → s.dev.ssn.fallback = true → s.dev.glb.deviceId.isSome = true → s.dev.ssn.kaSent + msPs s.dev.ssn.params.kaPeriodMs ≤ s.dev.now →
    isReady s.dev = false →
    Reaches .kaSend s (fun d =>
      d.ssn = { s.dev.ssn with kaSent := s.dev.now } ∧ (∀ x ∈ ring s.dev, x ≠ ownId s.dev → ∃ g, Output.eqx .keepalive x g ∈ d.out) ∧
      d = { s.dev with ssn := d.ssn, out := d.out })) ∧
  (∀ s : State, Up s → s.dev.ssn.fallback = false → Gives .kaSend s s.dev)

/-- Acceptance stops 60 ms before the commit time of a consented round (R393), and Summer is left at that time, after silence in the fallback by a READY node with a device ID, or after idleness (R396, R401, R402), every CAN and MVB channel being off, and not before or without that; PWR_EN[2] and
PWR_EN[1] fall at their steps, and Autumn follows with PWR_EN[0] where no wake was latched; below VAON comes Winter, and a rise ends it and no other season (R383, R606). -/
def Obligations.GoingToSleep : Prop :=
  (∀ (s : State) (c : Nat × Nat), Up s → s.dev.ssn.commit = some c → s.dev.ssn.consent.isSome = true → nsOf c ≤ localNs s.dev + 60000000 →
    Gives .sleepAcceptanceStop s { s.dev with glb := { s.dev.glb with stopAccept := true } }) ∧
  (∀ (s : State) (c : Nat × Nat), Up s → BusesOff s → s.dev.ssn.commit = some c → s.dev.ssn.season = .summer → s.dev.ssn.leaving = none →
    s.dev.ssn.consent.isSome = true → nsOf c ≤ localNs s.dev →
    Reaches .commitTimeReached s (fun d => d.ssn.leaving = some s.dev.now ∧ d.glb.stopAccept = true ∧ d.switching = none)) ∧
  (∀ (s : State) (c : Nat × Nat), Up s → s.dev.ssn.commit = some c → localNs s.dev < nsOf c → Gives .commitTimeReached s s.dev) ∧
  (∀ (s : State) (t : Nat), Up s → BusesOff s → s.dev.ssn.consent = some t → s.dev.ssn.fallback = true → s.dev.glb.deviceId.isSome = true → s.dev.ssn.season = .summer →
    s.dev.ssn.leaving = none → isReady s.dev = true → max t s.dev.ssn.lastKa + msPs s.dev.ssn.params.kaSilenceMs ≤ s.dev.now →
    Reaches .kaSilenceExpiry s (fun d => d.ssn.leaving = some s.dev.now ∧ d.glb.stopAccept = true)) ∧
  (∀ s : State, Up s → s.dev.ssn.fallback = false → Gives .kaSilenceExpiry s s.dev) ∧
  (∀ s : State, Up s → BusesOff s → s.dev.ssn.params.idleReturn = true → s.dev.ssn.leaving = none →
    s.dev.ssn.lastForward + s.dev.ssn.params.idleS * 1000000000000 ≤ s.dev.now →
    Reaches .idleReturn s (fun d =>
      d.ssn.leaving = some s.dev.now ∧ d.glb.stopAccept = true ∧ Output.event 0x0D0C 0 ∈ d.out ∧ (sqOf sqSSN d).bits.getLsbD 11 = true)) ∧
  (∀ s : State, Up s → s.dev.ssn.params.idleReturn = false → Gives .idleReturn s s.dev) ∧
  (∀ (s : State) (t n : Nat), s.dev.ssn.leaving = some t → topRail s.dev = some n → 0 < n → n < 3 →
    t + (5 - n) * (s.dev.ssn.params.pwrStepUs * 1000000) ≤ s.dev.now →
    Reaches .powerDownStep s (fun d =>
      d.ssn.pwrEn.getLsbD n = false ∧ d.ssn.pwrEn.getLsbD 0 = s.dev.ssn.pwrEn.getLsbD 0 ∧ d.out = s.dev.out ++ [.pin (.pwrEn n) false] ∧
      d = { s.dev with ssn := d.ssn, out := d.out })) ∧
  (∀ (s : State) (t : Nat), s.dev.ssn.leaving = some t → topRail s.dev = some 0 → s.dev.ssn.wakeLatched = false →
    t + 5 * (s.dev.ssn.params.pwrStepUs * 1000000) ≤ s.dev.now →
    Reaches .powerDownStep s (fun d =>
      d.ssn.season = .autumn ∧ d.ssn.pwrEn = 0 ∧ d.ssn.leaving = none ∧ d.ssn.consent = none ∧ d.buf = {} ∧ d.ports = [] ∧ d.fwl = {} ∧ d.cfg = {} ∧
      d.keeper = s.dev.keeper ∧ d.flash = s.dev.flash ∧ d.otp = s.dev.otp ∧ d.pair.epoch = s.dev.pair.epoch)) ∧
  (∀ s : State, s.dev.ssn.leaving = none → Gives .powerDownStep s s.dev) ∧
  (∀ s : State, Reaches .vaonBrownout s (fun d =>
    d.ssn.season = .winter ∧ d.buf = {} ∧ d.cfg = {} ∧ d.ports = [] ∧ d.keeper = s.dev.keeper ∧ d.flash = s.dev.flash ∧ d.otp = s.dev.otp)) ∧
  (∀ s : State, s.dev.ssn.season = .winter → Reaches .vaonRise s (fun d => d.ssn.season = .off ∧ d.boot.coldCause = 6 ∧ d.keeper = s.dev.keeper)) ∧
  (∀ s : State, s.dev.ssn.season ≠ .winter → Gives .vaonRise s s.dev)

/-- Wake and Spring (R385, R397 to R400, R404, R405, R561, R603). WAKE_HOLD_EXPIRY at its time, not before. A wake by WAKE_IN or by the alarm in Autumn begins Spring with its source, and PWR_EN[0] rises at once where it was low for a Keeper tick; an inactive WAKE_IN only shows. WAKE_PULSE_END. A rail follows one step after
another, the ROM having run before PWR_EN[2]; in no other season. A good Spring image whose admission digest holds takes effect after a warm reset; one that cannot be read raises 0x0D0B. Spring paths open with event 0x0D09. Renioft runs in its verified version, once the key table is settled. A good blob that every manager prepares is
committed. Summer is reached after a cold start or wake, the blob committed and the firewall rebuilt, with event 0x0D0A. -/
def Obligations.WakeAndSpring : Prop :=
  (∀ (s : State) (t : Nat), s.dev.ssn.wakeHold = some t → t ≤ s.dev.now →
    Reaches .wakeHoldExpiry s (fun d => d.ssn.wakeHold = none ∧ d.ssn.season = s.dev.ssn.season ∧ d.buf = s.dev.buf)) ∧
  (∀ (s : State) (t : Nat), s.dev.ssn.wakeHold = some t → s.dev.now < t → Gives .wakeHoldExpiry s s.dev) ∧
  (∀ s : State, s.dev.ssn.season = .autumn →
    Reaches (.wakeIn true) s (fun d =>
      d.ssn.season = .spring ∧ d.ssn.wakeSource = 1 ∧ d.ssn.sleepReady = false ∧
      (s.dev.ssn.pwrFell + keeperTickPs ≤ s.dev.now → d.ssn.pwrEn = 1 ∧ Output.pin (.pwrEn 0) true ∈ d.out) ∧
      d.keeper = s.dev.keeper)) ∧
  (∀ s : State, Gives (.wakeIn false) s { s.dev with ssn := { s.dev.ssn with wakeIn := false } }) ∧
  (∀ s : State, s.dev.ssn.season = .autumn → s.dev.ssn.params.alarm = some s.dev.keeper.timeSec.toNat →
    Reaches .wakeAlarm s (fun d => d.ssn.season = .spring ∧ d.ssn.wakeSource = 3 ∧
      (s.dev.ssn.pwrFell + keeperTickPs ≤ s.dev.now → d.ssn.pwrEn = 1 ∧ Output.pin (.pwrEn 0) true ∈ d.out))) ∧
  (∀ s : State, s.dev.ssn.params.alarm = none → Gives .wakeAlarm s s.dev) ∧
  (∀ (s : State) (t : Nat), s.dev.ssn.wakeOut = some t → t ≤ s.dev.now →
    Gives .wakePulseEnd s { s.dev with ssn := { s.dev.ssn with wakeOut := none }, out := s.dev.out ++ [.pin .wakeOut false] }) ∧
  (∀ (s : State) (e : ColdEnv) (n : Nat), lowRail s.dev = some n → s.dev.ssn.season = .spring → n ≠ 0 → (n = 2 → s.dev.boot.romDone = true) →
    s.dev.ssn.powerUp + n * (s.dev.ssn.params.pwrStepUs * 1000000) ≤ s.dev.now →
    Reaches (.powerUpStep e) s (fun d =>
      d.ssn.pwrEn.getLsbD n = true ∧ d.out = s.dev.out ++ [.pin (.pwrEn n) true] ∧ d = { s.dev with ssn := d.ssn, out := d.out })) ∧
  (∀ (s : State) (e : ColdEnv), s.dev.ssn.season ≠ .spring → Gives (.powerUpStep e) s s.dev) ∧
  (∀ (s : State) (i : Image) (x : SpringImage), Up s → starting s.dev = true → s.dev.ssn.imageStaged = false → s.dev.ssn.renioft = false →
    (pointed (imageKind s.dev 2)).state = .good → (pointed (imageKind s.dev 2)).image = some i → checkImage 2 i s.dev = none → i.content = .spring x →
    admittedOk x = true → x.keys = [] → s.dev.boot.warm = true →
    Reaches (.springImageLoaded true) s (fun d => d.ssn.imageStaged = true ∧ d.cfg = x.cfg ∧ d.ssn.params = x.cfg.ssn ∧ d.flash = s.dev.flash)) ∧
  (∀ s : State, Up s → starting s.dev = true → s.dev.ssn.imageStaged = false → s.dev.ssn.renioft = false → trialKind s.dev 2 = false →
    Reaches (.springImageLoaded false) s (fun d =>
      d.ssn.imageStaged = false ∧ d.cfg = s.dev.cfg ∧ Output.event 0x0D0B 0 ∈ d.out ∧ (sqOf sqSSN d).bits.getLsbD 10 = true)) ∧
  (∀ s : State, Up s → s.dev.ssn.imageStaged = true → s.dev.ssn.springPaths = false → trialKind s.dev 2 = false →
    Reaches .springPaths s (fun d =>
      d.ssn.springPaths = true ∧ (∀ p, p < 38 → portOn (portCfg s.dev p) = true → (portSt d p).ingressOn = true) ∧ Output.event 0x0D09 0 ∈ d.out ∧
      (sqOf sqSSN d).bits.getLsbD 8 = true ∧ d.cfg = s.dev.cfg ∧ d.buf = s.dev.buf)) ∧
  (∀ s : State, Up s → s.dev.ssn.imageStaged = false → Gives .springPaths s s.dev) ∧
  (∀ (s : State) (i : Image), Up s → starting s.dev = true → s.dev.ssn.renioft = false → (pointed (imageKind s.dev 1)).image = some i →
    (s.dev.sec.loadDue = false ∨ s.dev.msc.entropyDone = true) → s.dev.ccr.split = false → s.dev.boot.inReset = false →
    (pointed (imageKind s.dev 3)).state ≠ .trial →
    Reaches .renioftRunning s (fun d => d.ssn.renioft = true ∧ d.glb.fwVer = i.version ∧ d.cfg = s.dev.cfg)) ∧
  (∀ (s : State) (i : Image) (c : Cfg) (bs : List PortBound), Up s → starting s.dev = true → s.dev.ssn.renioft = true → s.dev.ssn.blobDone = false →
    s.dev.boot.saved = none → (pointed (imageKind s.dev 4)).state = .good → (pointed (imageKind s.dev 4)).image = some i → checkImage 4 i s.dev = none →
    i.content = .blob c → prepare c false s.dev = .ok bs →
    Gives .blobCommit s (commitBlob i c bs s.dev)) ∧
  (∀ s : State, Up s → s.dev.ssn.blobDone = true → Gives .blobCommit s s.dev) ∧
  (∀ s : State, Up s → s.dev.ssn.leaving = none → s.dev.ssn.rebuilt = false → s.dev.ssn.blobDone = true → s.dev.fwl.spring = false →
    s.dev.boot.warm = false →
    Reaches .summerReached s (fun d =>
      d.ssn = { s.dev.ssn with season := .summer, rebuilt := true, sleepReady := false, wasReady := false } ∧
      d.boot = { s.dev.boot with cleanSince := some s.dev.now } ∧ Output.event 0x0D0A 0 ∈ d.out ∧ (sqOf sqSSN d).bits.getLsbD 9 = true ∧
      d = { s.dev with ssn := d.ssn, boot := d.boot, sq := d.sq, out := d.out, flt := d.flt })) ∧
  (∀ s : State, Up s → s.dev.ssn.blobDone = false → Gives .summerReached s s.dev)
/-! ### Pair (14) -/

/-- The lease (R421 to R427, R432, R434, R436, R419). LEASE_ARM on an active whose Renioft runs arms it; an armed active whose 2 ms have passed sends a renewal on both paths, channel 1 having room; no other device does either. With no record in the journal, an active that has sent nothing for 8 ms
fails, and a partner lost or a commit wait of an active that is over ends replication. A renewal by pin is noted by a standby; one of an active on Wyusin makes an electing device the standby, and of two actives the one with the lower epoch gives way. A standby that heard and sent nothing for 9 ms or receives YIELD, with no gateway outputs,
and an electing device at the end of its window, take the lease under the next epoch, not before. A path that goes down is noted, and Wyusin going down leaves the role and the replication as they are (R187 ends that). PARTNER_READY makes a standby ready and begins replication at the active, which yields where it is IMPAIRED (21 R590). TAKEOVER_DONE ends a takeover. STANDBY_ALIVE_EDGE toggles LEASE_OUT of a standby and is noted by an active. -/
def Obligations.LeaseAndRoles : Prop :=
  (∀ s : State, Up s → s.dev.pair.role = .active → renioftRuns s.dev = true → Gives .leaseArm s { s.dev with pair := { s.dev.pair with armed := true } }) ∧
  (∀ s : State, Up s → s.dev.pair.role ≠ .active → Gives .leaseArm s s.dev ∧ Gives .leaseRenewalSend s s.dev) ∧
  (∀ s : State, Up s → s.dev.pair.role = .active → s.dev.pair.armed = true → (∀ t, s.dev.pair.lastSent = some t → t + msPs 2 ≤ s.dev.now) → ChannelRoom 1 s →
    Reaches .leaseRenewalSend s (fun d =>
      d.pair.lastSent = some s.dev.now ∧ d.pair.renewNo = s.dev.pair.renewNo + 1 ∧ d.pair.armed = false ∧ d.pair.leaseOut = !s.dev.pair.leaseOut ∧
      d.out = s.dev.out ++ [.wyusin 1 .renewal s.dev.pair.epoch.toNat (s.dev.pair.renewNo + 1).toNat, .pin .leaseOut (!s.dev.pair.leaseOut)] ∧
      d = { s.dev with pair := d.pair, wy := d.wy, ctr := d.ctr, out := d.out })) ∧
  (∀ (s : State) (t : Nat), Up s → s.dev.pair.role = .active → s.dev.pair.lastSent = some t → t + msPs 8 ≤ s.dev.now → s.dev.asd.journal = [] →
    Reaches .activeLeaseEnd s (fun d => d.pair.role = .failed ∧ Output.event 0x0E02 0 ∈ d.out ∧ (sqOf sqPAIR d).bits.getLsbD 1 = true)) ∧
  (∀ s : State, Up s → s.dev.pair.role ≠ .active → Gives .activeLeaseEnd s (reviewSession3 s.dev)) ∧
  (∀ s : State, Up s → s.dev.pair.role = .standbyReady →
    Reaches (.leaseRenewalReceived none) s (fun d =>
      d.pair = { s.dev.pair with lastPin := some s.dev.now, pinUp := true } ∧ d.buf = s.dev.buf)) ∧
  (∀ (s : State) (m : Renewal), Up s → s.dev.pair.role = .electing → s.dev.pair.wyUp = true → m.role = .active → m.position ≠ position s.dev →
    s.dev.pair.epoch.toNat < m.epoch.toNat →
    Reaches (.leaseRenewalReceived (some m)) s (fun d =>
      d.pair = { s.dev.pair with
        role := .standbySyncing, electEnd := none, lastWy := some s.dev.now, partnerId := some m.id, epoch := m.epoch } ∧ d.buf = s.dev.buf)) ∧
  (∀ (s : State) (m : Renewal), Up s → s.dev.pair.role = .active → s.dev.pair.wyUp = true → m.role = .active → m.position ≠ position s.dev →
    s.dev.pair.epoch.toNat < m.epoch.toNat → s.dev.asd.journal = [] →
    Reaches (.leaseRenewalReceived (some m)) s (fun d =>
      d.pair.role = .standbySyncing ∧ d.pair.epoch = m.epoch ∧ d.asd.replicating = false ∧ Output.event 0x0E09 0 ∈ d.out)) ∧
  (∀ s : State, Up s → isStandby s.dev = true → lastRenewal s.dev.pair + msPs 9 ≤ s.dev.now →
    s.dev.cfg.gw.outputs = [] →
    Reaches .standbyLeaseExpiry s (fun d =>
      d.pair.role = .active ∧ d.pair.epoch = s.dev.pair.epoch + 1 ∧ d.pair.takeover = true ∧ d.switching = none ∧ d.asd.replayDue = true ∧
      d.pair.lastSent = some s.dev.now ∧ Output.event 0x0E01 0 ∈ d.out ∧ (sqOf sqPAIR d).bits.getLsbD 0 = true)) ∧
  (∀ s : State, Up s → (s.dev.now < lastRenewal s.dev.pair + msPs 9 ∨ isStandby s.dev = false) →
    Gives .standbyLeaseExpiry s (reviewSession3 s.dev)) ∧
  (∀ s : State, Up s → isStandby s.dev = true → s.dev.cfg.gw.outputs = [] →
    Reaches .yieldReceived s (fun d =>
      d.pair.role = .active ∧ d.pair.epoch = s.dev.pair.epoch + 1 ∧ d.pair.takeover = true ∧ Output.event 0x0E01 0 ∈ d.out)) ∧
  (∀ (s : State) (t : Nat), Up s → s.dev.pair.role = .electing → s.dev.pair.electEnd = some t → t ≤ s.dev.now →
    Reaches .electionWindowExpiry s (fun d =>
      d.pair.role = .active ∧ d.pair.epoch = s.dev.pair.epoch + 1 ∧ d.pair.takeover = false ∧ d.pair.electEnd = none ∧ Output.event 0x0E01 0 ∈ d.out)) ∧
  (∀ s : State, Up s → s.dev.pair.role = .active → s.dev.pair.wyUp = false → (∀ t, s.dev.pair.lastAlive = some t → t + 2500000000 ≤ s.dev.now) → s.dev.asd.journal = [] →
    Reaches .partnerLost s (fun d =>
      d.pair.role = .active ∧ d.pair.pinUp = false ∧ d.pair.partnerReady = false ∧ d.asd.replicating = false ∧ Output.event 0x0E04 0 ∈ d.out)) ∧
  (∀ s : State, Up s → s.dev.pair.pinUp = true →
    Reaches (.pathDown true) s (fun d => d.pair = { s.dev.pair with pinUp := false } ∧ Output.event 0x0E06 0 ∈ d.out ∧ d.buf = s.dev.buf)) ∧
  (∀ s : State, Up s → s.dev.pair.wyUp = true →
    Reaches (.pathDown false) s (fun d =>
      d.pair.wyUp = false ∧ d.pair.role = s.dev.pair.role ∧ d.pair.partnerReady = s.dev.pair.partnerReady ∧ d.asd.replicating = s.dev.asd.replicating ∧
      d.wy = [] ∧ Output.event 0x0E06 0 ∈ d.out ∧ (sqOf sqPAIR d).bits.getLsbD 5 = true)) ∧
  (∀ s : State, Up s → s.dev.pair.wyUp = true → s.dev.pair.role = .standbySyncing →
    Reaches .partnerReady s (fun d =>
      d.pair.role = .standbyReady ∧ Output.event 0x0E05 0 ∈ d.out ∧ (sqOf sqPAIR d).bits.getLsbD 4 = true ∧ d.buf = s.dev.buf)) ∧
  (∀ s : State, Up s → s.dev.pair.wyUp = true → s.dev.pair.role = .active → s.dev.ccr.mode ≠ .uncompared → s.dev.flt.impaired = false →
    Reaches .partnerReady s (fun d =>
      d.pair.role = .active ∧ d.pair.partnerReady = true ∧ d.asd.replicating = true ∧ d.asd.lastAck = s.dev.now ∧ Output.event 0x0E05 0 ∈ d.out ∧
      (sqOf sqPAIR d).bits.getLsbD 4 = true ∧ d.buf = s.dev.buf)) ∧
  (∀ s : State, Up s → s.dev.pair.wyUp = true → s.dev.pair.role = .active → s.dev.ccr.mode ≠ .uncompared → s.dev.flt.impaired = true → s.dev.asd.journal = [] →
    Reaches .partnerReady s (fun d => d.pair.role = .standbySyncing ∧ d.asd.replicating = false ∧ Output.event 0x0E02 0 ∈ d.out)) ∧
  (∀ s : State, Up s → s.dev.pair.wyUp = false → Gives .partnerReady s (reviewSession3 s.dev)) ∧
  (∀ s : State, Up s → s.dev.pair.takeover = true →
    Reaches .takeoverDone s (fun d =>
      d.pair = { s.dev.pair with takeover := false } ∧ Output.event 0x0E03 0 ∈ d.out ∧ (sqOf sqPAIR d).bits.getLsbD 2 = true ∧ d.buf = s.dev.buf)) ∧
  (∀ (s : State) (t : Nat), Up s → s.dev.pair.role = .active → s.dev.pair.exchange = some t → t ≤ s.dev.now → s.dev.ncp.waitCommit = none →
    s.dev.top.routeWait = none → s.dev.asd.journal = [] →
    Reaches .commitWaitExpiry s (fun d =>
      d.pair.exchange = none ∧ d.pair.partnerReady = false ∧ d.asd.replicating = false ∧ d.pair.role = .active ∧ Output.event 0x0E0C 0 ∈ d.out)) ∧
  (∀ s : State, Up s → isStandby s.dev = true →
    Gives .standbyAliveEdge s { s.dev with
      pair := { s.dev.pair with leaseOut := !s.dev.pair.leaseOut }, out := s.dev.out ++ [.pin .leaseOut (!s.dev.pair.leaseOut)] }) ∧
  (∀ s : State, Up s → s.dev.pair.role = .active →
    Gives .standbyAliveEdge s { s.dev with pair := { s.dev.pair with lastAlive := some s.dev.now, pinUp := true } })

/-- Wyusin and the comparison of outputs (R413, R415 to R418, R428 to R431, R434). While the link is up, segments with a good HCRC build a frame of their channel, and those of a control channel are acknowledged; an acknowledgement releases what it covers, nothing waiting; limits are kept, and granted where channel 7 has room. The digest of a window that ended is sent by an active whose comparison runs with a ready partner,
channel 2 having room, and the records go; within a window nothing happens. A standby that compares and holds no record agrees with an empty digest, and with a differing one starts the self-tests and says so, as its notice does at the active; a passed test is sent, and verdicts that both pass end the tests and are counted. A commit of the active
that the standby prepares is in force under the active's number, or kept until its SWITCH_TIME, and one it refuses is answered so, channel 5 having room. -/
def Obligations.WyusinAndCompare : Prop :=
  (∀ (s : State) (x : Segment), Up s → x.formed = true → x.lane < 4 → s.dev.pair.wyUp = true → x.header ≠ [] → x.hcrcOk = true → x.ack = none →
    x.start = true → x.last = false →
    Gives (.wyusinSegment x) s { s.dev with
      pair := { s.dev.pair with rx := insertAt s.dev.pair.rx x.ch { bytes := x.data, busy := true, tc := x.tc, cseq := x.cseq, tag := x.tag } },
      out := s.dev.out ++ (if x.ch = 0 then [] else [.wyAck x.ch x.cseq]) }) ∧
  (∀ (s : State) (x : Segment) (r : WyRx), Up s → x.formed = true → x.lane < 4 → s.dev.pair.wyUp = true → x.header ≠ [] → x.hcrcOk = true → x.ack = none →
    x.start = false → x.last = false → lookup? s.dev.pair.rx x.ch = some r → r.busy = true →
    Gives (.wyusinSegment x) s { s.dev with
      pair := { s.dev.pair with rx := insertAt s.dev.pair.rx x.ch { bytes := r.bytes ++ x.data, busy := true, tc := r.tc, cseq := x.cseq, tag := r.tag } },
      out := s.dev.out ++ (if x.ch = 0 then [] else [.wyAck x.ch x.cseq]) }) ∧
  (∀ (s : State) (x : Segment) (ch : Nat) (c : BitVec 16), Up s → x.formed = true → x.lane < 4 → s.dev.pair.wyUp = true → x.header = [] → x.ack = some (ch, c) →
    ch ≠ 0 → (wyTx s.dev ch).waiting = [] →
    Reaches (.wyusinSegment x) s (fun d =>
      wyTx d ch = { wyTx s.dev ch with unacked := (wyTx s.dev ch).unacked.filter (fun y => (c - y.1).msb) } ∧ d.pair = s.dev.pair ∧ d.out = s.dev.out ∧
      d.buf = s.dev.buf)) ∧
  (∀ (s : State) (x : Segment), Up s → x.formed = true → x.lane < 4 → s.dev.pair.wyUp = false → Gives (.wyusinSegment x) s s.dev) ∧
  (∀ (s : State) (tc : Nat) (l : Word), Up s → tc < 8 → s.dev.pair.wyUp = true →
    Gives (.creditLimit tc l) s { s.dev with pair := { s.dev.pair with limRx := insertAt s.dev.pair.limRx tc l } }) ∧
  (∀ s : State, Up s → ChannelRoom 7 s → (wyTx s.dev 7).open_ + 12800 ≤ 65536 →
    Reaches .creditSend s (fun d =>
      (∀ tc, tc < 8 → (allotOf s.dev (37 * 8 + tc)).exhausted = false →
        lookupD d.pair.limTx tc 0 = BitVec.ofNat 32 s.dev.cfg.pair.creditWin + lookupD s.dev.pair.got tc 0 - BitVec.ofNat 32 (allotOf s.dev (37 * 8 + tc)).used) ∧
      (∀ tc, tc < 8 → Output.wyusin 7 .credit tc (lookupD d.pair.limTx tc 0).toNat ∈ d.out) ∧
      d = { s.dev with pair := { s.dev.pair with limTx := d.pair.limTx }, wy := d.wy, out := d.out })) ∧
  (∀ s : State, Up s → s.dev.pair.wyUp = false → Gives .creditSend s s.dev) ∧
  (∀ s : State, Up s → s.dev.pair.role = .active → windowNow s.dev ≠ s.dev.pair.window → comparing s.dev = true → s.dev.pair.partnerReady = true →
    ChannelRoom 2 s → (∀ r ∈ s.dev.pair.recs, r.fcrc.isSome = true) →
    Reaches .digestWindowClose s (fun d =>
      d.pair = { s.dev.pair with window := windowNow s.dev, recs := [] } ∧
      d.out = s.dev.out ++ [.digest s.dev.pair.window (s.dev.pair.recs.foldl (fun (a : BitVec 64) r => a ^^^ recDigest r (r.fcrc.getD 0)) 0)
        (s.dev.pair.recs.map (fun r => (r.handle, r.seq, r.fcrc.getD 0)))] ∧
      d = { s.dev with pair := d.pair, wy := d.wy, out := d.out })) ∧
  (∀ s : State, Up s → windowNow s.dev = s.dev.pair.window → Gives .digestWindowClose s s.dev) ∧
  (∀ (s : State) (window : Word), Up s → s.dev.pair.role = .standbyReady → s.dev.pair.suspended = false → s.dev.pair.testing = false → s.dev.pair.recs = [] →
    Reaches (.digestCompare window 0 []) s (fun d =>
      d.pair = { s.dev.pair with lastWin := window } ∧ d.out = s.dev.out ∧ d = { s.dev with pair := d.pair, ctr := d.ctr })) ∧
  (∀ (s : State) (window : Word) (xa : BitVec 64), Up s → s.dev.pair.role = .standbyReady → s.dev.pair.suspended = false → s.dev.pair.testing = false →
    s.dev.pair.recs = [] → ChannelRoom 2 s → xa ≠ 0 →
    Reaches (.digestCompare window xa []) s (fun d =>
      d.pair.testing = true ∧ Output.wyusin 2 .mismatch window.toNat 0 ∈ d.out ∧ Output.event 0x0E07 0 ∈ d.out ∧ (sqOf sqPAIR d).bits.getLsbD 7 = true)) ∧
  (∀ s : State, Up s → s.dev.pair.role = .active → s.dev.pair.testing = false →
    Reaches .mismatchNotice s (fun d =>
      d.pair = { s.dev.pair with testing := true, ownVerdict := none, partnerVerdict := none, ccrVerdict := none } ∧ Output.event 0x0E07 0 ∈ d.out ∧
      (sqOf sqPAIR d).bits.getLsbD 7 = true)) ∧
  (∀ s : State, Up s → s.dev.pair.role = .standbyReady → Gives .mismatchNotice s s.dev) ∧
  (∀ s : State, Up s → s.dev.pair.testing = true → s.dev.pair.partnerVerdict = none → s.dev.pair.ccrVerdict ≠ some false → s.dev.pair.takeover = false →
    ChannelRoom 2 s →
    Reaches (.pairSelftestDone true) s (fun d =>
      d.pair = { s.dev.pair with ownVerdict := some true } ∧ Output.wyusin 2 .verdict 1 0 ∈ d.out ∧ Output.event 0x0E08 1 ∈ d.out)) ∧
  (∀ (s : State) (pass : Bool), Up s → s.dev.pair.testing = true → s.dev.pair.ownVerdict = none →
    Reaches (.partnerVerdict pass) s (fun d => d.pair = { s.dev.pair with partnerVerdict := some pass } ∧ d.buf = s.dev.buf)) ∧
  (∀ s : State, Up s → s.dev.pair.testing = true → s.dev.pair.ownVerdict = some true → s.dev.pair.role = .active → s.dev.pair.takeover = false →
    s.dev.pair.unresolved = [] → 1 < s.dev.cfg.pair.mismatchLimit →
    Reaches (.partnerVerdict true) s (fun d =>
      d.pair = { s.dev.pair with testing := false, partnerVerdict := some true, unresolved := [s.dev.now] })) ∧
  (∀ (s : State) (c : Cfg) (epoch : Word) (bs : List PortBound), Up s → isStandby s.dev = true → ChannelRoom 5 s → prepare c false s.dev = .ok bs →
    Reaches (.partnerCommit (.config c epoch none)) s (fun d =>
      d.cfg = c ∧ d.glb.cfgEpoch = epoch ∧ Output.wyusin 5 .commit epoch.toNat 0 ∈ d.out ∧ Output.event 0x0103 0 ∈ d.out)) ∧
  (∀ (s : State) (c : Cfg) (epoch : Word) (sec ns : Nat) (bs : List PortBound), Up s → isStandby s.dev = true → ChannelRoom 5 s →
    prepare c true s.dev = .ok bs →
    Reaches (.partnerCommit (.config c epoch (some (sec, ns)))) s (fun d =>
      d.switching = some { sec := sec, ns := ns, cfg := c, epoch := some epoch } ∧ d.cfg = s.dev.cfg ∧ d.glb.cfgEpoch = s.dev.glb.cfgEpoch ∧
      Output.wyusin 5 .commit epoch.toNat 0 ∈ d.out)) ∧
  (∀ (s : State) (c : Cfg) (epoch : Word) (x : Reject) (body : Bytes), Up s → isStandby s.dev = true → ChannelRoom 5 s →
    prepare c false s.dev = .refused x body →
    Reaches (.partnerCommit (.config c epoch none)) s (fun d =>
      d.out = s.dev.out ++ [.wyusin 5 .commit epoch.toNat x.reason.toNat] ∧ d = { s.dev with wy := d.wy, out := d.out }))

/-! ### Control complex (15) -/

/-- The compared cores (R439, R444 to R453, R457 to R459). Of windows the hardware can close: equal signatures release the window; a difference, a timeout or an uncorrected TCM error of core 0 starts the
self-test with its cause; a corrected one, the first, is counted. A self-test in which core 0 alone fails ends in one core alone, an unpaired device not set to halt; one that all pass, after a difference, in a restart. The restart of an unpaired device, the checker's reload and the comparator's test end; the latter's failure leaves one core alone. A sandbox fault
stops the split core, with no session open and no trial image; a debugger that is allowed attaches, and its register write acts on core 0 and goes through the delay FIFO; one that is not does nothing. A failed test or integrity check stops the Gailalum core with event 0x0F0A. -/
def Obligations.ControlComplex : Prop :=
  (∀ (s : State) (w : CloseBy) (main checker : List CcrTxn) (lag : Nat), Up s → s.dev.ccr.mode = .compared → s.dev.ccr.reloading = false →
    windowOk w main = true → checker.all txnOk = true → checker.length ≤ 256 → lag ≤ 4096 → signature main = signature checker →
    Reaches (.checkerWindowClose w main checker false lag) s (fun d =>
      d.out = s.dev.out ++ [.ccr main] ∧ d.ccr.mode = .compared ∧ d.ccr.window = s.dev.ccr.window + 1 ∧ d.ccr.lastWin = s.dev.ccr.window ∧
      d.ccr.lag = lag ∧ d.ccr.fifo = [] ∧ d.ccr.core1 = s.dev.ccr.fifo.foldl (fun k a => applyAct a k) s.dev.ccr.core1 ∧
      d = { s.dev with ccr := d.ccr, ctr := d.ctr, out := d.out })) ∧
  (∀ (s : State) (w : CloseBy) (main checker : List CcrTxn) (lag : Nat), Up s → s.dev.ccr.mode = .compared → s.dev.ccr.reloading = false →
    windowOk w main = true → checker.all txnOk = true → checker.length ≤ 256 → lag ≤ 4096 → signature main ≠ signature checker →
    Reaches (.checkerWindowClose w main checker false lag) s (fun d =>
      d.ccr.mode = .selfTest ∧ d.ccr.cause = 1 ∧ d.ccr.mmWin = s.dev.ccr.window ∧ d.ccr.held = s.dev.ccr.held ++ main ∧ d.ccr.shadow = checker ∧
      Output.event 0x0F01 1 ∈ d.out ∧ (sqOf sqCCR d).bits.getLsbD 0 = true ∧ (∀ t, Output.ccr t ∈ d.out → Output.ccr t ∈ s.dev.out))) ∧
  (∀ (s : State) (main : List CcrTxn), Up s → main.all txnOk = true → main.length ≤ 512 → s.dev.ccr.mode = .compared → s.dev.ccr.reloading = false →
    Reaches (.checkerTimeout main) s (fun d =>
      d.ccr.mode = .selfTest ∧ d.ccr.cause = 4 ∧ d.ccr.held = s.dev.ccr.held ++ main ∧ d.ccr.shadow = [] ∧ Output.event 0x0F01 4 ∈ d.out)) ∧
  (∀ (s : State) (main : List CcrTxn), Up s → main.all txnOk = true → main.length ≤ 512 → s.dev.ccr.mode ≠ .compared → Gives (.checkerTimeout main) s s.dev) ∧
  (∀ (s : State) (main : List CcrTxn), Up s → main.all txnOk = true → main.length ≤ 512 → s.dev.ccr.mode = .compared → (ledgerOf s.dev 108).state = .inService →
    Reaches (.tcmError false false main) s (fun d =>
      d.ccr.mode = .selfTest ∧ d.ccr.cause = 3 ∧ d.ccr.ret0 = true ∧ (ledgerOf d 108).state = .retired ∧ Output.event 0x0F01 3 ∈ d.out)) ∧
  (∀ (s : State) (core1 : Bool) (main : List CcrTxn), Up s → main.all txnOk = true → main.length ≤ 512 →
    (ledgerOf s.dev (tcmEntry core1)).times = [] → 1 < (ledgerCfg s.dev (tcmEntry core1)).limit →
    Reaches (.tcmError core1 true main) s (fun d =>
      (ledgerOf d (tcmEntry core1)).transients = (ledgerOf s.dev (tcmEntry core1)).transients + 1 ∧
      (ledgerOf d (tcmEntry core1)).state = (ledgerOf s.dev (tcmEntry core1)).state ∧ d.ccr = s.dev.ccr ∧ d.out = s.dev.out)) ∧
  (∀ s : State, Up s → s.dev.ccr.mode = .selfTest → s.dev.ccr.ret1 = false → s.dev.ccr.retCmp = false → (ledgerOf s.dev 144).state = .inService →
    s.dev.cfg.ccr.uncompHalt = false → s.dev.pair.role = .unpaired →
    Reaches (.ccrSelftestDone false true true true) s (fun d =>
      d.ccr.mode = .uncompared ∧ d.ccr.onCore1 = true ∧ d.ccr.ret0 = true ∧ d.ccr.held = [] ∧ d.ccr.verdicts = 1 ∧ Output.event 0x0F02 1 ∈ d.out ∧
      Output.event 0x0F04 0 ∈ d.out ∧ (s.dev.ccr.shadow ≠ [] → Output.ccr s.dev.ccr.shadow ∈ d.out))) ∧
  (∀ s : State, Up s → s.dev.ccr.mode = .selfTest → s.dev.ccr.ret0 = false → s.dev.ccr.ret1 = false → s.dev.ccr.retCmp = false → s.dev.ccr.cause = 1 →
    (ledgerOf s.dev 144).times = [] → (ledgerOf s.dev 145).times = [] → 1 < (ledgerCfg s.dev 144).limit →
    Reaches (.ccrSelftestDone true true true true) s (fun d =>
      d.ccr.mode = .restarting ∧ d.ccr.verdicts = 0 ∧ d.ccr.held = [] ∧ d.ccr.shadow = [] ∧ Output.event 0x0F02 0 ∈ d.out)) ∧
  (∀ (s : State) (p0 p1 pd pc : Bool), Up s → s.dev.ccr.mode = .compared → Gives (.ccrSelftestDone p0 p1 pd pc) s s.dev) ∧
  (∀ s : State, Up s → s.dev.ccr.mode = .restarting → s.dev.cfg.pair.paired = false →
    Reaches .controlRestartDone s (fun d =>
      d.ccr.mode = .compared ∧ d.ccr.window = 0 ∧ d.ccr.held = [] ∧ d.ncp.replayDue = true ∧ d.boot.solstice = none ∧ Output.event 0x0F07 0 ∈ d.out)) ∧
  (∀ s : State, Up s → s.dev.ccr.mode = .compared → Gives .controlRestartDone s s.dev) ∧
  (∀ s : State, Up s → s.dev.ccr.reloading = true →
    Reaches .checkerReloadDone s (fun d =>
      d.ccr = { s.dev.ccr with core1 := s.dev.ccr.core0, fifo := [], reloading := false } ∧ Output.event 0x0F06 0 ∈ d.out ∧
      (sqOf sqCCR d).bits.getLsbD 5 = true)) ∧
  (∀ s : State, Up s → s.dev.ccr.mode = .compared →
    Gives (.compTestSlot true) s (ccrCtr 7 { s.dev with ccr := { s.dev.ccr with slot := (s.dev.ccr.slot + 1) % 64 } })) ∧
  (∀ s : State, Up s → s.dev.ccr.mode = .compared → s.dev.cfg.ccr.uncompHalt = false → s.dev.pair.role = .unpaired →
    (ledgerOf s.dev 146).state = .inService →
    Reaches (.compTestSlot false) s (fun d =>
      d.ccr.mode = .uncompared ∧ d.ccr.onCore1 = false ∧ d.ccr.retCmp = true ∧ Output.event 0x0F03 0 ∈ d.out ∧ (sqOf sqCCR d).bits.getLsbD 2 = true)) ∧
  (∀ s : State, Up s → s.dev.ccr.split = true → s.dev.ccr.splitStopped = false → s.dev.ncp.sessions = [] → trialKind s.dev 3 = false →
    Reaches .sandboxFault s (fun d =>
      d.ccr = { s.dev.ccr with splitStopped := true } ∧ d.boot = { s.dev.boot with splitSince := none } ∧ Output.event 0x0F08 0 ∈ d.out ∧
      (sqOf sqCCR d).bits.getLsbD 7 = true ∧ d.buf = s.dev.buf)) ∧
  (∀ s : State, Up s → s.dev.ccr.split = false → Gives .sandboxFault s s.dev) ∧
  (∀ s : State, Up s → debugAllowed s.dev = true →
    Reaches .debugAttach s (fun d => d.ccr = { s.dev.ccr with debug := true } ∧ d.sec = { s.dev.sec with debugSeen := true } ∧ Output.event 0x0F0B 0 ∈ d.out)) ∧
  (∀ (s : State) (core1 : Bool) (a : DebugAct), Up s → debugAllowed s.dev = false → Gives .debugAttach s s.dev ∧ Gives (.debugAction core1 a) s s.dev) ∧
  (∀ (s : State) (r : Nat) (v : Word), Up s → debugAllowed s.dev = true → s.dev.ccr.debug = true → s.dev.ccr.mode = .compared →
    Gives (.debugAction false (.regWrite r v)) s { s.dev with ccr := { s.dev.ccr with
      core0 := { s.dev.ccr.core0 with regs := insertAt s.dev.ccr.core0.regs r v }, fifo := s.dev.ccr.fifo ++ [.regWrite r v] } }) ∧
  (∀ s : State, Up s → s.dev.ccr.gaiStopped = false → (ledgerOf s.dev 147).state = .inService →
    Reaches (.gailalumKat false) s (fun d =>
      d.ccr = { s.dev.ccr with gaiStopped := true } ∧ Output.event 0x0F0A 0 ∈ d.out ∧ (sqOf sqCCR d).bits.getLsbD 8 = true ∧
      (ledgerOf d 147).state = .retired) ∧
    Reaches .gailalumFault s (fun d =>
      d.ccr = { s.dev.ccr with gaiStopped := true } ∧ Output.event 0x0F0A 0 ∈ d.out ∧ (ledgerOf d 147).state = .retired)) ∧
  (∀ s : State, Up s → Gives (.gailalumKat true) s s.dev)
/-! ### Command protocol (16) -/

/-- Commands from packet to final reply, on a transport other than the PCIe mailbox (R467, R469 to R474, R479, R481). A packet that fails its authentication is only
counted; then one with a bad header is answered 0x0109, one for a session that is not its own 0x0309, one outside the window 0x0107. A repeat of a final command is
answered from the reply store, one of a command under way REPLAYED, and a different area sets event 0x1007. A SYS_INFO in order is validated, its COMMAND record whole
it is accepted with its time, it executes and is answered. An accepted command without final reply gets its interim reply after 1 ms. A gap is skipped with a SKIP record
when GAP_TIME ends. An executing command whose TIMEOUT ends becomes late. After a reset the sessions stand as the journal has them: a command without record is
forgotten, a read that was accepted runs again. -/
def Obligations.CommandStages : Prop :=
  (∀ (s : State) (t : Transport) (peer : NcpPeer) (p : Packet), Up s → t ≠ .pcie → ncpRuns s.dev = true → s.dev.boot.recovery = false →
    authentic p.session t p s.dev = true → p.headerOk = false →
    Gives (.ncpPacket t peer p) s
      (sendOut (some (p.session, p.seq)) false { status := 0x0109, acc := false, epoch := s.dev.glb.cfgEpoch, opcode := p.opcode, timeoutMs := p.timeoutMs } s.dev)) ∧
  (∀ (s : State) (t : Transport) (peer : NcpPeer) (p : Packet), Up s → ncpRuns s.dev = true → s.dev.boot.recovery = false →
    authentic p.session t p s.dev = false → Gives (.ncpPacket t peer p) s (ncpCtr 6 s.dev)) ∧
  (∀ (s : State) (t : Transport) (peer : NcpPeer) (p : Packet), Up s → t ≠ .pcie → ncpRuns s.dev = true → s.dev.boot.recovery = false →
    authentic p.session t p s.dev = true → p.headerOk = true → p.opcode ≠ 0x0101 → p.opcode ≠ 0x0103 →
    ((sessionOf s.dev p.session).open_ = false ∨ (sessionOf s.dev p.session).transport ≠ some t ∨ foreign p.session t s.dev = true) →
    Gives (.ncpPacket t peer p) s
      (sendOut (some (p.session, p.seq)) false { status := 0x0309, acc := false, epoch := s.dev.glb.cfgEpoch, opcode := p.opcode, timeoutMs := p.timeoutMs } s.dev)) ∧
  (∀ (s : State) (t : Transport) (peer : NcpPeer) (p : Packet), Up s → t ≠ .pcie → ncpRuns s.dev = true → s.dev.boot.recovery = false →
    authentic p.session t p s.dev = true → p.headerOk = true → p.opcode ≠ 0x0101 → p.opcode ≠ 0x0103 → foreign p.session t s.dev = false →
    (sessionOf s.dev p.session).open_ = true → (sessionOf s.dev p.session).transport = some t → recAt s.dev p.session p.seq = none →
    512 ≤ (p.seq - lowOf (sessionOf s.dev p.session)).toNat →
    Gives (.ncpPacket t peer p) s
      (sendOut (some (p.session, p.seq)) false { status := 0x0107, acc := false, epoch := s.dev.glb.cfgEpoch, opcode := p.opcode, timeoutMs := p.timeoutMs }
        (modSession p.session (fun x => { x with peer := peer }) s.dev))) ∧
  (∀ (s : State) (t : Transport) (peer : NcpPeer) (p : Packet) (r : NcpRec) (rep : Reply), Up s → t ≠ .pcie → ncpRuns s.dev = true → s.dev.boot.recovery = false →
    authentic p.session t p s.dev = true → p.headerOk = true → p.opcode ≠ 0x0101 → p.opcode ≠ 0x0103 → foreign p.session t s.dev = false →
    (sessionOf s.dev p.session).open_ = true → (sessionOf s.dev p.session).transport = some t → recAt s.dev p.session p.seq = some r → r.stage = .final →
    r.reply = some rep → ((sessionOf s.dev p.session).high - p.seq).toNat < 4096 →
    Gives (.ncpPacket t peer p) s (sendOut (some (p.session, p.seq)) true rep
      ((if r.packet.area = p.area then id else raise sqNCP 6 0x1007 p.session) (ncpCtr 2 (modSession p.session (fun x => { x with peer := peer }) s.dev))))) ∧
  (∀ (s : State) (t : Transport) (peer : NcpPeer) (p : Packet) (r : NcpRec), Up s → t ≠ .pcie → ncpRuns s.dev = true → s.dev.boot.recovery = false →
    authentic p.session t p s.dev = true → p.headerOk = true → p.opcode ≠ 0x0101 → p.opcode ≠ 0x0103 → foreign p.session t s.dev = false →
    (sessionOf s.dev p.session).open_ = true → (sessionOf s.dev p.session).transport = some t → recAt s.dev p.session p.seq = some r → isFinal r = false →
    r.packet.area = p.area → ((sessionOf s.dev p.session).high - p.seq).toNat < 4096 →
    Gives (.ncpPacket t peer p) s (sendOut (some (p.session, p.seq)) false
      { status := 0x0002, acc := isAccepted r, isLast := false, epoch := s.dev.glb.cfgEpoch, opcode := r.packet.opcode, timeoutMs := r.packet.timeoutMs }
      (ncpCtr 2 (modSession p.session (fun x => { x with peer := peer }) s.dev)))) ∧
  (∀ (s : State) (t : Transport) (peer : NcpPeer) (p : Packet), Up s → ncpRuns s.dev = true → s.dev.boot.recovery = false →
    authentic p.session t p s.dev = true → p.headerOk = true → foreign p.session t s.dev = false → p.opcode = 0x0106 → p.op = some .sysInfo → p.badTlv = false →
    p.missing = false → (p.epoch = 0 ∨ p.epoch = s.dev.glb.cfgEpoch) → s.dev.glb.stopAccept = false → (sessionOf s.dev p.session).open_ = true →
    (sessionOf s.dev p.session).transport = some t → (sessionOf s.dev p.session).recs = [] → (sessionOf s.dev p.session).next = p.seq →
    Reaches (.ncpPacket t peer p) s (fun d =>
      recAt d p.session p.seq = some { packet := p, stage := .accepting, arrival := s.dev.ncp.arrivals + 1 } ∧ (sessionOf d p.session).next = p.seq + 1 ∧
      (sessionOf d p.session).high = p.seq ∧ (sessionOf d p.session).peer = peer ∧
      (d.ncp.journal.getLast?).map (fun r => (r.who, r.body, r.whole)) = some (some (p.session, p.seq), .command p, false) ∧
      (∀ m, m ≠ p.session → sessionOf d m = sessionOf s.dev m) ∧ JournalOnly s d)) ∧
  (∀ (s : State) (n : Nat) (q : Word) (r : NcpRec), Up s → n < 4 → ncpRuns s.dev = true → s.dev.ncp.replayDue = false →
    (numbers (sessionOf s.dev n) (fun r => decide (r.stage = .accepting))).head? = some q → recAt s.dev n q = some r →
    (s.dev.glb.stopAccept = false ∨ r.packet.opcode / 256 = 7) → awaitsPartner n q s.dev = false →
    Reaches (.commandAccepted n) s (fun d =>
      recAt d n q = some { r with stage := .accepted, acceptedAt := s.dev.now, acceptTs := ts32 s.dev } ∧ counter 0x81000 d = counter 0x81000 s.dev + 1 ∧
      (∀ x ∈ d.ncp.journal, x.who = some (n, q) → x.body.kind = 3 → x.whole = true) ∧ (∀ m, m ≠ n → sessionOf d m = sessionOf s.dev m) ∧
      d = { s.dev with ncp := d.ncp, ctr := d.ctr })) ∧
  (∀ (s : State) (n : Nat) (q : Word) (r : NcpRec), Up s → n < 4 → ncpRuns s.dev = true → s.dev.ncp.replayDue = false →
    (numbers (sessionOf s.dev n) (fun r => decide (r.stage = .accepting))).head? = some q → recAt s.dev n q = some r →
    (s.dev.glb.stopAccept = false ∨ r.packet.opcode / 256 = 7) → awaitsPartner n q s.dev = true → Gives (.commandAccepted n) s s.dev) ∧
  (∀ (s : State) (n : Nat) (env : ExecEnv) (q : Word) (r : NcpRec), Up s → n < 3 → ncpRuns s.dev = true → s.dev.ncp.replayDue = false →
    (sessionOf s.dev n).orphans = [] → (∀ x ∈ (sessionOf s.dev n).recs, x.2.stage ≠ .executing) → (sessionOf s.dev n).open_ = true →
    (sessionOf s.dev n).transport = some .ethernet → (numbers (sessionOf s.dev n) (fun r => decide (r.stage = .accepted))).head? = some q →
    recAt s.dev n q = some r → r.op = some .sysInfo → r.late = false → s.dev.now < timeoutAt r →
    Reaches (.commandExecute n env) s (fun d =>
      let rep : Reply := { status := 0, body := (sysInfo s.dev).body, epoch := s.dev.glb.cfgEpoch, opcode := 0x0106, timeoutMs := r.packet.timeoutMs }
      recAt d n q = some { r with stage := .final, target := none, reply := some rep } ∧
      (∀ o ∈ (sendOut (some (n, q)) false rep { s.dev with out := [] }).out, o ∈ d.out) ∧
      d.cfg = s.dev.cfg ∧ d.buf = s.dev.buf ∧ d.glb.cfgEpoch = s.dev.glb.cfgEpoch)) ∧
  (∀ (s : State) (n : Nat), Up s → n < 4 → (s.dev.ncp.replayDue = true ∨ ncpRuns s.dev = false) →
    Gives (.commandAccepted n) s s.dev ∧ ∀ env, Gives (.commandExecute n env) s s.dev) ∧
  (∀ (s : State) (n : Nat) (t : Transport) (q : Word) (r : NcpRec), Up s → n < 4 → t ≠ .pcie → (sessionOf s.dev n).transport = some t →
    (numbers (sessionOf s.dev n) (fun r => isAccepted r && !r.interim && decide (r.acceptedAt + 1000000000 ≤ s.dev.now))).head? = some q →
    recAt s.dev n q = some r →
    Gives (.interimReply n) s (sendOut (some (n, q)) false
      { status := 1, isLast := false, epoch := s.dev.glb.cfgEpoch, opcode := r.packet.opcode, timeoutMs := r.packet.timeoutMs }
      (setNcpRec n q { r with interim := true } s.dev))) ∧
  (∀ (s : State) (n : Nat), Up s → n < 4 → (∀ x ∈ (sessionOf s.dev n).recs, isAccepted x.2 = true → x.2.interim = false → s.dev.now < x.2.acceptedAt + 1000000000) →
    Gives (.interimReply n) s s.dev) ∧
  (∀ (s : State) (n t : Nat) (r : NcpRec), Up s → n < 3 → (sessionOf s.dev n).open_ = true → (sessionOf s.dev n).transport = some .ethernet →
    (sessionOf s.dev n).gapSince = some t → t + (sessionOf s.dev n).gapMs * 1000000000 ≤ s.dev.now → s.dev.boot.recovery = false →
    (sessionOf s.dev n).recs = [(((sessionOf s.dev n).next + 1).toNat, r)] → r.stage = .ordered → r.packet.opcode = 0x0106 → r.packet.op = some .sysInfo →
    r.packet.badTlv = false → r.packet.missing = false → r.packet.epoch = 0 → r.arrival = 0 → s.dev.glb.stopAccept = false →
    Reaches (.gapTimeExpiry n) s (fun d =>
      (recAt d n (sessionOf s.dev n).next).map (·.stage) = some .skipped ∧ (recAt d n ((sessionOf s.dev n).next + 1)).map (·.stage) = some .accepting ∧
      (sessionOf d n).next = (sessionOf s.dev n).next + 2 ∧ (∃ x ∈ d.ncp.journal, x.who = some (n, (sessionOf s.dev n).next) ∧ x.body = .skip) ∧
      Output.event 0x1003 n ∈ d.out ∧ (sqOf sqNCP d).bits.getLsbD 2 = true ∧ counter 0x81018 d = counter 0x81018 s.dev + 1)) ∧
  (∀ (s : State) (n : Nat), Up s → n < 4 →
    (∀ t, (sessionOf s.dev n).gapSince = some t → s.dev.now < t + (sessionOf s.dev n).gapMs * 1000000000) → Gives (.gapTimeExpiry n) s s.dev) ∧
  (∀ (s : State) (n : Nat) (q : Word) (r : NcpRec), Up s → n < 4 →
    (numbers (sessionOf s.dev n) (fun r => decide (r.stage = .executing) && !r.late && decide (timeoutAt r ≤ s.dev.now))).head? = some q →
    recAt s.dev n q = some r → s.dev.gw.sends = [] → s.dev.gw.waits = [] → s.dev.gw.entries = [] →
    Gives (.commandTimeout n) s (setNcpRec n q { r with late := true } s.dev)) ∧
  (∀ (s : State) (n : Nat), Up s → n < 4 → (∀ x ∈ (sessionOf s.dev n).recs, x.2.stage = .executing → x.2.late = false → s.dev.now < timeoutAt x.2) →
    Gives (.commandTimeout n) s s.dev) ∧
  (∀ (s : State) (env : ExecEnv), Up s → ncpRuns s.dev = true → s.dev.ncp.replayDue = true → s.dev.pair.takeover = false →
    (∀ x ∈ s.dev.ncp.journal, x.body.kind ≠ 3 ∧ x.body.kind ≠ 4) →
    Reaches (.journalReplayed env) s (fun d =>
      d.ncp.replayDue = false ∧ Output.event 0x1004 0 ∈ d.out ∧ (sqOf sqNCP d).bits.getLsbD 3 = true ∧
      (∀ n, n < 4 → (∀ x ∈ s.dev.ncp.journal, x.who.map Prod.fst ≠ some n) → sessionOf d n = { rings := (sessionOf s.dev n).rings }) ∧
      (∀ n, n < 4 → ∀ x ∈ (sessionOf d n).recs, isFinal x.2 = true))) ∧
  (∀ (s : State) (env : ExecEnv) (n a b : Nat) (q : Word) (p : Packet) (y : SessionRec), Up s → ncpRuns s.dev = true → s.dev.ncp.replayDue = true →
    s.dev.pair.takeover = false → n < 3 → y.open_ = true → p.opcode = 0x0106 → p.op = some .sysInfo → a ∉ env.bad → b ∉ env.bad →
    s.dev.ncp.journal = [{ no := a, who := some (n, q - 1), body := .session y, whole := true },
      { no := b, who := some (n, q), body := .command p, ts := ts32 s.dev, whole := true }] →
    Reaches (.journalReplayed env) s (fun d =>
      (sessionOf d n).open_ = true ∧ (sessionOf d n).next = q + 1 ∧ (sessionOf d n).high = q ∧ (recAt d n q).map (·.stage) = some .final ∧
      ((recAt d n q).bind (·.reply)).map (fun r => (r.status, r.body)) = some (0, (sysInfo s.dev).body))) ∧
  (∀ (s : State) (env : ExecEnv), Up s → (s.dev.ncp.replayDue = false ∨ ncpRuns s.dev = false) → Gives (.journalReplayed env) s s.dev)

/-- Sessions and mailboxes (R465 to R468). SESSION_OPEN opens a closed session, with its record in the journal, event 0x1001 and its reply, which in an HMAC session
brings DNONCE, device number and boot counter; a key slot that does not permit the use leaves it closed; one that is open or bound answers 0x0309. SESSION_CLOSE ends
window and binding with event 0x1002, and waits its turn behind commands that are not final. SESSION_ATTACH binds a session without transport to a mailbox. A doorbell
sets CMD_PI; each command entry up to it is read while the engine may issue requests, and its reply takes a reply entry and the mailbox's vector. RPL_CI frees entries,
and a waiting reply is written. A base is written only while the session is unbound, else event 0x1006. -/
def Obligations.SessionsAndMailboxes : Prop :=
  (∀ (s : State) (n : Nat) (t : Transport) (q : Word) (o : OpenParams), Up s → n < 4 → ncpRuns s.dev = true → s.dev.boot.recovery = false →
    s.dev.glb.stopAccept = false → (sessionOf s.dev n).open_ = false → (sessionOf s.dev n).transport = none → foreign n t s.dev = false →
    openOk (some t) o = true → o.auth ≠ .hmac →
    Reaches (.sessionOpen n t q o) s (fun d =>
      (sessionOf d n).open_ = true ∧ (sessionOf d n).transport = some t ∧ (sessionOf d n).auth = o.auth ∧ (sessionOf d n).secys = o.secys ∧
      (sessionOf d n).gapMs = o.gapMs ∧ (sessionOf d n).next = q + 1 ∧ (sessionOf d n).high = q ∧ Output.event 0x1001 n ∈ d.out ∧
      (sqOf sqNCP d).bits.getLsbD 0 = true ∧
      ((recAt d n q).bind (·.reply)) = some { status := 0, epoch := s.dev.glb.cfgEpoch, opcode := 0x0101 } ∧
      (t ≠ .pcie → plainReply (some (n, q)) false { status := 0, epoch := s.dev.glb.cfgEpoch, opcode := 0x0101 }
        (if t = .ethernet then some (sessionOf s.dev n).peer else none) ∈ d.out) ∧
      (∃ x ∈ d.ncp.journal, x.who = some (n, q) ∧ x.body.kind = 1) ∧ (∀ m, m ≠ n → sessionOf d m = sessionOf s.dev m) ∧ d.cfg = s.dev.cfg)) ∧
  (∀ (s : State) (n : Nat) (t : Transport) (q : Word) (o : OpenParams), Up s → n < 4 → ncpRuns s.dev = true → s.dev.boot.recovery = false →
    s.dev.glb.stopAccept = false → (sessionOf s.dev n).open_ = false → (sessionOf s.dev n).transport = none → foreign n t s.dev = false →
    openOk (some t) o = true → o.auth = .hmac → openRefusal (some t) o s.dev = none →
    Reaches (.sessionOpen n t q o) s (fun d =>
      (sessionOf d n).open_ = true ∧ (sessionOf d n).auth = .hmac ∧ (sessionOf d n).slot = o.keySlot ∧ (sessionOf d n).cnonce = o.nonce ∧
      ((recAt d n q).bind (·.reply)).map (fun r => (r.status, r.body)) =
        some (0, toBe 16 (sessionOf d n).dnonce ++ toBe 2 (devId16 s.dev) ++ toBe 8 (bootCounter s.dev)) ∧
      Output.event 0x1001 n ∈ d.out ∧ (∀ m, m ≠ n → sessionOf d m = sessionOf s.dev m))) ∧
  (∀ (s : State) (n : Nat) (t : Transport) (q : Word) (o : OpenParams) (r : Res), Up s → n < 4 → ncpRuns s.dev = true → s.dev.boot.recovery = false →
    s.dev.glb.stopAccept = false → (sessionOf s.dev n).open_ = false → (sessionOf s.dev n).transport = none → foreign n t s.dev = false →
    openOk (some t) o = true → openRefusal (some t) o s.dev = some r →
    Reaches (.sessionOpen n t q o) s (fun d =>
      (sessionOf d n).open_ = false ∧ (sessionOf d n).transport = none ∧ (sessionOf d n).recs = [] ∧
      plainReply (some (n, q)) false { status := r.status, reason := r.reason, epoch := s.dev.glb.cfgEpoch, opcode := 0x0101 } (some (sessionOf s.dev n).peer) ∈ d.out)) ∧
  (∀ (s : State) (n : Nat) (t : Transport) (q : Word) (o : OpenParams), Up s → n < 4 → ncpRuns s.dev = true → s.dev.boot.recovery = false → t ≠ .pcie →
    ((sessionOf s.dev n).open_ = true ∨ (sessionOf s.dev n).transport.isSome = true ∨ foreign n t s.dev = true) →
    Gives (.sessionOpen n t q o) s (sendOut (some (n, q)) false { status := 0x0309, acc := false, epoch := s.dev.glb.cfgEpoch, opcode := 0x0101 } s.dev)) ∧
  (∀ (s : State) (n : Nat), Up s → n < 4 → ncpRuns s.dev = true → s.dev.boot.recovery = false → s.dev.glb.stopAccept = false →
    (sessionOf s.dev n).open_ = true → (∀ x ∈ (sessionOf s.dev n).recs, isFinal x.2 = true) →
    Reaches (.sessionClose n) s (fun d =>
      (sessionOf d n).open_ = false ∧ (sessionOf d n).recs = [] ∧ (sessionOf d n).transport = none ∧ (sessionOf d n).orphans = (sessionOf s.dev n).orphans ∧
      replied .sessionClose {} s.dev.glb.cfgEpoch ∈ d.out ∧ Output.event 0x1002 n ∈ d.out ∧ (sqOf sqNCP d).bits.getLsbD 1 = true ∧
      (∀ m, m ≠ n → sessionOf d m = sessionOf s.dev m) ∧ d.cfg = s.dev.cfg)) ∧
  (∀ (s : State) (n : Nat), Up s → n < 4 → ncpRuns s.dev = true → (sessionOf s.dev n).open_ = true →
    (∃ x ∈ (sessionOf s.dev n).recs, isFinal x.2 = false) →
    Reaches (.sessionClose n) s (fun d => (sessionOf d n).open_ = true ∧ (sessionOf d n).high = (sessionOf s.dev n).high + 1)) ∧
  (∀ (s : State) (n : Nat), Up s → n < 4 → ncpRuns s.dev = true → (sessionOf s.dev n).open_ = false →
    Reaches (.sessionClose n) s (fun d =>
      plainReply none false { status := 0x0309, acc := false, epoch := s.dev.glb.cfgEpoch, opcode := 0x0102 } none ∈ d.out ∧
      d.ncp.sessions = s.dev.ncp.sessions ∧ JournalOnly s d)) ∧
  (∀ (s : State) (n : Nat) (t : Transport), Up s → n < 4 → (t = .pcie ∨ t = .split) → ncpRuns s.dev = true → s.dev.boot.recovery = false →
    s.dev.glb.stopAccept = false → (sessionOf s.dev n).open_ = true → (sessionOf s.dev n).transport = none → foreign n t s.dev = false →
    Reaches (.sessionAttach n t) s (fun d =>
      sessionOf d n = { sessionOf s.dev n with transport := some t } ∧ replied (.sessionAttach {}) {} s.dev.glb.cfgEpoch ∈ d.out ∧ Output.event 0x1001 n ∈ d.out ∧
      (sqOf sqNCP d).bits.getLsbD 0 = true ∧ (∀ m, m ≠ n → sessionOf d m = sessionOf s.dev m) ∧ d.cfg = s.dev.cfg)) ∧
  (∀ (s : State) (n : Nat) (t : Transport), Up s → n < 4 → ncpRuns s.dev = true → s.dev.boot.recovery = false →
    ((sessionOf s.dev n).open_ = false ∨ (sessionOf s.dev n).transport.isSome = true ∨ t = .ethernet ∨ t = .wyusin ∨ foreign n t s.dev = true) →
    Reaches (.sessionAttach n t) s (fun d =>
      plainReply none false { status := 0x0309, acc := false, epoch := s.dev.glb.cfgEpoch, opcode := 0x0103 } none ∈ d.out ∧
      d.ncp.sessions = s.dev.ncp.sessions ∧ JournalOnly s d)) ∧
  (∀ (s : State) (n pi : Nat) (v : HostView), BusUp s → n < 4 → pi < 256 → ((sessionOf s.dev n).rings.cmdCi = pi ∨ engineOn s.dev = false ∨ ncpRuns s.dev = false) →
    Gives (.cmdDoorbell n pi v) s (modSession n (fun x => { x with rings := { x.rings with cmdPi := pi } }) s.dev)) ∧
  (∀ (s : State) (n pi : Nat) (v : HostView) (p : Packet), BusUp s → n < 4 → pi < 256 → ((sessionOf s.dev n).rings.cmdCi + 1) % 256 = pi →
    (sessionOf s.dev n).rings.cmdCi < 256 →
    isRunning s.dev (64 + n) true = true → engineOn s.dev = true → ncpRuns s.dev = true → s.dev.boot.recovery = false →
    (lookupD s.dev.hif.spaces (64 + n) {}).mode = 1 → (sessionOf s.dev n).rings.cmdBase.toNat + 524288 ≤ 2 ^ 48 → v.cmds = [p] →
    authentic n .pcie p s.dev = true → p.headerOk = false → (sessionOf s.dev n).rings.waiting = [] →
    (sessionOf s.dev n).rings.rplBase.toNat + 524288 ≤ 2 ^ 48 → (sessionOf s.dev n).rings.rplPi < 256 →
    ((sessionOf s.dev n).rings.rplPi + 1) % 256 ≠ (sessionOf s.dev n).rings.rplCi →
    Reaches (.cmdDoorbell n pi v) s (fun d =>
      (sessionOf d n).rings = { (sessionOf s.dev n).rings with cmdPi := pi, cmdCi := pi, rplPi := ((sessionOf s.dev n).rings.rplPi + 1) % 256 } ∧
      d.out = (sendOut (some (n, p.seq)) false { status := 0x0109, acc := false, epoch := s.dev.glb.cfgEpoch, opcode := p.opcode, timeoutMs := p.timeoutMs }
        s.dev).out ++ [.msix (64 + n)] ∧ d = { s.dev with ncp := d.ncp, out := d.out })) ∧
  (∀ (s : State) (n ci : Nat) (v : HostView) (q : Word) (rep : Bool) (r : Reply), BusUp s → n < 4 → ci < 256 →
    (sessionOf s.dev n).rings.waiting = [(q, rep, some r)] → ((sessionOf s.dev n).rings.rplPi + 1) % 256 ≠ ci → isRunning s.dev (64 + n) true = true →
    engineOn s.dev = true → ncpRuns s.dev = true → (lookupD s.dev.hif.spaces (64 + n) {}).mode = 1 →
    (sessionOf s.dev n).rings.rplBase.toNat + (sessionOf s.dev n).rings.rplPi * 2048 < 2 ^ 48 →
    Reaches (.rplCiWrite n ci v) s (fun d =>
      (sessionOf d n).rings = { (sessionOf s.dev n).rings with rplCi := ci, rplPi := ((sessionOf s.dev n).rings.rplPi + 1) % 256, waiting := [] } ∧
      d.out = (sendOut (some (n, q)) rep r s.dev).out ++ [.msix (64 + n)] ∧ d = { s.dev with ncp := d.ncp, out := d.out })) ∧
  (∀ (s : State) (n ci : Nat) (v : HostView), BusUp s → n < 4 → ci < 256 →
    ((sessionOf s.dev n).rings.waiting = [] ∨ ((sessionOf s.dev n).rings.rplPi + 1) % 256 = ci ∨ isRunning s.dev (64 + n) true = false ∨ engineOn s.dev = false) →
    Gives (.rplCiWrite n ci v) s (modSession n (fun x => { x with rings := { x.rings with rplCi := ci } }) s.dev)) ∧
  (∀ (s : State) (n : Nat) (hi : Bool) (v : Word), BusUp s → n < 4 → (sessionOf s.dev n).transport = none →
    Gives (.mailboxBaseWrite n false hi v) s
      (modSession n (fun x => { x with rings := { x.rings with cmdBase := putBase hi v x.rings.cmdBase } }) s.dev) ∧
    Gives (.mailboxBaseWrite n true hi v) s
      (modSession n (fun x => { x with rings := { x.rings with rplBase := putBase hi v x.rings.rplBase } }) s.dev)) ∧
  (∀ (s : State) (n : Nat) (rpl hi : Bool) (v : Word), BusUp s → n < 4 → (sessionOf s.dev n).transport.isSome = true →
    Reaches (.mailboxBaseWrite n rpl hi v) s (fun d =>
      d.ncp = s.dev.ncp ∧ Output.event 0x1006 n ∈ d.out ∧ (sqOf sqNCP d).bits.getLsbD 5 = true))
/-! ### Operations of Table NCP-5 (16) -/

/-- The operations that only read (R463, R478, 05 R168, 07 R218, 11 R340, 18 R526, 19 R543, 21 R596, R597): the reply leaves, and beside the records of the command
nothing else changes. ADMIT_DRY_RUN gives each stream's bound, or the refusal, and commits nothing. A REG_READ gives its words in address order; one of an address that
is not aligned, or that holds no register, is answered 0x0106 and is a bus error. Words and counters are those after the command is counted as accepted. -/
def Obligations.ReadsOnlyReply : Prop :=
  (∀ (s : State) (env : ExecEnv), Passes .sysInfo env s → OnlyReplies (.sysInfo env) .sysInfo (sysInfo s.dev) s) ∧
  (∀ (s : State) (env : ExecEnv) (p : Nat), Passes (.portStatus p) env s →
    OnlyReplies (.portStatus p env) (.portStatus p) { body := wordBytes [linkWord s.dev p, sqWord (sqPRT p) s.dev] } s) ∧
  (∀ (s : State) (env : ExecEnv) (ss : Tbl StreamCfg) (ls : Tbl Gcl), Passes (.admitDryRun ss ls) env s → (dryRun ss ls s.dev).1.status = 0 →
    OnlyReplies (.admitDryRun ss ls env) (.admitDryRun ss ls) (dryRun ss ls s.dev).1 s) ∧
  (∀ (s : State) (env : ExecEnv) (ss : Tbl StreamCfg) (ls : Tbl Gcl), Passes (.admitDryRun ss ls) env s → (dryRun ss ls s.dev).1.status ≠ 0 →
    Reaches (.admitDryRun ss ls env) s (fun d =>
      replied (.admitDryRun ss ls) (dryRun ss ls s.dev).1 s.dev.glb.cfgEpoch ∈ d.out ∧ d.cfg = s.dev.cfg ∧ d.sch = s.dev.sch ∧
      d.glb.cfgEpoch = s.dev.glb.cfgEpoch ∧ d.buf = s.dev.buf)) ∧
  (∀ (s : State) (env : ExecEnv) (k : CtRef), Passes (.ctRead k) env s → OnlyReplies (.ctRead k env) (.ctRead k) (ctRead k s.dev) s) ∧
  (∀ (s : State) (env : ExecEnv) (n a : Nat), Passes (.mvbPortRead n a) env s → OnlyReplies (.mvbPortRead n a env) (.mvbPortRead n a) (mvbPortRead n a s.dev) s) ∧
  (∀ (s : State) (env : ExecEnv) (nonce : Bytes) (p384 : Bool), Passes (.attest nonce p384) env s →
    OnlyReplies (.attest nonce p384 env) (.attest nonce p384) (attest nonce p384 s.dev) s) ∧
  (∀ (s : State) (env : ExecEnv) (ix : Nat), Passes (.faultRead ix) env s →
    OnlyReplies (.faultRead ix env) (.faultRead ix) { body := wordBytes (ledgerWords ix s.dev) } s) ∧
  (∀ (s : State) (env : ExecEnv) (n : Nat), Passes (.lateRingRead n) env s →
    OnlyReplies (.lateRingRead n env) (.lateRingRead n) { body := (s.dev.flt.late.take (min n 32)).flatMap lateBytes } s) ∧
  (∀ (s : State) (env : ExecEnv) (block index count : Nat), Passes (.counterRead block index count) env s →
    OnlyReplies (.counterRead block index count env) (.counterRead block index count) (counterRead block index count (ncpCtr 0 s.dev)) s) ∧
  (∀ (s : State) (env : ExecEnv) (a n : Nat), Passes (.regRead a n) env s → a % 4 = 0 → (∀ k, k < n → (readReg s.dev (a + 4 * k)).isSome = true) →
    OnlyReplies (.regRead a n env) (.regRead a n)
      { body := (List.range n).flatMap (fun k => toBe 4 ((readReg (ncpCtr 0 s.dev) (a + 4 * k)).getD 0).toNat) } s) ∧
  (∀ (s : State) (env : ExecEnv) (a n : Nat), Passes (.regRead a n) env s → a % 4 ≠ 0 →
    Reaches (.regRead a n env) s (fun d =>
      d.glb.berrAddr = BitVec.ofNat 32 a ∧ d.glb.berrCount = s.dev.glb.berrCount + 1 ∧ Output.event 0x0101 0 ∈ d.out ∧
      replied (.regRead a n) { status := 0x0106, body := toBe 4 a } s.dev.glb.cfgEpoch ∈ d.out)) ∧
  (∀ (s : State) (env : ExecEnv) (a n k : Nat), Passes (.regRead a n) env s → a % 4 = 0 → k < n → (readReg s.dev (a + 4 * k)).isNone = true →
    (∀ j, j < k → (readReg s.dev (a + 4 * j)).isSome = true) →
    Reaches (.regRead a n env) s (fun d =>
      d.glb.berrAddr = BitVec.ofNat 32 (a + 4 * k) ∧ d.glb.berrCount = s.dev.glb.berrCount + 1 ∧ Output.event 0x0101 0 ∈ d.out ∧
      replied (.regRead a n) { status := 0x0106, body := toBe 4 (a + 4 * k) } s.dev.glb.cfgEpoch ∈ d.out))

/-- The configuration operations (01 R10, 16 R475; 02 to 14, 16): each that passes its checks, in its turn, commits what it names and leaves the rest of its group as it
was, under the next epoch. GCL_SET waits for its SWITCH_TIME; SOLSTICE_SET keeps its time, or cancels with 0; PSFP_UNBLOCK unblocks its stream; CONFIG_LOAD commits the
blob of its slot and makes the slot GOOD. One that comes while another is on its way waits its turn; one of which the partner has not said a word waits for it, and one that
the partner refuses ends with its status (14 R434). PORT_ENABLE off without FORCE on a port with an Assured stream is answered 0x0202 (02 R64). -/
def Obligations.ConfigOperations : Prop :=
  (∀ (s : State) (env : ExecEnv) (p : Nat) (x : PortCfg), Commits (.portConfig p x env) (.portConfig p x) env s (fun c =>
    let o := cfgPort s.dev.cfg p
    cfgPort c p = { x with
      configured := true, enabled := o.enabled, preempt := o.preempt, holdAdvanceNs := o.holdAdvanceNs, idleSlope := o.idleSlope, ptp := o.ptp, springClear := o.springClear } ∧ ∀ q, q ≠ p → cfgPort c q = cfgPort s.dev.cfg q)) ∧
  (∀ (s : State) (env : ExecEnv) (p : Nat) (on force : Bool), Commits (.portEnable p on force env) (.portEnable p on force) env s (fun c =>
    cfgPort c p = { cfgPort s.dev.cfg p with enabled := on } ∧ ∀ q, q ≠ p → cfgPort c q = cfgPort s.dev.cfg q)) ∧
  (∀ (s : State) (env : ExecEnv) (p : Nat), Up s → ncpRuns s.dev = true → stateRes true (.portEnable p false false) s.dev = none → p ≤ 37 → InTurn s →
    assuredOn s.dev.cfg p = true →
    Reaches (.portEnable p false false env) s (fun d =>
      plainReply none false { status := 0x0202, acc := false, epoch := s.dev.glb.cfgEpoch, opcode := 0x0202 } none ∈ d.out ∧ JournalOnly s d)) ∧
  (∀ (s : State) (env : ExecEnv) (h : Nat) (x : StreamCfg), Commits (.streamSet h x env) (.streamSet h x) env s (fun c =>
    lookup? c.sch.streams h = some x ∧ (∀ k, k ≠ h → lookup? c.sch.streams k = lookup? s.dev.cfg.sch.streams k) ∧ c.sch.lists = s.dev.cfg.sch.lists)) ∧
  (∀ (s : State) (env : ExecEnv) (h : Nat), Commits (.streamRemove h env) (.streamRemove h) env s (fun c =>
    c.sch.streams = removeAt s.dev.cfg.sch.streams h ∧ c.sch.lists = s.dev.cfg.sch.lists)) ∧
  (∀ (s : State) (env : ExecEnv) (p : Nat) (slopes : List Nat) (pre : Preempt) (hold : Nat),
    Commits (.shaperSet p slopes pre hold env) (.shaperSet p slopes pre hold) env s (fun c =>
      cfgPort c p = { cfgPort s.dev.cfg p with idleSlope := slopes, preempt := pre, holdAdvanceNs := hold } ∧ ∀ q, q ≠ p → cfgPort c q = cfgPort s.dev.cfg q)) ∧
  (∀ (s : State) (env : ExecEnv) (m : Tbl Nat) (hi cp : Nat) (zones : Tbl ZoneCfg), Commits (.zoneSet m hi cp zones env) (.zoneSet m hi cp zones) env s (fun c =>
    c.fwl = { s.dev.cfg.fwl with zoneMap := m, zoneHi := hi, zoneCp := cp, zones := zones })) ∧
  (∀ (s : State) (env : ExecEnv) (bank : RuleBank) (r : Bool), Commits (.rulesLoad bank r env) (.rulesLoad bank r) env s (fun c =>
    c.fwl = { s.dev.cfg.fwl with bank := bank })) ∧
  (∀ (s : State) (env : ExecEnv) (n : Nat) (x : Profile), Commits (.profileSet n x env) (.profileSet n x) env s (fun c =>
    lookup? c.fwl.profiles n = some x ∧ (∀ k, k ≠ n → lookup? c.fwl.profiles k = lookup? s.dev.cfg.fwl.profiles k) ∧ c.fwl.bank = s.dev.cfg.fwl.bank)) ∧
  (∀ (s : State) (env : ExecEnv) (g : GwyCfg), Commits (.gwConfig g env) (.gwConfig g) env s (fun c =>
    c.gw = { g with loaded := s.dev.cfg.gw.loaded, mac := s.dev.cfg.gw.mac })) ∧
  (∀ (s : State) (env : ExecEnv) (n : Nat) (x : CanCfg), Commits (.canConfig n x env) (.canConfig n x) env s (fun c =>
    canCfg c n = x ∧ ∀ m, m ≠ n → canCfg c m = canCfg s.dev.cfg m)) ∧
  (∀ (s : State) (env : ExecEnv) (n : Nat) (x : MvbCfg), Commits (.mvbConfig n x env) (.mvbConfig n x) env s (fun c =>
    mvbCfg c n = x ∧ ∀ m, m ≠ n → mvbCfg c m = mvbCfg s.dev.cfg m)) ∧
  (∀ (s : State) (env : ExecEnv) (t : TimCfg) (ports : Tbl PtpPort), Commits (.timeConfig t ports env) (.timeConfig t ports) env s (fun c =>
    c.tim = t ∧ (∀ x ∈ ports, ports = [x] → (cfgPort c x.1).ptp = x.2) ∧ ∀ q, (∀ x ∈ ports, x.1 ≠ q) → cfgPort c q = cfgPort s.dev.cfg q)) ∧
  (∀ (s : State) (env : ExecEnv) (x : SsnCfg), Commits (.seasonsConfig x env) (.seasonsConfig x) env s (fun c => c = { s.dev.cfg with ssn := x })) ∧
  (∀ (s : State) (env : ExecEnv) (x : PairCfg), Commits (.pairConfig x env) (.pairConfig x) env s (fun c => c = { s.dev.cfg with pair := x })) ∧
  (∀ (s : State) (env : ExecEnv) (m : MscCfg), Commits (.secySet m env) (.secySet m) env s (fun c => c = { s.dev.cfg with msc := m })) ∧
  (∀ (s : State) (env : ExecEnv) (h : Nat), Passes (.psfpUnblock h) env s → InTurn s → CommitsNow env s →
    Reaches (.psfpUnblock h env) s (fun d =>
      (lookupD d.sch.streams h {}).blocked = false ∧ d.cfg = s.dev.cfg ∧ d.glb.cfgEpoch = s.dev.glb.cfgEpoch + 1 ∧ Output.event 0x0103 0 ∈ d.out ∧
      replied (.psfpUnblock h) {} (s.dev.glb.cfgEpoch + 1) ∈ d.out)) ∧
  (∀ (s : State) (env : ExecEnv) (lists : Tbl Gcl) (sec ns : Nat), Passes (.gclSet lists sec ns) env s → InTurn s → CommitsNow env s →
    Reaches (.gclSet lists sec ns env) s (fun d =>
      (d.switching.map (fun x => (x.sec, x.ns, x.cfg))) =
        some (sec, ns, { s.dev.cfg with sch := { s.dev.cfg.sch with lists := lists.foldl (fun t x => insertAt t x.1 x.2) s.dev.cfg.sch.lists } }) ∧
      d.cfg = s.dev.cfg ∧ d.glb.cfgEpoch = s.dev.glb.cfgEpoch ∧ replied (.gclSet lists sec ns) {} s.dev.glb.cfgEpoch ∈ d.out)) ∧
  (∀ (s : State) (env : ExecEnv) (sec ns : Nat), Passes (.solsticeSet sec ns) env s → InTurn s → CommitsNow env s →
    Reaches (.solsticeSet sec ns env) s (fun d =>
      d.boot.solstice = (if sec = 0 ∧ ns = 0 then none else some (sec, ns)) ∧ d.cfg = s.dev.cfg ∧ d.glb.cfgEpoch = s.dev.glb.cfgEpoch + 1 ∧
      replied (.solsticeSet sec ns) {} (s.dev.glb.cfgEpoch + 1) ∈ d.out)) ∧
  (∀ (s : State) (env : ExecEnv) (b : Bool) (i : Image) (c : Cfg), Passes (.configLoad b) env s → InTurn s → CommitsNow env s →
    (slotAtB (imageKind s.dev 4) b).image = some i → i.content = .blob c →
    Reaches (.configLoad b env) s (fun d =>
      d.cfg = c ∧ d.ssn.blobDone = true ∧ d.glb.deviceId = devIdOf i ∧ d.glb.cfgEpoch = s.dev.glb.cfgEpoch + 1 ∧ Output.event 0x0103 0 ∈ d.out ∧
      (imageKind d 4).ptrB = b ∧ (slotAtB (imageKind d 4) b) = { slotAtB (imageKind s.dev 4) b with state := .good } ∧
      replied (.configLoad b) {} (s.dev.glb.cfgEpoch + 1) ∈ d.out)) ∧
  (∀ (s : State) (env : ExecEnv) (h : Nat), Up s → ncpRuns s.dev = true → ¬ InTurn s →
    Gives (.psfpUnblock h env) s { s.dev with ncp := { s.dev.ncp with
      arrivals := s.dev.ncp.arrivals + 1,
      rowQueue := s.dev.ncp.rowQueue ++ [(s.dev.ncp.arrivals + 1, .psfpUnblock h, env.via, env.partner)] } }) ∧
  (∀ (s : State) (env : ExecEnv) (h : Nat), Passes (.psfpUnblock h) env s → InTurn s → exchanges s.dev = true → env.partner = .waiting →
    Reaches (.psfpUnblock h env) s (fun d =>
      d.ncp.waitCommit = some (.psfpUnblock h, none) ∧ d.pair.exchange = some (s.dev.now + s.dev.cfg.pair.commitWaitMs * 1000000000) ∧ d.sch = s.dev.sch ∧
      d.cfg = s.dev.cfg ∧ d.glb.cfgEpoch = s.dev.glb.cfgEpoch)) ∧
  (∀ (s : State) (env : ExecEnv) (h : Nat) (st rs : BitVec 16), Passes (.psfpUnblock h) env s → InTurn s → exchanges s.dev = true → env.partner = .refused st rs →
    Reaches (.psfpUnblock h env) s (fun d =>
      replied (.psfpUnblock h) { status := st, reason := rs, body := [if position s.dev then 0 else 1] } s.dev.glb.cfgEpoch ∈ d.out ∧
      d.sch = s.dev.sch ∧ d.cfg = s.dev.cfg ∧ d.glb.cfgEpoch = s.dev.glb.cfgEpoch))

/-- The actions of units (02 R54, 04 R117, 10 R321, 12 R373, 13 R385, R396, R397, 14 R425, R431, 16 R469, R476, 20 R560, 21 R586, R589, R596): each that passes its checks has its
effect and its reply. A message of GW_SEND is taken into the gateway's queue, here held there by back-pressure: to a bus it is answered ACCEPTED, by TRDP it is done. A
RESTORE is answered when its test ends. SYS_RESET has no reply here: a warm one keeps its record for the replay. -/
def Obligations.ActionOperations : Prop :=
  (∀ (s : State) (env : ExecEnv) (g b p : Nat), Passes (.lgRebalance g [(b, p)]) env s →
    lookup? (lgTable s.dev s.dev.cfg g) b ≠ some p → lookup? s.dev.fwd.moves (g * 256 + b) = none →
    Reaches (.lgRebalance g [(b, p)] env) s (fun d =>
      lookup? d.fwd.moves (g * 256 + b) = some (p, s.dev.now) ∧ (∀ k, k ≠ g * 256 + b → lookup? d.fwd.moves k = lookup? s.dev.fwd.moves k) ∧
      replied (.lgRebalance g [(b, p)]) {} s.dev.glb.cfgEpoch ∈ d.out ∧ d.cfg = s.dev.cfg ∧ d.buf = s.dev.buf)) ∧
  (∀ (s : State) (env : ExecEnv) (g b p : Nat), Passes (.lgRebalance g [(b, p)]) env s → lookup? (lgTable s.dev s.dev.cfg g) b = some p →
    Reaches (.lgRebalance g [(b, p)] env) s (fun d =>
      d.fwd.moves = removeAt s.dev.fwd.moves (g * 256 + b) ∧ replied (.lgRebalance g [(b, p)]) {} s.dev.glb.cfgEpoch ∈ d.out ∧ d.cfg = s.dev.cfg)) ∧
  (∀ (s : State) (env : ExecEnv) (sec ns : Nat), Passes (.clockStep sec ns) env s → sec < 281474976710656 →
    Reaches (.clockStep sec ns env) s (fun d =>
      d.tim.sec = BitVec.ofNat 48 sec ∧ d.tim.ns = BitVec.ofNat 30 ns ∧ d.tim.frac = 0 ∧ d.tim.step = s.dev.tim.step + 1 ∧ Output.event 0x0402 0 ∈ d.out ∧
      replied (.clockStep sec ns) {} s.dev.glb.cfgEpoch ∈ d.out)) ∧
  (∀ (s : State) (env : ExecEnv) (n : Nat), Passes (.canRecover n) env s → (canSt s.dev n).busOff = true →
    Reaches (.canRecover n env) s (fun d =>
      canSt d n = { canSt s.dev n with recovering := true } ∧ (∀ m, m ≠ n → canSt d m = canSt s.dev m) ∧
      replied (.canRecover n) {} s.dev.glb.cfgEpoch ∈ d.out ∧
      d = { s.dev with can := d.can, ncp := d.ncp, ctr := d.ctr, wy := d.wy, freeCtr := d.freeCtr, out := d.out })) ∧
  (∀ (s : State) (env : ExecEnv) (n dl : Nat) (payload : Bytes) (w : Bool) (o : GwOutput), Passes (.gwSend n payload dl w) env s →
    lookup? s.dev.cfg.gw.outputs n = some o → o.eth = false → gwEmits s.dev = true → destOff o s.dev = false → o.dstPort ≠ 36 → s.dev.gw.queue = [] →
    (allotOf s.dev (gwAllot s.dev 36)).exhausted = true →
    Reaches (.gwSend n payload dl w env) s (fun d =>
      d.gw.queue = [(36, gwFrame s.dev.cfg.gw.mac 0 36 o.dstPort n (.ncp 4 0) 0 (ts32 s.dev).toNat dl payload)] ∧
      counter (0x5C4000 + n * 0x20) d = counter (0x5C4000 + n * 0x20) s.dev + 1 ∧
      replied (.gwSend n payload dl w) { status := 1 } s.dev.glb.cfgEpoch ∈ d.out)) ∧
  (∀ (s : State) (env : ExecEnv) (n dl : Nat) (payload : Bytes) (w : Bool) (o : GwOutput), Passes (.gwSend n payload dl w) env s →
    lookup? s.dev.cfg.gw.outputs n = some o → isPublication o = true → ((gwOut s.dev n).seq - (gwOut s.dev n).m).toNat < 512 → gwEmits s.dev = true →
    s.dev.gw.queue = [] → (allotOf s.dev (gwAllot s.dev 36)).exhausted = true →
    Reaches (.gwSend n payload dl w env) s (fun d =>
      d.gw.queue = [(36, trdpFrame s.dev.cfg.gw.mac o (BitVec.ofNat 32 o.ident) (gwOut s.dev n).seq s.dev.top.count payload)] ∧
      (gwOut d n).seq = (gwOut s.dev n).seq + 1 ∧ replied (.gwSend n payload dl w) { status := if w then 0 else 1 } s.dev.glb.cfgEpoch ∈ d.out)) ∧
  (∀ (s : State) (env : ExecEnv) (n dl : Nat) (payload : Bytes) (w : Bool) (o : GwOutput), Passes (.gwSend n payload dl w) env s →
    lookup? s.dev.cfg.gw.outputs n = some o → gwEmits s.dev = false →
    OnlyReplies (.gwSend n payload dl w env) (.gwSend n payload dl w) { status := 0x0208 } s) ∧
  (∀ (s : State) (env : ExecEnv) (on : Bool), Passes (.sleepReady on) env s → s.dev.ssn.fallback = false →
    Reaches (.sleepReady on env) s (fun d =>
      d.ssn.sleepReady = on ∧ d.ssn.consent = s.dev.ssn.consent ∧ replied (.sleepReady on) {} s.dev.glb.cfgEpoch ∈ d.out ∧
      d = { s.dev with ssn := d.ssn, ncp := d.ncp, ctr := d.ctr, wy := d.wy, freeCtr := d.freeCtr, out := d.out })) ∧
  (∀ (s : State) (env : ExecEnv), Passes (.sleepReady true) env s → s.dev.ssn.fallback = true → s.dev.ssn.consent = none → s.dev.glb.deviceId.isSome = true →
    s.dev.ssn.season = .summer → s.dev.ssn.leaving = none → isReady { s.dev with ssn := { s.dev.ssn with sleepReady := true } } = true →
    Reaches (.sleepReady true env) s (fun d =>
      d.ssn.sleepReady = true ∧ d.ssn.consent = some s.dev.now ∧ replied (.sleepReady true) {} s.dev.glb.cfgEpoch ∈ d.out)) ∧
  (∀ (s : State) (env : ExecEnv), Passes .wakeRequest env s → s.dev.ssn.season = .summer → s.dev.ssn.leaving = none → s.dev.ssn.consent = none →
    Reaches (.wakeRequest env) s (fun d =>
      d.ssn.sleepReady = false ∧ d.ssn.wakeSource = 4 ∧ d.ssn.season = .summer ∧ replied .wakeRequest {} s.dev.glb.cfgEpoch ∈ d.out ∧ d.buf = s.dev.buf ∧
      d.cfg = s.dev.cfg)) ∧
  (∀ (s : State) (env : ExecEnv), Passes .switchover env s → s.dev.asd.journal = [] →
    Reaches (.switchover env) s (fun d =>
      d.pair.role = .standbySyncing ∧ d.pair.armed = false ∧ d.asd.replicating = false ∧ Output.event 0x0E02 0 ∈ d.out ∧
      (ChannelRoom 1 s → Output.wyusin 1 .yield_ s.dev.pair.epoch.toNat 0 ∈ d.out) ∧ replied .switchover {} s.dev.glb.cfgEpoch ∈ d.out)) ∧
  (∀ (s : State) (env : ExecEnv), Passes .compareResume env s →
    Reaches (.compareResume env) s (fun d =>
      d.pair = { s.dev.pair with suspended := false, unresolved := [] } ∧ replied .compareResume {} s.dev.glb.cfgEpoch ∈ d.out ∧
      d = { s.dev with pair := d.pair, ncp := d.ncp, ctr := d.ctr, wy := d.wy, freeCtr := d.freeCtr, out := d.out })) ∧
  (∀ (s : State) (env : ExecEnv) (n : Nat), Passes (.lateRingAck n) env s →
    Reaches (.lateRingAck n env) s (fun d =>
      d.flt = { s.dev.flt with late := s.dev.flt.late.drop n } ∧ replied (.lateRingAck n) {} s.dev.glb.cfgEpoch ∈ d.out ∧
      d = { s.dev with flt := d.flt, ncp := d.ncp, ctr := d.ctr, wy := d.wy, freeCtr := d.freeCtr, out := d.out })) ∧
  (∀ (s : State) (env : ExecEnv) (ix : Nat), Passes (.restore ix) env s → (ledgerOf s.dev ix).state = .retired → (ix = 152 → s.dev.sec.tampered = false) →
    Reaches (.restore ix env) s (fun d =>
      ledgerOf d ix = { ledgerOf s.dev ix with state := .testing, faulted := false } ∧
      d.ncp.pend = s.dev.ncp.pend ++ [{ who := none, kind := .restore ix }] ∧ d.cfg = s.dev.cfg ∧ (s.dev.asd.replicating = false → d.out = s.dev.out))) ∧
  (∀ (s : State) (env : ExecEnv) (ix : Nat), Passes (.restore ix) env s →
    ((ledgerOf s.dev ix).state = .inService → OnlyReplies (.restore ix env) (.restore ix) {} s) ∧
    ((ledgerOf s.dev ix).state = .testing → OnlyReplies (.restore ix env) (.restore ix) { status := 0x0206 } s)) ∧
  (∀ (s : State) (env : ExecEnv) (n : Nat), Passes (.funcReset (.can n)) env s → n < 8 → (canCfg s.dev.cfg n).enabled = false → s.dev.gw.entries = [] →
    waitList s.dev n = [] →
    Reaches (.funcReset (.can n) env) s (fun d =>
      canSt d n = { retired := (canSt s.dev n).retired } ∧ (∀ m, m ≠ n → canSt d m = canSt s.dev m) ∧
      replied (.funcReset (.can n)) {} s.dev.glb.cfgEpoch ∈ d.out ∧ d.buf = s.dev.buf)) ∧
  (∀ (s : State) (env : ExecEnv) (n : Nat), Passes (.funcReset (.mvb n)) env s → n < 2 → (mvbCfg s.dev.cfg n).enabled = false → s.dev.gw.pages = [] →
    Reaches (.funcReset (.mvb n) env) s (fun d =>
      mvbSt d n = { retired := (mvbSt s.dev n).retired } ∧ (∀ m, m ≠ n → mvbSt d m = mvbSt s.dev m) ∧
      replied (.funcReset (.mvb n)) {} s.dev.glb.cfgEpoch ∈ d.out ∧ d.buf = s.dev.buf)) ∧
  (∀ (s : State) (env : ExecEnv), Passes (.funcReset .gateway) env s → s.dev.cfg.gw.loaded = false →
    Reaches (.funcReset .gateway env) s (fun d =>
      d.gw = { stopped := s.dev.gw.stopped, made := s.dev.gw.made } ∧ replied (.funcReset .gateway) {} s.dev.glb.cfgEpoch ∈ d.out ∧ d.cfg = s.dev.cfg)) ∧
  (∀ (s : State) (env : ExecEnv), Passes (.funcReset .topology) env s → s.dev.cfg.top.configured = false →
    Reaches (.funcReset .topology env) s (fun d =>
      d.top = { since := s.dev.now, lastRefresh := s.dev.now } ∧ replied (.funcReset .topology) {} s.dev.glb.cfgEpoch ∈ d.out ∧ d.cfg = s.dev.cfg)) ∧
  (∀ (s : State) (env : ExecEnv), Passes (.funcReset .host) env s →
    Reaches (.funcReset .host env) s (fun d =>
      d.hif = { linkUp := s.dev.hif.linkUp, speed := s.dev.hif.speed, width := s.dev.hif.width, bme := s.dev.hif.bme } ∧
      replied (.funcReset .host) {} s.dev.glb.cfgEpoch ∈ d.out ∧ d.buf = s.dev.buf ∧ d.cfg = s.dev.cfg)) ∧
  (∀ (s : State) (env : ExecEnv), Passes (.funcReset .splitCore) env s → s.dev.ccr.split = true →
    Reaches (.funcReset .splitCore env) s (fun d =>
      d.ccr = { s.dev.ccr with core1 := {}, splitStopped := false } ∧ replied (.funcReset .splitCore) {} s.dev.glb.cfgEpoch ∈ d.out)) ∧
  (∀ (s : State) (env : ExecEnv) (b : FuncBlock), Passes (.funcReset b) env s →
    (match b with | .other _ => true | .can k => decide (8 ≤ k) | .mvb k => decide (2 ≤ k) | .splitCore => !s.dev.ccr.split | _ => false) = true →
    OnlyReplies (.funcReset b env) (.funcReset b) { status := 0x0105, reason := 0x0120 } s) ∧
  (∀ (s : State) (env : ExecEnv), Passes (.sysReset true) env s →
    Reaches (.sysReset true env) s (fun d =>
      d.ssn.season = .off ∧ d.boot.coldCause = 2 ∧ d.cfg = {} ∧ d.buf = {} ∧ d.ncp = {} ∧ d.keeper = s.dev.keeper ∧ d.flash = s.dev.flash ∧ d.otp = s.dev.otp)) ∧
  (∀ (s : State) (env : ExecEnv), Passes (.sysReset false) env s →
    Gives (.sysReset false env) s (warmRom env.rom (warmBegin .command
      (newRecord none .exec 0 true (ncpCtr 0 (newRecord none (.command (commandPacket 0 0 (.sysReset false))) 0 true s.dev))))))

/-- Keys, updates and register writes (16 R478, 19 R546, R548, 20 R564 to R566, 21 R594). An installed slot is WRITTEN with event 0x1205, an erased one FREE with 0x1206; after
a tamper an erase is refused. A block joins the update, whose first block raises 0x1301; one of another KIND, or that differs from a byte received, is refused and changes
nothing. UPDATE_VERIFY names the first missing byte; a whole package goes to the free slot and is STAGED when its image passes, with 0x1302, else the free slot is
EMPTY. UPDATE_ABORT closes the update. REG_WRITE writes one register; MIRROR without a partner leaves a late error record. -/
def Obligations.KeyUpdateAndRegisterOperations : Prop :=
  (∀ (s : State) (env : ExecEnv) (b : KeyBlob) (n : Nat) (desc : SlotDesc), Passes (.keyInstall b) env s → s.dev.ncp.pend = [] →
    s.dev.msc.entropyDone = true → secRefusal s.dev = none → b.body = .slot n desc → 0 < n → n < 64 → descOk desc = true → lookup? s.dev.sec.slots n = none →
    wrapCheck (masterOf env.via) b s.dev = none → desc.persist = false →
    Reaches (.keyInstall b env) s (fun d =>
      lookup? d.sec.slots n = some { st := .written, desc := desc, key := b.key, bound := bindNow s.dev desc.bind } ∧
      (∀ m, m ≠ n → lookup? d.sec.slots m = lookup? s.dev.sec.slots m) ∧ Output.event 0x1205 n ∈ d.out ∧ (sqOf sqSEC d).bits.getLsbD 4 = true ∧
      replied (.keyInstall b) {} s.dev.glb.cfgEpoch ∈ d.out ∧ d.keyTable = s.dev.keyTable)) ∧
  (∀ (s : State) (env : ExecEnv) (b : KeyBlob) (r : Res), Passes (.keyInstall b) env s → s.dev.ncp.pend = [] → (s.dev.msc.entropyDone = true ∨ s.dev.sec.tampered = true) →
    secRefusal s.dev = some r → OnlyReplies (.keyInstall b env) (.keyInstall b) r s) ∧
  (∀ (s : State) (env : ExecEnv) (n : Nat) (x : KeySlot), Passes (.keyErase (.slot n)) env s → s.dev.ncp.pend = [] → s.dev.sec.tampered = false →
    s.dev.ccr.gaiStopped = false → 0 < n → n < 64 → lookup? s.dev.sec.slots n = some x → x.st = .written → s.dev.ports = [] → s.dev.buf.frames = [] →
    s.dev.ncp.sessions = [] →
    Reaches (.keyErase (.slot n) env) s (fun d =>
      lookup? d.sec.slots n = none ∧ (∀ m, m ≠ n → lookup? d.sec.slots m = lookup? s.dev.sec.slots m) ∧ (∀ r ∈ d.keyTable, r.slot = n → r.retired = true) ∧
      Output.event 0x1206 n ∈ d.out ∧ replied (.keyErase (.slot n)) { body := toBe 4 0 } s.dev.glb.cfgEpoch ∈ d.out)) ∧
  (∀ (s : State) (env : ExecEnv) (t : KeyTarget), Passes (.keyErase t) env s → s.dev.sec.tampered = true → s.dev.ncp.pend = [] →
    OnlyReplies (.keyErase t env) (.keyErase t) { status := 0x0404, reason := 0x1231 } s) ∧
  (∀ (s : State) (env : ExecEnv) (off : Nat) (data : Bytes) (u : Update), Passes (.updateBlock false off data) env s → s.dev.boot.update.getD {} = u →
    (s.dev.boot.update = none → s.dev.boot.recovery = false → s.dev.boot.solstice = none ∧ anyTrial s.dev = false) → 1 ≤ data.length → data.length ≤ 1984 →
    otherKind u off data = false → conflicts u off data = false → off + data.length ≤ maxPackage →
    (∀ n, pkgLength (addBlock u off data) = some n → off + data.length ≤ n) →
    Reaches (.updateBlock false off data env) s (fun d =>
      d.boot.update = some (addBlock u off data) ∧
      (s.dev.boot.update = none → Output.event 0x1301 0 ∈ d.out ∧ (sqOf sqBOOT d).bits.getLsbD 0 = true) ∧
      replied (.updateBlock false off data) {} s.dev.glb.cfgEpoch ∈ d.out ∧ d.flash = s.dev.flash)) ∧
  (∀ (s : State) (env : ExecEnv) (off : Nat) (data : Bytes) (u : Update), Passes (.updateBlock false off data) env s → s.dev.boot.update = some u →
    1 ≤ data.length → data.length ≤ 1984 → (otherKind u off data = true ∨ conflicts u off data = true) →
    OnlyReplies (.updateBlock false off data env) (.updateBlock false off data)
      { status := 0x0105, reason := if otherKind u off data then 0x1323 else 0x1328 } s) ∧
  (∀ (s : State) (env : ExecEnv) (off : Nat) (data : Bytes), Passes (.updateBlock true off data) env s →
    ((s.dev.pair.role = .active ∧ s.dev.pair.partnerReady = true ∧ s.dev.pair.wyUp = true → OnlyReplies (.updateBlock true off data env) (.updateBlock true off data) env.update s) ∧
    ((s.dev.pair.role ≠ .active ∨ s.dev.pair.partnerReady = false ∨ s.dev.pair.wyUp = false) →
      OnlyReplies (.updateBlock true off data env) (.updateBlock true off data) { status := 0x0209 } s))) ∧
  (∀ (s : State) (env : ExecEnv) (u : Update) (i : Nat), Passes .updateVerify env s → s.dev.boot.update.getD {} = u →
    firstMissing u ((pkgLength u).getD 64) 0 = some i →
    OnlyReplies (.updateVerify env) .updateVerify { status := 0x0105, reason := 0x1321, body := toBe 4 i } s) ∧
  (∀ (s : State) (env : ExecEnv) (u : Update) (pkg b : Bytes) (k : Nat) (base : Option Bytes) (img : Image), Passes .updateVerify env s → s.dev.boot.update = some u →
    s.dev.boot.recovery = false → pkgLength u = some pkg.length → firstMissing u pkg.length 0 = none → updBytes u 0 pkg.length = pkg →
    k = beAt pkg 4 1 - 1 → base = (pointed (imageKind s.dev k)).image.map (·.bytes) → headerOk pkg = true →
    (isFullPkg pkg = true ∨ base.map (fun b => (Config.sha256 b).toNat) = some (beAt pkg 20 32)) → rebuild base pkg = some b →
    img = { bytes := b, digestOk := env.verify.digestOk, sigOk := env.verify.sigOk, signer := env.verify.signer, content := env.verify.content } →
    env.verify.flashOk = true → checkImage k img s.dev = none →
    Reaches (.updateVerify env) s (fun d =>
      freeSlot (imageKind d k) = { state := .staged, image := some img } ∧ (imageKind d k).ptrB = (imageKind s.dev k).ptrB ∧
      pointed (imageKind d k) = pointed (imageKind s.dev k) ∧ (∀ j, j ≠ k → imageKind d j = imageKind s.dev j) ∧ d.boot.update = none ∧
      Output.event 0x1302 k ∈ d.out ∧ (sqOf sqBOOT d).bits.getLsbD 1 = true ∧ replied .updateVerify {} s.dev.glb.cfgEpoch ∈ d.out)) ∧
  (∀ (s : State) (env : ExecEnv) (u : Update) (pkg b : Bytes) (k : Nat) (base : Option Bytes) (img : Image) (e : ImgErr), Passes .updateVerify env s →
    s.dev.boot.update = some u → s.dev.boot.recovery = false → pkgLength u = some pkg.length → firstMissing u pkg.length 0 = none →
    updBytes u 0 pkg.length = pkg → k = beAt pkg 4 1 - 1 → base = (pointed (imageKind s.dev k)).image.map (·.bytes) → headerOk pkg = true →
    (isFullPkg pkg = true ∨ base.map (fun b => (Config.sha256 b).toNat) = some (beAt pkg 20 32)) → rebuild base pkg = some b →
    img = { bytes := b, digestOk := env.verify.digestOk, sigOk := env.verify.sigOk, signer := env.verify.signer, content := env.verify.content } →
    env.verify.flashOk = true → checkImage k img s.dev = some e →
    Reaches (.updateVerify env) s (fun d =>
      freeSlot (imageKind d k) = {} ∧ pointed (imageKind d k) = pointed (imageKind s.dev k) ∧ replied .updateVerify (imgErrRes e) s.dev.glb.cfgEpoch ∈ d.out)) ∧
  (∀ (s : State) (env : ExecEnv), Passes .updateAbort env s →
    Reaches (.updateAbort env) s (fun d =>
      d.boot.update = none ∧ d.cfg = s.dev.cfg ∧ replied .updateAbort {} s.dev.glb.cfgEpoch ∈ d.out)) ∧
  (∀ (s : State) (env : ExecEnv) (v : Word), Passes (.regWrite 0x200 v false) env s →
    Reaches (.regWrite 0x200 v false env) s (fun d =>
      d.glb = { s.dev.glb with scratch := v } ∧ replied (.regWrite 0x200 v false) {} s.dev.glb.cfgEpoch ∈ d.out ∧
      d = { s.dev with glb := d.glb, ncp := d.ncp, ctr := d.ctr, wy := d.wy, freeCtr := d.freeCtr, out := d.out })) ∧
  (∀ (s : State) (env : ExecEnv) (v : Word), Passes (.regWrite 0x200 v true) env s → (s.dev.asd.replicating = false ∨ s.dev.pair.wyUp = false) →
    s.dev.flt.late.length < 256 →
    Reaches (.regWrite 0x200 v true env) s (fun d =>
      d.glb.scratch = v ∧ d.flt.late = s.dev.flt.late ++ [{ reason := 0x1022, origin := 1, who := 4, ref := 0, ts := ts32 s.dev, epoch := s.dev.glb.cfgEpoch }] ∧
      replied (.regWrite 0x200 v true) { status := 1 } s.dev.glb.cfgEpoch ∈ d.out)) ∧
  (∀ (s : State) (env : ExecEnv) (a : Nat) (v : Word) (m : Bool), Passes (.regWrite a v m) env s → (a % 4 ≠ 0 ∨ (readReg s.dev a).isNone = true) →
    Reaches (.regWrite a v m env) s (fun d =>
      d.glb.berrAddr = BitVec.ofNat 32 a ∧ Output.event 0x0101 0 ∈ d.out ∧
      replied (.regWrite a v m) { status := 0x0106, body := toBe 4 a } s.dev.glb.cfgEpoch ∈ d.out ∧ d.glb.scratch = s.dev.glb.scratch ∧ d.cfg = s.dev.cfg))
/-! ### Host interface and registers (17, 18) -/

/-- Rings and channels (R488, R489, R491, R492, R494, R496, R501 to R505). A doorbell that fits its ring is taken, another ignored with event 0x1106. START, STOP, RESUME and
SKIP act as Table HIF-5 says on the channels the write names; on one that is not STALLED, RESUME and SKIP are ignored with 0x1106. An invalidation removes what its scope
names. A fetched frame enters on port HI and its descriptor is done; one with a reserved bit or a bad length is done with RESULT 2 and 0x1107; a space in mode 0 faults
and stalls the channel. A received frame is written whole, with its words. A completion error is tried again, and stalls at RETRY_MAX. FLR, PERST and a link change set
the block; a delayed vector fires. -/
def Obligations.HostRings : Prop :=
  (∀ (s : State) (q pi : Nat), BusUp s → q < 64 → pi < 4096 →
    passesCi (hifPage s.dev q).txSize (hifPage s.dev q).txPi (hifPage s.dev q).txCi pi = false →
    Gives (.txDoorbell q pi) s (setPage q { hifPage s.dev q with txPi := pi } s.dev)) ∧
  (∀ (s : State) (q pi : Nat), BusUp s → q < 64 → pi < 4096 →
    passesCi (hifPage s.dev q).txSize (hifPage s.dev q).txPi (hifPage s.dev q).txCi pi = true →
    Reaches (.txDoorbell q pi) s (fun d => d.hif = s.dev.hif ∧ Output.event 0x1106 q ∈ d.out ∧ (sqOf sqHIF d).bits.getLsbD 5 = true)) ∧
  (∀ (s : State) (q pi : Nat), BusUp s → q < 64 → pi < 4096 →
    passesCi (hifPage s.dev q).rxSize (hifPage s.dev q).rxPi (hifPage s.dev q).rxCi pi = false →
    Gives (.rxDoorbell q pi) s (setPage q { hifPage s.dev q with rxPi := pi } s.dev)) ∧
  (∀ (s : State) (q pi : Nat), BusUp s → q < 64 → pi < 4096 →
    passesCi (hifPage s.dev q).rxSize (hifPage s.dev q).rxPi (hifPage s.dev q).rxCi pi = true →
    Reaches (.rxDoorbell q pi) s (fun d => d.hif = s.dev.hif ∧ Output.event 0x1106 q ∈ d.out ∧ (sqOf sqHIF d).bits.getLsbD 5 = true)) ∧
  (∀ (s : State) (q : Nat) (rx : Bool) (v : HostView), BusUp s → q < 64 → ((channel s.dev q rx).st = .disabled ∨ (channel s.dev q rx).st = .stopped) →
    Gives (.queueStart q (!rx) rx v) s (setChannel q rx { st := .running } s.dev)) ∧
  (∀ (s : State) (q : Nat) (rx : Bool) (v : HostView), BusUp s → q < 64 → ((channel s.dev q rx).st = .running ∨ (channel s.dev q rx).st = .stalled) →
    Gives (.queueStart q (!rx) rx v) s s.dev) ∧
  (∀ (s : State) (q : Nat) (v : HostView), BusUp s → 64 ≤ q → q < 68 → (channel s.dev q true).st = .stopped → engineOn s.dev = false →
    Gives (.queueStart q false true v) s (setChannel q true { st := .running } s.dev)) ∧
  (∀ (s : State) (q : Nat) (v : HostView), BusUp s → q < 68 → Gives (.queueStop q false true v) s (setChannel q true { st := .stopped } s.dev)) ∧
  (∀ (s : State) (q : Nat) (v : HostView), BusUp s → q < 64 →
    (engineOn s.dev = false ∨ posted (hifPage s.dev q).txSize (hifPage s.dev q).txPi (hifPage s.dev q).txCi = 0) →
    Gives (.queueStop q true false v) s (setChannel q false { st := .stopped } s.dev)) ∧
  (∀ (s : State) (q : Nat) (v : HostView), BusUp s → q < 64 → engineOn s.dev = true → (lookupD s.dev.hif.spaces q {}).mode = 1 →
    posted (hifPage s.dev q).txSize (hifPage s.dev q).txPi (hifPage s.dev q).txCi = 1 →
    (hifPage s.dev q).txBase.toNat + (hifPage s.dev q).txCi * 32 + 32 ≤ 2 ^ 48 →
    Reaches (.queueStop q true false v) s (fun d =>
      (channel d q false).st = .stopped ∧ Output.txDone q (hifPage s.dev q).txCi (doneWord 1) ∈ d.out ∧
      (hifPage d q).txCi = ((hifPage s.dev q).txCi + 1) % ringLen (hifPage s.dev q).txSize ∧ ∀ r, r ≠ q → hifPage d r = hifPage s.dev r)) ∧
  (∀ (s : State) (q : Nat) (tx rx : Bool) (v : HostView), BusUp s → q < 68 → ((tx = false ∨ 64 ≤ q) ∧ rx = false) →
    Gives (.queueStart q tx rx v) s s.dev ∧ Gives (.queueStop q tx rx v) s s.dev ∧ Gives (.queueResume q tx rx v) s s.dev ∧ Gives (.queueSkip q tx rx v) s s.dev) ∧
  (∀ (s : State) (q : Nat) (v : HostView), BusUp s → q < 64 → (channel s.dev q true).st = .stalled → (channel s.dev q true).stall = some .rxWrite →
    Gives (.queueResume q false true v) s (hifCtr q 7 1 (hifCtr q 5 1 (setChannel q true { st := .running } s.dev)))) ∧
  (∀ (s : State) (q : Nat) (v : HostView), BusUp s → q < 64 → engineOn s.dev = true → (channel s.dev q false).st = .stalled →
    (channel s.dev q false).stall = some .txDd → (lookupD s.dev.hif.spaces q {}).mode = 1 →
    (hifPage s.dev q).txBase.toNat + (hifPage s.dev q).txCi * 32 + 32 ≤ 2 ^ 48 →
    Reaches (.queueResume q true false v) s (fun d =>
      (channel d q false).st = .running ∧ Output.txDone q (hifPage s.dev q).txCi (doneWord (channel s.dev q false).result) ∈ d.out ∧
      (hifPage d q).txCi = ((hifPage s.dev q).txCi + 1) % ringLen (hifPage s.dev q).txSize)) ∧
  (∀ (s : State) (q : Nat) (rx : Bool) (v : HostView), BusUp s → q < 64 → (channel s.dev q rx).st ≠ .stalled →
    Reaches (.queueResume q (!rx) rx v) s (fun d => d.hif = s.dev.hif ∧ Output.event 0x1106 q ∈ d.out ∧ (sqOf sqHIF d).bits.getLsbD 5 = true) ∧
    Reaches (.queueSkip q (!rx) rx v) s (fun d => d.hif = s.dev.hif ∧ Output.event 0x1106 q ∈ d.out ∧ (sqOf sqHIF d).bits.getLsbD 5 = true)) ∧
  (∀ (s : State) (q : Nat) (v : HostView), BusUp s → q < 64 → (channel s.dev q false).st = .stalled → (channel s.dev q false).stall = some .txDd →
    Reaches (.queueSkip q true false v) s (fun d =>
      (channel d q false).st = .running ∧ (hifPage d q).txCi = ((hifPage s.dev q).txCi + 1) % ringLen (hifPage s.dev q).txSize ∧
      (∀ r, r ≠ q → hifPage d r = hifPage s.dev r) ∧ d.out = s.dev.out)) ∧
  (∀ (s : State) (q : Nat) (v : HostView), BusUp s → q < 64 → engineOn s.dev = true → (channel s.dev q false).st = .stalled →
    (channel s.dev q false).stall = some .txData → (lookupD s.dev.hif.spaces q {}).mode = 1 →
    (hifPage s.dev q).txBase.toNat + (hifPage s.dev q).txCi * 32 + 32 ≤ 2 ^ 48 →
    Reaches (.queueSkip q true false v) s (fun d =>
      (channel d q false).st = .running ∧ Output.txDone q (hifPage s.dev q).txCi (doneWord 3) ∈ d.out ∧
      (hifPage d q).txCi = ((hifPage s.dev q).txCi + 1) % ringLen (hifPage s.dev q).txSize)) ∧
  (∀ (s : State) (q : Nat) (v : HostView) (c : Copy) (rest : List Copy), BusUp s → q < 64 → (channel s.dev q true).st = .stalled →
    (channel s.dev q true).stall = some .rxWrite → (queueOf s.dev (304 + q)).copies = c :: rest →
    Reaches (.queueSkip q false true v) s (fun d =>
      (channel d q true).st = .running ∧ (queueOf d (304 + q)).copies = rest ∧ (hifPage d q).rxCi = (hifPage s.dev q).rxCi)) ∧
  (∀ (s : State) (n : Nat) (v : HostView), BusUp s → n < 4 → (channel s.dev (64 + n) true).st = .stalled → (channel s.dev (64 + n) true).stall = some .cmdRead →
    (sessionOf s.dev n).rings.waiting = [] → engineOn s.dev = false →
    Reaches (.queueSkip (64 + n) false true v) s (fun d =>
      (channel d (64 + n) true).st = .running ∧ (sessionOf d n).rings = { (sessionOf s.dev n).rings with cmdCi := ((sessionOf s.dev n).rings.cmdCi + 1) % 256 } ∧
      d.out = s.dev.out)) ∧
  (∀ (s : State) (space : Nat), BusUp s → space < 128 →
    Gives (.invCmd space 3) s { s.dev with hif := { s.dev.hif with tlb := [], invDone := s.dev.hif.invDone + 1 } } ∧
    Gives (.invCmd space 2) s { s.dev with
      hif := { s.dev.hif with tlb := s.dev.hif.tlb.filter (fun t => decide (t.space ≠ space)), invDone := s.dev.hif.invDone + 1 } } ∧
    Gives (.invCmd space 1) s { s.dev with
      hif := { s.dev.hif with
        tlb := s.dev.hif.tlb.filter (fun t => decide (t.space ≠ space) || decide (t.page * 2 ^ t.shift / 2097152 ≠ s.dev.hif.invAddr.toNat / 2097152))
        invDone := s.dev.hif.invDone + 1 } } ∧
    Gives (.invCmd space 0) s { s.dev with
      hif := { s.dev.hif with
        tlb := s.dev.hif.tlb.filter (fun t => decide (t.space ≠ space) || decide (t.page ≠ s.dev.hif.invAddr.toNat / 2 ^ t.shift))
        invDone := s.dev.hif.invDone + 1 } }) ∧
  (∀ (s : State) (heads : Tbl TxDesc) (v : HostView) (q : Nat) (t : TxDesc), Up s → engineOn s.dev = true → pickTx heads s.dev = some q → lookup? heads q = some t →
    (lookupD s.dev.hif.spaces q {}).mode = 1 → t.rsv = false → 60 ≤ t.len → t.len ≤ 9212 → t.addr + t.len ≤ 2 ^ 48 →
    (hifPage s.dev q).txBase.toNat + (hifPage s.dev q).txCi * 32 + 32 ≤ 2 ^ 48 →
    Reaches (.txFrameFetch heads v) s (fun d =>
      let b := padTo t.len (v.data.take t.len)
      Output.txDone q (hifPage s.dev q).txCi (doneWord 0) ∈ d.out ∧ (hifPage d q).txCi = ((hifPage s.dev q).txCi + 1) % ringLen (hifPage s.dev q).txSize ∧
      d.hif.rrTx = q ∧ d.gw.made = s.dev.gw.made + 1 ∧
      d.buf = (injectHost t.tc (if t.tsReq then some t.tsId else none)
        (if t.gw then patch (patch b 17 (toBe 1 (128 + q))) 26 (toBe 4 (hifPage s.dev q).txCi) else b) s.dev).buf)) ∧
  (∀ (s : State) (heads : Tbl TxDesc) (v : HostView) (q : Nat) (t : TxDesc), Up s → engineOn s.dev = true → pickTx heads s.dev = some q → lookup? heads q = some t →
    (lookupD s.dev.hif.spaces q {}).mode = 1 → (t.rsv = true ∨ t.len < 60 ∨ 9212 < t.len) →
    (hifPage s.dev q).txBase.toNat + (hifPage s.dev q).txCi * 32 + 32 ≤ 2 ^ 48 →
    Reaches (.txFrameFetch heads v) s (fun d =>
      Output.txDone q (hifPage s.dev q).txCi (doneWord 2) ∈ d.out ∧ (hifPage d q).txCi = ((hifPage s.dev q).txCi + 1) % ringLen (hifPage s.dev q).txSize ∧
      Output.event 0x1107 q ∈ d.out ∧ (sqOf sqHIF d).bits.getLsbD 6 = true ∧ d.buf = s.dev.buf)) ∧
  (∀ (s : State) (heads : Tbl TxDesc) (v : HostView) (q : Nat), Up s → engineOn s.dev = true → pickTx heads s.dev = some q →
    (lookupD s.dev.hif.spaces q {}).mode = 0 →
    Reaches (.txFrameFetch heads v) s (fun d =>
      channel d q false = { st := .stalled, stall := some .txDesc } ∧ (hifPage d q).txCi = (hifPage s.dev q).txCi ∧ Output.event 0x1101 q ∈ d.out ∧
      (sqOf sqHIF d).bits.getLsbD 0 = true ∧ d.buf = s.dev.buf)) ∧
  (∀ (s : State) (heads : Tbl TxDesc) (v : HostView), Up s → engineOn s.dev = false → Gives (.txFrameFetch heads v) s s.dev ∧ Gives (.rxFrameWrite v) s s.dev) ∧
  (∀ (s : State) (v : HostView) (q i a : Nat) (b : Bytes) (c : Copy) (rest : List Copy) (f : Frame), Up s → engineOn s.dev = true → pickRx s.dev = some q →
    (queueOf s.dev (304 + q)).copies = c :: rest → copyAge s.dev c ≤ limitTicks s.dev.cfg (304 + q) → frameOf s.dev c.frame = some f →
    splitBuffers (v.rx.take (posted (hifPage s.dev q).rxSize (hifPage s.dev q).rxPi (hifPage s.dev q).rxCi)) (hifPage s.dev q).rxCi (hostBytes s.dev f c) =
      some [(i, a, b)] →
    (lookupD s.dev.hif.spaces q {}).mode = 1 → a + b.length ≤ 2 ^ 48 → (hifPage s.dev q).rxBase.toNat + 131072 ≤ 2 ^ 48 →
    (hifPage s.dev q).rxSize ≤ 12 →
    Reaches (.rxFrameWrite v) s (fun d =>
      Output.rxFrame q (hifPage s.dev q).rxCi (hostBytes s.dev f c) [(rxWords f c (hostBytes s.dev f c).length b.length true true).flatMap leWord] ∈ d.out ∧
      (queueOf d (304 + q)).copies = rest ∧ (hifPage d q).rxCi = ((hifPage s.dev q).rxCi + 1) % ringLen (hifPage s.dev q).rxSize ∧ d.hif.rrRx = q)) ∧
  (∀ (s : State) (lane q idx iova : Nat) (walk : Bool) (ref : Word), Up s → lane < 4 → q < 68 → idx < 4096 → isRunning s.dev q false = true →
    (ledgerOf s.dev (26 + lane)).state = .inService → (ledgerOf s.dev (26 + lane)).times = [] → 1 < (ledgerCfg s.dev (26 + lane)).limit →
    (channel s.dev q false).retries < (ledgerCfg s.dev (26 + lane)).retryMax →
    Reaches (.completionError (.read lane q .txData walk idx iova ref)) s (fun d =>
      channel d q false = { channel s.dev q false with retries := (channel s.dev q false).retries + 1 } ∧
      (ledgerOf d (26 + lane)).transients = (ledgerOf s.dev (26 + lane)).transients + 1 ∧ d.out = s.dev.out)) ∧
  (∀ (s : State) (lane q idx iova : Nat) (walk : Bool) (ref : Word), Up s → lane < 4 → q < 68 → idx < 4096 → isRunning s.dev q false = true →
    (ledgerOf s.dev (26 + lane)).state = .inService → (ledgerOf s.dev (26 + lane)).times = [] → 1 < (ledgerCfg s.dev (26 + lane)).limit →
    (ledgerCfg s.dev (26 + lane)).retryMax ≤ (channel s.dev q false).retries →
    Reaches (.completionError (.read lane q .txData walk idx iova ref)) s (fun d =>
      channel d q false = { st := .stalled, stall := some .txData } ∧ Output.event 0x1102 q ∈ d.out ∧ (sqOf sqHIF d).bits.getLsbD 1 = true)) ∧
  (∀ (s : State) (lane q idx iova : Nat) (walk : Bool) (ref : Word), Up s → lane < 4 → q < 68 → idx < 4096 → isRunning s.dev q false = false →
    Gives (.completionError (.read lane q .txData walk idx iova ref)) s s.dev) ∧
  (∀ s : State, Up s →
    Reaches .flr s (fun d => d.hif = { linkUp := s.dev.hif.linkUp, speed := s.dev.hif.speed, width := s.dev.hif.width } ∧ Output.event 0x1104 0 ∈ d.out ∧
      (sqOf sqHIF d).bits = 8 ∧ (∀ x ∈ d.ncp.sessions, x.2.transport ≠ some .pcie) ∧ d.buf = s.dev.buf ∧ d.cfg = s.dev.cfg) ∧
    Reaches .perst s (fun d => d.hif = {} ∧ (sqOf sqHIF d).bits = 0 ∧ (∀ x ∈ d.ncp.sessions, x.2.transport ≠ some .pcie) ∧ d.buf = s.dev.buf ∧
      d.cfg = s.dev.cfg ∧ d.out = s.dev.out)) ∧
  (∀ (s : State) (speed width : Nat) (bme : Bool), Up s → speed < 8 → width ≤ 4 →
    (linkModeOk speed width = true → Reaches (.hifLinkChange true speed width bme) s (fun d =>
      d.hif = { s.dev.hif with linkUp := true, speed := speed, width := width, bme := bme } ∧ Output.event 0x1103 1 ∈ d.out ∧
      (sqOf sqHIF d).bits.getLsbD 2 = true)) ∧
    (linkModeOk speed width = false → Gives (.hifLinkChange true speed width bme) s s.dev) ∧
    Reaches (.hifLinkChange false speed width bme) s (fun d =>
      d.hif.linkUp = false ∧ d.hif.speed = 0 ∧ d.hif.width = 0 ∧ d.hif.bme = false ∧ (∀ q rx, isRunning d q rx = false) ∧ d.hif.tlb = s.dev.hif.tlb ∧
      Output.event 0x1103 0 ∈ d.out)) ∧
  (∀ (s : State) (q t : Nat), Up s → q < 64 → q ∈ s.dev.hif.irqPend → lookup? s.dev.hif.irqLast q = some t →
    t + (hifPage s.dev q).irqDelay * 1000000 ≤ s.dev.now →
    Gives (.irqDelayExpiry q) s { s.dev with
      hif := { s.dev.hif with irqPend := s.dev.hif.irqPend.filter (· ≠ q), irqLast := insertAt s.dev.hif.irqLast q s.dev.now }
      out := s.dev.out ++ [.msix q] }) ∧
  (∀ (s : State) (q : Nat), Up s → q < 64 → (q ∉ s.dev.hif.irqPend ∨ s.dev.now < lookupD s.dev.hif.irqLast q 0 + (hifPage s.dev q).irqDelay * 1000000) →
    Gives (.irqDelayExpiry q) s s.dev)

/-- Registers and the ledger (00 R7, 02 R67, 17 R488, 18 R512 to R522, 21 R581, R582, R584, R585, R596): a whole aligned write of a register takes effect; another is a bus error
that GLB_BERR holds, and writes nothing; in reset nothing is written and a PCIe access completes with an abort. Lock bits are set and never cleared; an alias of PRT_IRQ
writes its one bit, and any other alias nothing; EVT_EN under its lock raises 0x0102; the hash key and LATE_POP act as their types say. A unit's report: a transient is
counted, a hard fault retires its entry with codes 0xF4 and 0xF1, and with the effect of Table FLT-1 for an Ethernet lane and a packet-buffer bank; a table makes the
device IMPAIRED. -/
def Obligations.RegisterWrites : Prop :=
  (∀ (s : State) (path : Path) (v : Word) (view : HostView), BusUp s → (path = .core → renioftRuns s.dev = true) →
    Gives (.registerWrite path 0x200 true v view) s { s.dev with glb := { s.dev.glb with scratch := v } }) ∧
  (∀ (s : State) (path : Path) (a : Nat) (whole : Bool) (v : Word) (view : HostView), BusUp s → (path = .core → renioftRuns s.dev = true) →
    (whole = false ∨ a % 4 ≠ 0 ∨ (readReg s.dev a).isNone = true) →
    Reaches (.registerWrite path a whole v view) s (fun d =>
      d.glb.berrAddr = BitVec.ofNat 32 a ∧ d.glb.berrCount = s.dev.glb.berrCount + 1 ∧ Output.event 0x0101 0 ∈ d.out ∧
      (path = .pcie → Output.busError 1 true a ∈ d.out) ∧
      (sqOf sqGLB d).bits.getLsbD 0 = true ∧ d.hif = s.dev.hif ∧ d.glb.scratch = s.dev.glb.scratch ∧ d.cfg = s.dev.cfg)) ∧
  (∀ (s : State) (path : Path) (a : Nat) (whole : Bool) (v : Word) (view : HostView), Up s → s.dev.boot.inReset = true →
    Gives (.registerWrite path a whole v view) s (if path = .pcie then { s.dev with out := s.dev.out ++ [.busError 1 true a] } else s.dev)) ∧
  (∀ (s : State) (p b : Nat) (v : Word), BusUp s → p < 38 → b < 2 → (readPort s.dev p 0x104).isSome = true →
    Reaches (.aliasWrite .pcie p 0x104 b v) s (fun d =>
      (lookupD d.glb.prtIrq p 0).getLsbD b = v.getLsbD 0 ∧ (lookupD d.glb.prtIrq p 0).getLsbD (1 - b) = (lookupD s.dev.glb.prtIrq p 0).getLsbD (1 - b) ∧
      (∀ r, r ≠ p → lookupD d.glb.prtIrq r 0 = lookupD s.dev.glb.prtIrq r 0) ∧ d = { s.dev with glb := { s.dev.glb with prtIrq := d.glb.prtIrq } })) ∧
  (∀ (s : State) (p o b : Nat) (v : Word), BusUp s → p < 38 → o < 4096 → o % 4 = 0 → b < 32 → (readPort s.dev p o).isSome = true → (o ≠ 0x104 ∨ 2 ≤ b) →
    Gives (.aliasWrite .pcie p o b v) s s.dev) ∧
  (∀ (s : State) (p o b : Nat) (v : Word), BusUp s → p < 38 → o < 4096 → o % 4 = 0 → b < 32 → (readPort s.dev p o).isSome = false →
    Reaches (.aliasWrite .pcie p o b v) s (fun d =>
      d.glb.berrAddr = BitVec.ofNat 32 (0x1000000 + p * 0x20000 + (o * 8 + b) * 4) ∧ Output.event 0x0101 0 ∈ d.out ∧ d.glb.prtIrq = s.dev.glb.prtIrq)) ∧
  (∀ (s : State) (hi : Bool) (v : Word), BusUp s → s.dev.glb.lock.getLsbD 3 = true →
    Reaches (.evtEnWrite hi v) s (fun d => d.glb = s.dev.glb ∧ Output.event 0x0102 0 ∈ d.out ∧ (sqOf sqGLB d).bits.getLsbD 1 = true)) ∧
  (∀ (s : State) (v : Word), BusUp s →
    Reaches (.glbLockWrite v) s (fun d =>
      (∀ k, k < 4 → d.glb.lock.getLsbD k = (s.dev.glb.lock.getLsbD k || v.getLsbD k)) ∧ d = { s.dev with glb := { s.dev.glb with lock := d.glb.lock } })) ∧
  (∀ (s : State) (k : Nat) (v : Word), BusUp s → k < 10 →
    Gives (.hashKeyWrite k v) s { s.dev with fwd := { s.dev.fwd with hashKey := insertAt s.dev.fwd.hashKey k v } }) ∧
  (∀ (s : State) (n : Nat), BusUp s → n < 512 → Gives (.latePop n) s { s.dev with flt := { s.dev.flt with late := s.dev.flt.late.drop n } }) ∧
  (∀ (s : State) (i : Nat) (code : BitVec 16) (held : List Nat), Up s → reportable i = true → i ≠ 32 → i ≠ 33 → (ledgerOf s.dev i).times = [] →
    1 < (ledgerCfg s.dev i).limit → impairedNow s.dev = s.dev.flt.impaired →
    Reaches (.completionError (.unit i code false held)) s (fun d =>
      (ledgerOf d i).transients = (ledgerOf s.dev i).transients + 1 ∧ (ledgerOf d i).lastCode = code ∧ (ledgerOf d i).state = (ledgerOf s.dev i).state ∧
      d.ports = s.dev.ports ∧ d.buf = s.dev.buf ∧ d.out = s.dev.out)) ∧
  (∀ (s : State) (i : Nat) (code : BitVec 16), Up s → i < 24 → (ledgerOf s.dev i).state = .inService →
    Reaches (.completionError (.unit i code true [])) s (fun d =>
      (ledgerOf d i).state = .retired ∧ (ledgerOf d i).lastCode = code ∧ (portSt d i).retired = true ∧ (portSt d i).txOn = false ∧
      (portSt d i).linkUp = false ∧ Output.event 0x15F4 i ∈ d.out ∧ Output.event 0x15F1 i ∈ d.out ∧ d.cfg = s.dev.cfg)) ∧
  (∀ (s : State) (i : Nat) (code : BitVec 16), Up s → 64 ≤ i → i < 96 → (ledgerOf s.dev i).state = .inService →
    Reaches (.completionError (.unit i code true [])) s (fun d =>
      (ledgerOf d i).state = .retired ∧ d.buf.cellsWithdrawn = s.dev.buf.cellsWithdrawn + 4096 ∧ Output.event 0x01F1 (i - 64) ∈ d.out ∧ d.cfg = s.dev.cfg)) ∧
  (∀ (s : State) (i : Nat) (code : BitVec 16), Up s → 128 ≤ i → i < 138 → (ledgerOf s.dev i).state = .inService →
    Reaches (.completionError (.unit i code true [])) s (fun d =>
      (ledgerOf d i).state = .retired ∧ d.flt.impaired = true ∧ d.cfg = s.dev.cfg)) ∧
  (∀ (s : State) (ch : Nat), Up s → ch < 2 → (ledgerOf s.dev (32 + ch)).corrected ≠ 0xFFFF →
    Gives (.completionError (.corrected ch)) s (setLedger (32 + ch) { ledgerOf s.dev (32 + ch) with corrected := (ledgerOf s.dev (32 + ch)).corrected + 1 } s.dev))
/-! ### Starts, resets, update, faults and clocks (20, 21, 22) -/

/-- Starts and resets (19 R529, R530; 20 R559, R560, R569, R570, R572 to R574; 22 R602 to R609, R617). PORST_N low takes every domain to its cold values. A cold start enters
Spring and raises PWR_EN[0]; unless WRST_N is low its ROM drives FL_RESET_N low and high, and counts the boot; an invalid Keeper costs a KEEPER_EPOCH fuse; a flash that
fails stops it. WRST_N holds the ROM until it rises. A Solstice moves the staged slots, at once or by a warm reset, for which a pair waits; a confirmation makes trial
slots GOOD; the boot watchdog resets for the rollback. A supply that does not come up in time ends in Autumn and is tried once more. VBAT's loss in Winter clears the
Keeper. -/
def Obligations.StartsAndResets : Prop :=
  (∀ s : State, s.dev.ssn.season ≠ .winter →
    Reaches .porstNLow s (fun d =>
      d.ssn.season = .off ∧ d.ssn.pwrEn = 0 ∧ d.boot.coldCause = 1 ∧ d.cfg = {} ∧ d.buf = {} ∧ d.ports = [] ∧ d.ncp = {} ∧ d.sq = [] ∧ d.ctr = [] ∧
      d.keeper = s.dev.keeper ∧ d.flash = s.dev.flash ∧ d.otp = s.dev.otp ∧ d.now = s.dev.now)) ∧
  (∀ s : State, s.dev.ssn.season = .winter → Gives .porstNLow s s.dev) ∧
  (∀ (s : State) (e : ColdEnv), s.dev.ssn.season = .off → e.wrstLow = true →
    Reaches (.coldStart e) s (fun d =>
      d.ssn.season = .spring ∧ d.ssn.pwrEn = 1 ∧ d.boot.coldHeld = true ∧ d.boot.romDone = s.dev.boot.romDone ∧ d.tim.mode = .freeRun ∧
      d.out = s.dev.out ++ [.pin (.pwrEn 0) true] ∧ d.keeper = s.dev.keeper)) ∧
  (∀ (s : State) (e : ColdEnv), s.dev.ssn.season = .off → e.wrstLow = false → e.rom.flashOk = true → e.ticket = none → s.dev.keeper.valid = true →
    Reaches (.coldStart e) s (fun d =>
      d.ssn.season = .spring ∧ d.boot.romDone = true ∧ d.boot.coldHeld = false ∧ d.keeper.bootCount = s.dev.keeper.bootCount + 1 ∧
      d.otp.epochFuses = s.dev.otp.epochFuses ∧ Output.pin (.pwrEn 0) true ∈ d.out ∧ Output.pin .flReset false ∈ d.out ∧ Output.pin .flReset true ∈ d.out ∧
      Output.event 0x1105 0 ∈ d.out)) ∧
  (∀ (s : State) (e : ColdEnv), s.dev.ssn.season = .off → e.wrstLow = false → e.rom.flashOk = true → e.ticket = none → s.dev.keeper.valid = false →
    (s.dev.otp.lc = 1 ∨ s.dev.otp.lc = 2) → s.dev.otp.epochFuses < 63 →
    Reaches (.coldStart e) s (fun d =>
      d.ssn.season = .spring ∧ d.boot.romDone = true ∧ d.keeper.bootCount = 1 ∧ d.keeper.valid = true ∧ d.keeper.root = none ∧
      d.otp.epochFuses = s.dev.otp.epochFuses + 1 ∧ Output.event 0x1202 0 ∈ d.out ∧ (sqOf sqSEC d).bits.getLsbD 1 = true)) ∧
  (∀ (s : State) (e : ColdEnv), s.dev.ssn.season = .off → e.wrstLow = false → e.rom.flashOk = false →
    Reaches (.coldStart e) s (fun d =>
      d.ssn.season = .spring ∧ d.boot.romDone = s.dev.boot.romDone ∧ d.keeper = s.dev.keeper ∧ Output.event 0x130A 0 ∈ d.out ∧
      (sqOf sqBOOT d).bits.getLsbD 7 = true)) ∧
  (∀ (s : State) (e : ColdEnv), s.dev.ssn.season ≠ .off → Gives (.coldStart e) s s.dev) ∧
  (∀ s : State, Up s → s.dev.boot.coldHeld = false →
    Reaches .warmReset s (fun d =>
      d.boot.inReset = true ∧ d.boot.wrstLow = true ∧ d.boot.warm = true ∧ d.ssn.renioft = false ∧ d.pair.epoch = s.dev.pair.epoch ∧
      d.glb.cfgEpoch = s.dev.glb.cfgEpoch ∧ d.glb.rstCount = satInc s.dev.glb.rstCount)) ∧
  (∀ s : State, (powered s.dev = false ∨ s.dev.boot.coldHeld = true) → Gives .warmReset s s.dev) ∧
  (∀ (s : State) (e : ColdEnv), s.dev.boot.wrstLow = true → s.dev.boot.coldHeld = true →
    Gives (.wrstNRise e) s (coldRom e { s.dev with boot := { s.dev.boot with wrstLow := false } })) ∧
  (∀ (s : State) (e : ColdEnv), s.dev.boot.wrstLow = true → s.dev.boot.coldHeld = false → s.dev.boot.inReset = true →
    Gives (.wrstNRise e) s (warmRom e.rom { s.dev with boot := { s.dev.boot with wrstLow := false } })) ∧
  (∀ (s : State) (e : ColdEnv), s.dev.boot.wrstLow = false → Gives (.wrstNRise e) s s.dev) ∧
  (∀ (s : State) (e : RomEnv), Up s → solsticeDue s.dev = true → s.dev.boot.pairWait = none → stagedKinds s.dev = [2] →
    Reaches (.solstice e) s (fun d =>
      (pointed (imageKind d 2)).state = .good ∧ (imageKind d 2).ptrB = !(imageKind s.dev 2).ptrB ∧
      (pointed (imageKind d 2)).image = (freeSlot (imageKind s.dev 2)).image ∧ d.boot.solstice = none ∧ Output.event 0x1305 0 ∈ d.out ∧
      (sqOf sqBOOT d).bits.getLsbD 2 = true ∧ d.cfg = s.dev.cfg ∧ d.buf = s.dev.buf)) ∧
  (∀ (s : State) (e : RomEnv), Up s → solsticeDue s.dev = true → s.dev.boot.pairWait = none → (0 ∈ stagedKinds s.dev ∨ 1 ∈ stagedKinds s.dev) →
    ((s.dev.pair.role ≠ .active ∨ s.dev.pair.partnerReady = false) → Gives (.solstice e) s (activateReset e s.dev)) ∧
    (s.dev.pair.role = .active ∧ s.dev.pair.partnerReady = true → Gives (.solstice e) s { s.dev with
      boot := { s.dev.boot with pairWait := some (s.dev.now + s.dev.cfg.boot.pairWaitMs * 1000000000) } })) ∧
  (∀ (s : State) (e : RomEnv), Up s → (solsticeDue s.dev = false ∨ s.dev.boot.pairWait.isSome = true) → Gives (.solstice e) s s.dev) ∧
  (∀ (s : State) (e : RomEnv) (t : Nat), Up s → s.dev.boot.pairWait = some t → s.dev.pair.partnerReady = true →
    Gives (.solsticePairWait true e) s (activateReset e (switchover s.dev))) ∧
  (∀ (s : State) (e : RomEnv) (t : Nat), Up s → s.dev.boot.pairWait = some t → t ≤ s.dev.now →
    Gives (.solsticePairWait false e) s (activateReset e (raise sqBOOT 9 0x130C 0 s.dev))) ∧
  (∀ (s : State) (e : RomEnv) (t : Nat), Up s → s.dev.boot.pairWait = some t → s.dev.now < t → Gives (.solsticePairWait false e) s s.dev) ∧
  (∀ (s : State) (t : Nat), Up s → s.dev.ssn.season = .summer → renioftRuns s.dev = true → s.dev.boot.cleanSince = some t →
    t + s.dev.cfg.boot.confirmS * 1000000000000 ≤ s.dev.now → trialKind s.dev 1 = true →
    Reaches .confirm s (fun d =>
      (∀ k, k < 5 → trialKind d k = false) ∧ (pointed (imageKind d 1)).state = .good ∧ (∀ k, (imageKind d k).ptrB = (imageKind s.dev k).ptrB) ∧
      d.boot.watchdog = none ∧ Output.event 0x1307 0 ∈ d.out ∧ (sqOf sqBOOT d).bits.getLsbD 4 = true)) ∧
  (∀ (s : State) (t : Nat), Up s → (∀ k ∈ ([0, 1, 4] : List Nat), trialKind s.dev k = false) → s.dev.boot.splitSince = some t → s.dev.ccr.splitStopped = false →
    t + s.dev.cfg.boot.confirmS * 1000000000000 ≤ s.dev.now → trialKind s.dev 3 = true →
    Reaches .confirm s (fun d =>
      (pointed (imageKind d 3)).state = .good ∧ (∀ k, k ≠ 3 → imageKind d k = imageKind s.dev k) ∧ Output.event 0x1307 3 ∈ d.out ∧
      (sqOf sqBOOT d).bits.getLsbD 4 = true)) ∧
  (∀ s : State, Up s → (∀ k ∈ ([0, 1, 3, 4] : List Nat), trialKind s.dev k = false) → Gives .confirm s s.dev) ∧
  (∀ (s : State) (e : RomEnv) (t : Nat), Up s → s.dev.boot.watchdog = some t → t ≤ s.dev.now →
    Gives (.bootWatchdog e) s (warmRom e (warmBegin .activation { s.dev with boot := { s.dev.boot with rollbackDue := true, watchdog := none } }))) ∧
  (∀ (s : State) (e : RomEnv) (t : Nat), Up s → s.dev.boot.watchdog = some t → s.dev.now < t → Gives (.bootWatchdog e) s s.dev) ∧
  (∀ s : State, s.dev.ssn.pwrEn.getLsbD 0 = true →
    Gives .vddInRange s { s.dev with ssn := { s.dev.ssn with vddOk := true }, clk := { s.dev.clk with vddArmed := true } }) ∧
  (∀ s : State, s.dev.ssn.pwrEn.getLsbD 0 = false → Gives .vddInRange s s.dev) ∧
  (∀ s : State, s.dev.ssn.season = .spring → s.dev.ssn.pwrEn.getLsbD 0 = true → s.dev.ssn.vddOk = false → s.dev.ssn.pwrRose + 5000000000 ≤ s.dev.now →
    Reaches .vddStartTimeout s (fun d =>
      d.ssn.season = .autumn ∧ d.ssn.pwrEn = 0 ∧ d.ssn.powerFails = s.dev.ssn.powerFails + 1 ∧
      d.ssn.retryAt = (if s.dev.ssn.powerFails = 0 then some (s.dev.now + 100000000000) else none) ∧
      Output.pin (.pwrEn 0) false ∈ d.out ∧ d.keeper = s.dev.keeper)) ∧
  (∀ s : State, (s.dev.ssn.season ≠ .spring ∨ s.dev.ssn.vddOk = true ∨ s.dev.now < s.dev.ssn.pwrRose + 5000000000) → Gives .vddStartTimeout s s.dev) ∧
  (∀ (s : State) (t : Nat), s.dev.ssn.retryAt = some t → s.dev.ssn.season = .autumn → t ≤ s.dev.now →
    Reaches .pwrRetry s (fun d =>
      d.ssn = { s.dev.ssn with season := .spring, powerUp := s.dev.now, pwrRose := s.dev.now, pwrEn := 1, retryAt := none, vddOk := false } ∧
      d.out = s.dev.out ++ [.pin (.pwrEn 0) true] ∧ d.tim.mode = .freeRun ∧ d.tim.keeperInvalid = !s.dev.keeper.timeOk ∧
      d = { s.dev with ssn := d.ssn, tim := d.tim, out := d.out })) ∧
  (∀ s : State, (s.dev.ssn.retryAt = none ∨ s.dev.ssn.season ≠ .autumn) → Gives .pwrRetry s s.dev) ∧
  (∀ s : State, s.dev.ssn.season = .winter → Gives .vbatLoss s { s.dev with keeper := {} }) ∧
  (∀ s : State, s.dev.ssn.season ≠ .winter → Gives .vbatLoss s s.dev)

/-- Restored channels and the monitors of the clock and the junction (21 R586, R587; 22 R601, R613). A failed restore test, or a fault during it, retires the entry again with code
0xF3; one that passes returns it to service with 0xF2, a DRAM channel after its journal copy. A temperature above 125 °C raises 0x0106, again only after one below
120 °C; a reference clock off by more than 1,000 ppm raises 0x0107, again only after one within 50 ppm. -/
def Obligations.RestoreAndMonitors : Prop :=
  (∀ (s : State) (ix : Nat) (pass : Bool), Up s → ledgerValid ix = true → (ledgerOf s.dev ix).state = .testing → ix ∉ s.dev.flt.copying →
    (pass = false ∨ (ledgerOf s.dev ix).faulted = true) → s.dev.ncp.pend = [] →
    Reaches (.restoreTestDone ix pass) s (fun d =>
      (ledgerOf d ix).state = .retired ∧ (∀ k, k ≠ ix → ledgerOf d k = ledgerOf s.dev k) ∧ Output.event (ledgerCode ix 0xF3) (ledgerChan ix) ∈ d.out ∧
      (sqOf sqFLT d).bits.getLsbD 3 = true ∧ d.buf = s.dev.buf)) ∧
  (∀ (s : State) (ix : Nat), Up s → ledgerValid ix = true → ix ≠ 32 → ix ≠ 33 → (ledgerOf s.dev ix).state = .testing → (ledgerOf s.dev ix).faulted = false →
    ix ∉ s.dev.flt.copying → s.dev.ncp.pend = [] →
    Reaches (.restoreTestDone ix true) s (fun d =>
      (ledgerOf d ix).state = .inService ∧ (ledgerOf d ix).times = [] ∧ Output.event (ledgerCode ix 0xF2) (ledgerChan ix) ∈ d.out ∧
      (sqOf sqFLT d).bits.getLsbD 2 = true)) ∧
  (∀ s : State, Up s → (ledgerOf s.dev 147).state = .testing → (ledgerOf s.dev 147).faulted = false → 147 ∉ s.dev.flt.copying → s.dev.ncp.pend = [] →
    (ledgerOf s.dev 115).state = .inService → Reaches (.restoreTestDone 147 true) s (fun d => d.ccr.gaiStopped = false ∧ d.buf = s.dev.buf)) ∧
  (∀ (s : State) (ch : Nat), Up s → ch < 2 → (ledgerOf s.dev (32 + ch)).state = .testing → (ledgerOf s.dev (32 + ch)).faulted = false →
    32 + ch ∉ s.dev.flt.copying →
    Gives (.restoreTestDone (32 + ch) true) s { s.dev with flt := { s.dev.flt with copying := s.dev.flt.copying ++ [32 + ch] } }) ∧
  (∀ (s : State) (ix : Nat) (pass : Bool), Up s → ledgerValid ix = true → (ledgerOf s.dev ix).state = .inService → Gives (.restoreTestDone ix pass) s s.dev) ∧
  (∀ (s : State) (ch : Nat), Up s → ch < 2 → 32 + ch ∈ s.dev.flt.copying → s.dev.ncp.pend = [] →
    Reaches (.journalCopyDone ch) s (fun d =>
      d.asd.copiesIn.getLsbD ch = true ∧ 32 + ch ∉ d.flt.copying ∧ (ledgerOf d (32 + ch)).state = .inService ∧ d.buf = s.dev.buf)) ∧
  (∀ (s : State) (ch : Nat), Up s → ch < 2 → 32 + ch ∉ s.dev.flt.copying → Gives (.journalCopyDone ch) s s.dev) ∧
  (∀ (s : State) (t : BitVec 16), Up s → s.dev.clk.hot = false → 2000 < t.toInt →
    Reaches (.tjHigh t) s (fun d =>
      d.clk.hot = true ∧ d.clk.temp = t ∧ Output.event 0x0106 0 ∈ d.out ∧ (sqOf sqCLK d).bits.getLsbD 0 = true ∧
      d = { s.dev with clk := d.clk, sq := d.sq, out := d.out, flt := d.flt })) ∧
  (∀ (s : State) (t : BitVec 16), Up s → 1920 ≤ t.toInt → t.toInt ≤ 2000 →
    Reaches (.tjHigh t) s (fun d => d.clk.hot = s.dev.clk.hot ∧ d.clk.temp = t ∧ d = { s.dev with clk := d.clk })) ∧
  (∀ (s : State) (t : BitVec 16), Up s → t.toInt < 1920 →
    Reaches (.tjHigh t) s (fun d => d.clk.hot = false ∧ d.clk.temp = t ∧ d = { s.dev with clk := d.clk })) ∧
  (∀ (s : State) (ppm : BitVec 16), Up s → s.dev.clk.refBad = false → 1000 < ppm.toInt.natAbs →
    Reaches (.refclkFault ppm) s (fun d =>
      d.clk = { s.dev.clk with ppm := ppm, refBad := true } ∧ Output.event 0x0107 0 ∈ d.out ∧ (sqOf sqCLK d).bits.getLsbD 1 = true)) ∧
  (∀ (s : State) (ppm : BitVec 16), Up s → 50 < ppm.toInt.natAbs → ppm.toInt.natAbs ≤ 1000 →
    Gives (.refclkFault ppm) s { s.dev with clk := { s.dev.clk with ppm := ppm } }) ∧
  (∀ (s : State) (ppm : BitVec 16), Up s → ppm.toInt.natAbs ≤ 50 →
    Gives (.refclkFault ppm) s { s.dev with clk := { s.dev.clk with ppm := ppm, refBad := false } })

/-! ### Registers that follow one rule whole (04 R132, 18 R516, R520) -/

/-- R132: TXTS_E0 to TXTS_E3 show the oldest entry, a read of them changes no entry, and a write of N to TXTS_POP releases the min(N, TXTS_LEVEL) oldest entries; a write
of 0 does nothing. -/
def Obligations.TxtsReadAndPop : Prop :=
  (∀ (s : State) (p : Nat) (st : Stamp) (id : BitVec 16) (status : Nat) (rest : List (Stamp × BitVec 16 × Nat)), p < 25 → status < 3 →
    (portSt s.dev p).txts = (st, id, status) :: rest →
    readReg s.dev (0x800310 + p * 0x1000) = some st.ts32 ∧
    readReg s.dev (0x800314 + p * 0x1000) = some (BitVec.ofNat 32 (st.frac.toNat * 65536 + id.toNat)) ∧
    readReg s.dev (0x800318 + p * 0x1000) = some (BitVec.ofNat 32 (2147483648 + status * 536870912 + (if st.freeRun then 268435456 else 0) +
      (if st.holdover then 134217728 else 0) + st.step.toNat)) ∧
    readReg s.dev (0x80031C + p * 0x1000) = some 0) ∧
  (∀ (s : State) (env : ExecEnv) (p k : Nat), p < 25 → k < 4 → Passes (.regRead (0x800310 + p * 0x1000 + k * 4) 1) env s →
    Reaches (.regRead (0x800310 + p * 0x1000 + k * 4) 1 env) s (fun d => (∀ q, (portSt d q).txts = (portSt s.dev q).txts) ∧ JournalOnly s d)) ∧
  (∀ (s : State) (p n : Nat), BusUp s → p < 25 → n < 128 →
    Reaches (.txtsPop p n) s (fun d =>
      (portSt d p).txts = (portSt s.dev p).txts.drop (min n (portSt s.dev p).txts.length) ∧ (∀ k, k ≠ p → portSt d k = portSt s.dev k) ∧
      portSt d p = { portSt s.dev p with txts := (portSt d p).txts } ∧ d = { s.dev with ports := d.ports })) ∧
  (∀ (s : State) (p : Nat), BusUp s → p < 25 → Reaches (.txtsPop p 0) s (fun d => ∀ k, portSt d k = portSt s.dev k))

/-- R516, for the two registers of type MK, EVT_EN not being locked (R523): a bit of [15:0] that the register holds changes only where bit n + 16 of the written word is 1, to the
written bit n; a read returns the control bits in [15:0] and 0 in [31:16]; a write with [31:16] 0 changes nothing, without error. -/
def Obligations.MaskedWrites : Prop :=
  (∀ (s : State) (hi : Bool) (v w : Word), BusUp s → s.dev.glb.lock.getLsbD 3 = false → readReg s.dev (if hi then 0x118 else 0x114) = some w →
    Reaches (.evtEnWrite hi v) s (fun d =>
      (∃ x, readReg d (if hi then 0x118 else 0x114) = some x ∧
        (∀ n, (if hi then n < 6 else 1 ≤ n ∧ n < 16) → x.getLsbD n = (if v.getLsbD (n + 16) then v.getLsbD n else w.getLsbD n)) ∧
        (∀ n, 16 ≤ n → x.getLsbD n = false)) ∧
      readReg d (if hi then 0x114 else 0x118) = readReg s.dev (if hi then 0x114 else 0x118) ∧
      d = { s.dev with glb := { s.dev.glb with evtLo := d.glb.evtLo, evtHi := d.glb.evtHi } })) ∧
  (∀ s : State, (readReg s.dev 0x114).map (fun x => x.extractLsb' 16 16) = some 0 ∧ (readReg s.dev 0x118).map (fun x => x.extractLsb' 16 16) = some 0) ∧
  (∀ (s : State) (hi : Bool) (v w : Word), BusUp s → s.dev.glb.lock.getLsbD 3 = false → v.extractLsb' 16 16 = 0 →
    readReg s.dev (if hi then 0x118 else 0x114) = some w →
    Reaches (.evtEnWrite hi v) s (fun d =>
      readReg d (if hi then 0x118 else 0x114) = some w ∧ d.out = s.dev.out ∧
      d = { s.dev with glb := { s.dev.glb with evtLo := d.glb.evtLo, evtHi := d.glb.evtHi } }))

/-- R520: a clearing write whose [31:24] is the register's SEQ clears every SQ bit of it, any other clears nothing; its [23:0] are ignored; SEQ, the other registers and every
other part of the device stay as they are. -/
def Obligations.StatusClears : Prop :=
  (∀ (s : State) (a : Nat) (v : Word), BusUp s → isStatusReg a = true → v.extractLsb' 24 8 = (sqOf a s.dev).seq →
    Reaches (.statusClear a v) s (fun d =>
      (sqOf a d).bits = 0 ∧ (sqOf a d).seq = (sqOf a s.dev).seq ∧ (∀ b, b ≠ a → sqOf b d = sqOf b s.dev) ∧ d = { s.dev with sq := d.sq })) ∧
  (∀ (s : State) (a : Nat) (v : Word), BusUp s → isStatusReg a = true → v.extractLsb' 24 8 ≠ (sqOf a s.dev).seq → Gives (.statusClear a v) s s.dev)

/-! ### The block as a whole -/

/-- A step runs the command at the front of the queue on the queue's rest; with nothing waiting one clock of 4 ns passes (the model's choice, entry 4 of the assumption log). -/
def Obligations.StepTakesFront : Prop :=
  (∀ (i : Instr) (rest : List Instr) (s : State), s.pending = i :: rest → step s = exec i { s with pending := rest }) ∧
  (∀ s : State, s.pending = [] → step s = .next { s with dev := idleTick s.dev })

/-- What the spec gives a cold reset (18 Table REG-4, 22 R608): the PWR_EN outputs low, every status register and counter 0, EVT_EN and GLB_LOCK 0; and nothing waits. -/
def Obligations.ResetState : Prop :=
  State.reset.pending = [] ∧ QueueWF State.reset ∧ State.reset.dev.ssn.pwrEn = 0 ∧ powered State.reset.dev = false ∧
  (∀ a, sqOf a State.reset.dev = {}) ∧ (∀ a, counter a State.reset.dev = 0) ∧ State.reset.dev.glb.evtLo = 0 ∧ State.reset.dev.glb.evtHi = 0 ∧
  State.reset.dev.glb.lock = 0 ∧ State.reset.dev.tim.mode = .freeRun

/-- Every command whose operands name something the hardware has is carried out in every state, and touches the queue in none; any other faults by name (the model's
choice, entry 2 of the assumption log). -/
def Obligations.EveryCommandCompletes : Prop :=
  ∀ (i : Instr) (s : State),
    (wellFormed i = true → ∃ d, exec i s = .next { s with dev := d }) ∧ (wellFormed i = false → exec i s = .fault .illFormed)

/-- From every state whose queue is well formed a step goes on, to a state whose queue is well formed again and one command shorter, so that no run of it ever stops. -/
def Obligations.QueueStaysWellFormed : Prop :=
  (∀ s : State, QueueWF s → ∃ t, step s = .next t ∧ QueueWF t ∧ t.pending = s.pending.tail) ∧
  (∀ (n : Nat) (s : State), QueueWF s → SafeRun n s)

/-- A command whose domain has no supply, whose register bus is in reset, or whose time manager does not run, has no effect whatever (13 Table SSN-1, 18 Table REG-3,
04 R118, R135). -/
def Obligations.UnsuppliedInert : Prop :=
  ∀ (i : Instr) (s : State), wellFormed i = true → domainUp i s.dev = false → exec i s = .next s

/-- Winter (13 Table SSN-1, Table SSN-2; 22 R606): a brownout enters it with the main domain empty; from then on no step but VAON_RISE ends it, gives the main domain anything,
or changes flash or OTP; VAON_RISE ends it. -/
def Obligations.WinterHolds : Prop :=
  (∀ s : State, Reaches .vaonBrownout s (fun d => InWinter d)) ∧
  (∀ s t : State, InWinter s.dev → s.pending.head? ≠ some .vaonRise → step s = .next t →
    InWinter t.dev ∧ t.dev.flash = s.dev.flash ∧ t.dev.otp = s.dev.otp ∧ t.dev.keyTable = s.dev.keyTable) ∧
  (∀ (s t : State) (rest : List Instr), InWinter s.dev → s.pending = .vaonRise :: rest → step s = .next t → t.dev.ssn.season = .off)
end

