-- ==== Sys2Proof/Laws/Table.lean ====
section
/-! SUPPORT. Laws of the sorted tables: an entry reads back, the others stay; and a fold that keeps something. -/

namespace Sys2Proof

@[simp] theorem lookup?_insertAt_self {α : Type} (t : Tbl α) (n : Nat) (v : α) : lookup? (insertAt t n v) n = some v := by
  induction t with
  | nil => simp [insertAt, lookup?]
  | cons x t ih =>
    obtain ⟨k, w⟩ := x
    simp only [insertAt]
    split
    · simp [lookup?]
    · split
      · simp [lookup?]
      · rename_i h; simp [lookup?, h, ih]

theorem lookup?_insertAt_ne {α : Type} (t : Tbl α) {n m : Nat} (v : α) (h : m ≠ n) :
    lookup? (insertAt t n v) m = lookup? t m := by
  induction t with
  | nil => simp [insertAt, lookup?, h]
  | cons x t ih =>
    obtain ⟨k, w⟩ := x
    simp only [insertAt]
    split
    · simp [lookup?, h]
    · split
      · rename_i h2; subst h2; simp [lookup?, h]
      · simp [lookup?, ih]

@[simp] theorem lookupD_insertAt_self {α : Type} (t : Tbl α) (n : Nat) (v x : α) : lookupD (insertAt t n v) n x = v := by
  simp [lookupD]

theorem lookupD_insertAt_ne {α : Type} (t : Tbl α) {n m : Nat} (v x : α) (h : m ≠ n) :
    lookupD (insertAt t n v) m x = lookupD t m x := by
  simp [lookupD, lookup?_insertAt_ne t v h]

@[simp] theorem lookup?_nil {α : Type} (n : Nat) : lookup? ([] : Tbl α) n = none := rfl

@[simp] theorem lookupD_nil {α : Type} (n : Nat) (x : α) : lookupD ([] : Tbl α) n x = x := rfl

/-- What every step of a fold keeps, the fold keeps. -/
theorem foldl_keeps {α β γ : Type} (g : β → γ) (f : β → α → β) (h : ∀ b a, g (f b a) = g b) (l : List α) (b : β) :
    g (l.foldl f b) = g b := by
  induction l generalizing b with
  | nil => rfl
  | cons a l ih => simp [ih, h]

/-- The keys of a rising table above a key. -/
theorem keysRise_cons {α : Type} (k : Nat) (w : α) (t : Tbl α) :
    keysRise ((k, w) :: t) = true ↔ (∀ x, t.head? = some x → k < x.1) ∧ keysRise t = true := by
  cases t with
  | nil => simp [keysRise]
  | cons x t => obtain ⟨l, v⟩ := x; simp [keysRise]

theorem head?_insertAt {α : Type} (t : Tbl α) (n : Nat) (v : α) (x : Nat × α) (h : (insertAt t n v).head? = some x) :
    x.1 = n ∨ t.head?.map (·.1) = some x.1 := by
  cases t with
  | nil => simp only [insertAt, List.head?_cons, Option.some.injEq] at h; subst h; exact Or.inl rfl
  | cons y t =>
    obtain ⟨k, w⟩ := y
    simp only [insertAt] at h
    split at h
    · simp only [List.head?_cons, Option.some.injEq] at h; subst h; exact Or.inl rfl
    · split at h
      · simp only [List.head?_cons, Option.some.injEq] at h; subst h; exact Or.inl rfl
      · simp only [List.head?_cons, Option.some.injEq] at h; subst h; exact Or.inr rfl

/-- Writing an entry keeps the canonical form. -/
theorem keysRise_insertAt {α : Type} (t : Tbl α) (n : Nat) (v : α) (h : keysRise t = true) : keysRise (insertAt t n v) = true := by
  induction t with
  | nil => rfl
  | cons y t ih =>
    obtain ⟨k, w⟩ := y
    simp only [insertAt]
    split
    · rename_i hlt; rw [keysRise_cons]; exact ⟨by intro x hx; simp only [List.head?_cons, Option.some.injEq] at hx; subst hx; exact hlt, h⟩
    · rw [keysRise_cons] at h
      split
      · rename_i heq; subst heq; rw [keysRise_cons]; exact h
      · rename_i h1 h2
        rw [keysRise_cons]
        refine ⟨?_, ih h.2⟩
        intro x hx
        cases head?_insertAt t n v x hx with
        | inl e => omega
        | inr e =>
          cases t with
          | nil => simp at e
          | cons z t =>
            have := h.1 z rfl
            simp only [List.head?_cons, Option.map_some, Option.some.injEq] at e
            omega

/-- Removing an entry keeps it. -/
theorem keysRise_removeAt {α : Type} (t : Tbl α) (n : Nat) (h : keysRise t = true) : keysRise (removeAt t n) = true := by
  induction t with
  | nil => rfl
  | cons y t ih =>
    obtain ⟨k, w⟩ := y
    rw [keysRise_cons] at h
    simp only [removeAt]
    split
    · exact h.2
    · rw [keysRise_cons]
      refine ⟨?_, ih h.2⟩
      intro x hx
      cases t with
      | nil => simp [removeAt] at hx
      | cons z t =>
        obtain ⟨l, u⟩ := z
        have h1 : k < l := h.1 (l, u) rfl
        have h2 := h.2
        simp only [removeAt] at hx
        split at hx
        · rw [keysRise_cons] at h2
          exact Nat.lt_trans h1 (h2.1 x hx)
        · simp only [List.head?_cons, Option.some.injEq] at hx
          subst hx
          exact h1

end Sys2Proof
end

