-- ==== Sys2Proof/Laws/Ops.lean ====
section
/-! SUPPORT. What each shared operation of Ops.lean leaves as it was: one lemma per operation and field of the device it does not write. -/

namespace Sys2Proof.Machine

/-! `emit` writes out -/

@[simp] theorem emit_now (o : Output) (d : Device) : (emit o d).now = d.now := rfl
@[simp] theorem emit_cfg (o : Output) (d : Device) : (emit o d).cfg = d.cfg := rfl
@[simp] theorem emit_oldCfgs (o : Output) (d : Device) : (emit o d).oldCfgs = d.oldCfgs := rfl
@[simp] theorem emit_switching (o : Output) (d : Device) : (emit o d).switching = d.switching := rfl
@[simp] theorem emit_glb (o : Output) (d : Device) : (emit o d).glb = d.glb := rfl
@[simp] theorem emit_flt (o : Output) (d : Device) : (emit o d).flt = d.flt := rfl
@[simp] theorem emit_sq (o : Output) (d : Device) : (emit o d).sq = d.sq := rfl
@[simp] theorem emit_ctr (o : Output) (d : Device) : (emit o d).ctr = d.ctr := rfl
@[simp] theorem emit_ports (o : Output) (d : Device) : (emit o d).ports = d.ports := rfl
@[simp] theorem emit_buf (o : Output) (d : Device) : (emit o d).buf = d.buf := rfl
@[simp] theorem emit_fwd (o : Output) (d : Device) : (emit o d).fwd = d.fwd := rfl
@[simp] theorem emit_tim (o : Output) (d : Device) : (emit o d).tim = d.tim := rfl
@[simp] theorem emit_sch (o : Output) (d : Device) : (emit o d).sch = d.sch := rfl
@[simp] theorem emit_asd (o : Output) (d : Device) : (emit o d).asd = d.asd := rfl
@[simp] theorem emit_fwl (o : Output) (d : Device) : (emit o d).fwl = d.fwl := rfl
@[simp] theorem emit_msc (o : Output) (d : Device) : (emit o d).msc = d.msc := rfl
@[simp] theorem emit_keeper (o : Output) (d : Device) : (emit o d).keeper = d.keeper := rfl
@[simp] theorem emit_pair (o : Output) (d : Device) : (emit o d).pair = d.pair := rfl
@[simp] theorem emit_wy (o : Output) (d : Device) : (emit o d).wy = d.wy := rfl
@[simp] theorem emit_top (o : Output) (d : Device) : (emit o d).top = d.top := rfl
@[simp] theorem emit_can (o : Output) (d : Device) : (emit o d).can = d.can := rfl
@[simp] theorem emit_mvb (o : Output) (d : Device) : (emit o d).mvb = d.mvb := rfl
@[simp] theorem emit_gw (o : Output) (d : Device) : (emit o d).gw = d.gw := rfl
@[simp] theorem emit_ssn (o : Output) (d : Device) : (emit o d).ssn = d.ssn := rfl
@[simp] theorem emit_boot (o : Output) (d : Device) : (emit o d).boot = d.boot := rfl
@[simp] theorem emit_flash (o : Output) (d : Device) : (emit o d).flash = d.flash := rfl
@[simp] theorem emit_dseq (o : Output) (d : Device) : (emit o d).dseq = d.dseq := rfl
@[simp] theorem emit_ccr (o : Output) (d : Device) : (emit o d).ccr = d.ccr := rfl
@[simp] theorem emit_sec (o : Output) (d : Device) : (emit o d).sec = d.sec := rfl
@[simp] theorem emit_hif (o : Output) (d : Device) : (emit o d).hif = d.hif := rfl
@[simp] theorem emit_ncp (o : Output) (d : Device) : (emit o d).ncp = d.ncp := rfl
@[simp] theorem emit_clk (o : Output) (d : Device) : (emit o d).clk = d.clk := rfl
@[simp] theorem emit_otp (o : Output) (d : Device) : (emit o d).otp = d.otp := rfl
@[simp] theorem emit_keyTable (o : Output) (d : Device) : (emit o d).keyTable = d.keyTable := rfl
@[simp] theorem emit_certs (o : Output) (d : Device) : (emit o d).certs = d.certs := rfl
@[simp] theorem emit_freeCtr (o : Output) (d : Device) : (emit o d).freeCtr = d.freeCtr := rfl

/-! `emitAll` writes out -/

@[simp] theorem emitAll_now (os : List Output) (d : Device) : (emitAll os d).now = d.now := rfl
@[simp] theorem emitAll_cfg (os : List Output) (d : Device) : (emitAll os d).cfg = d.cfg := rfl
@[simp] theorem emitAll_oldCfgs (os : List Output) (d : Device) : (emitAll os d).oldCfgs = d.oldCfgs := rfl
@[simp] theorem emitAll_switching (os : List Output) (d : Device) : (emitAll os d).switching = d.switching := rfl
@[simp] theorem emitAll_glb (os : List Output) (d : Device) : (emitAll os d).glb = d.glb := rfl
@[simp] theorem emitAll_flt (os : List Output) (d : Device) : (emitAll os d).flt = d.flt := rfl
@[simp] theorem emitAll_sq (os : List Output) (d : Device) : (emitAll os d).sq = d.sq := rfl
@[simp] theorem emitAll_ctr (os : List Output) (d : Device) : (emitAll os d).ctr = d.ctr := rfl
@[simp] theorem emitAll_ports (os : List Output) (d : Device) : (emitAll os d).ports = d.ports := rfl
@[simp] theorem emitAll_buf (os : List Output) (d : Device) : (emitAll os d).buf = d.buf := rfl
@[simp] theorem emitAll_fwd (os : List Output) (d : Device) : (emitAll os d).fwd = d.fwd := rfl
@[simp] theorem emitAll_tim (os : List Output) (d : Device) : (emitAll os d).tim = d.tim := rfl
@[simp] theorem emitAll_sch (os : List Output) (d : Device) : (emitAll os d).sch = d.sch := rfl
@[simp] theorem emitAll_asd (os : List Output) (d : Device) : (emitAll os d).asd = d.asd := rfl
@[simp] theorem emitAll_fwl (os : List Output) (d : Device) : (emitAll os d).fwl = d.fwl := rfl
@[simp] theorem emitAll_msc (os : List Output) (d : Device) : (emitAll os d).msc = d.msc := rfl
@[simp] theorem emitAll_keeper (os : List Output) (d : Device) : (emitAll os d).keeper = d.keeper := rfl
@[simp] theorem emitAll_pair (os : List Output) (d : Device) : (emitAll os d).pair = d.pair := rfl
@[simp] theorem emitAll_wy (os : List Output) (d : Device) : (emitAll os d).wy = d.wy := rfl
@[simp] theorem emitAll_top (os : List Output) (d : Device) : (emitAll os d).top = d.top := rfl
@[simp] theorem emitAll_can (os : List Output) (d : Device) : (emitAll os d).can = d.can := rfl
@[simp] theorem emitAll_mvb (os : List Output) (d : Device) : (emitAll os d).mvb = d.mvb := rfl
@[simp] theorem emitAll_gw (os : List Output) (d : Device) : (emitAll os d).gw = d.gw := rfl
@[simp] theorem emitAll_ssn (os : List Output) (d : Device) : (emitAll os d).ssn = d.ssn := rfl
@[simp] theorem emitAll_boot (os : List Output) (d : Device) : (emitAll os d).boot = d.boot := rfl
@[simp] theorem emitAll_flash (os : List Output) (d : Device) : (emitAll os d).flash = d.flash := rfl
@[simp] theorem emitAll_dseq (os : List Output) (d : Device) : (emitAll os d).dseq = d.dseq := rfl
@[simp] theorem emitAll_ccr (os : List Output) (d : Device) : (emitAll os d).ccr = d.ccr := rfl
@[simp] theorem emitAll_sec (os : List Output) (d : Device) : (emitAll os d).sec = d.sec := rfl
@[simp] theorem emitAll_hif (os : List Output) (d : Device) : (emitAll os d).hif = d.hif := rfl
@[simp] theorem emitAll_ncp (os : List Output) (d : Device) : (emitAll os d).ncp = d.ncp := rfl
@[simp] theorem emitAll_clk (os : List Output) (d : Device) : (emitAll os d).clk = d.clk := rfl
@[simp] theorem emitAll_otp (os : List Output) (d : Device) : (emitAll os d).otp = d.otp := rfl
@[simp] theorem emitAll_keyTable (os : List Output) (d : Device) : (emitAll os d).keyTable = d.keyTable := rfl
@[simp] theorem emitAll_certs (os : List Output) (d : Device) : (emitAll os d).certs = d.certs := rfl
@[simp] theorem emitAll_freeCtr (os : List Output) (d : Device) : (emitAll os d).freeCtr = d.freeCtr := rfl

/-! `setCounter` writes ctr -/

@[simp] theorem setCounter_now (a : Nat) (v : BitVec 64) (d : Device) : (setCounter a v d).now = d.now := rfl
@[simp] theorem setCounter_cfg (a : Nat) (v : BitVec 64) (d : Device) : (setCounter a v d).cfg = d.cfg := rfl
@[simp] theorem setCounter_oldCfgs (a : Nat) (v : BitVec 64) (d : Device) : (setCounter a v d).oldCfgs = d.oldCfgs := rfl
@[simp] theorem setCounter_switching (a : Nat) (v : BitVec 64) (d : Device) : (setCounter a v d).switching = d.switching := rfl
@[simp] theorem setCounter_glb (a : Nat) (v : BitVec 64) (d : Device) : (setCounter a v d).glb = d.glb := rfl
@[simp] theorem setCounter_flt (a : Nat) (v : BitVec 64) (d : Device) : (setCounter a v d).flt = d.flt := rfl
@[simp] theorem setCounter_sq (a : Nat) (v : BitVec 64) (d : Device) : (setCounter a v d).sq = d.sq := rfl
@[simp] theorem setCounter_ports (a : Nat) (v : BitVec 64) (d : Device) : (setCounter a v d).ports = d.ports := rfl
@[simp] theorem setCounter_buf (a : Nat) (v : BitVec 64) (d : Device) : (setCounter a v d).buf = d.buf := rfl
@[simp] theorem setCounter_fwd (a : Nat) (v : BitVec 64) (d : Device) : (setCounter a v d).fwd = d.fwd := rfl
@[simp] theorem setCounter_tim (a : Nat) (v : BitVec 64) (d : Device) : (setCounter a v d).tim = d.tim := rfl
@[simp] theorem setCounter_sch (a : Nat) (v : BitVec 64) (d : Device) : (setCounter a v d).sch = d.sch := rfl
@[simp] theorem setCounter_asd (a : Nat) (v : BitVec 64) (d : Device) : (setCounter a v d).asd = d.asd := rfl
@[simp] theorem setCounter_fwl (a : Nat) (v : BitVec 64) (d : Device) : (setCounter a v d).fwl = d.fwl := rfl
@[simp] theorem setCounter_msc (a : Nat) (v : BitVec 64) (d : Device) : (setCounter a v d).msc = d.msc := rfl
@[simp] theorem setCounter_keeper (a : Nat) (v : BitVec 64) (d : Device) : (setCounter a v d).keeper = d.keeper := rfl
@[simp] theorem setCounter_pair (a : Nat) (v : BitVec 64) (d : Device) : (setCounter a v d).pair = d.pair := rfl
@[simp] theorem setCounter_wy (a : Nat) (v : BitVec 64) (d : Device) : (setCounter a v d).wy = d.wy := rfl
@[simp] theorem setCounter_top (a : Nat) (v : BitVec 64) (d : Device) : (setCounter a v d).top = d.top := rfl
@[simp] theorem setCounter_can (a : Nat) (v : BitVec 64) (d : Device) : (setCounter a v d).can = d.can := rfl
@[simp] theorem setCounter_mvb (a : Nat) (v : BitVec 64) (d : Device) : (setCounter a v d).mvb = d.mvb := rfl
@[simp] theorem setCounter_gw (a : Nat) (v : BitVec 64) (d : Device) : (setCounter a v d).gw = d.gw := rfl
@[simp] theorem setCounter_ssn (a : Nat) (v : BitVec 64) (d : Device) : (setCounter a v d).ssn = d.ssn := rfl
@[simp] theorem setCounter_boot (a : Nat) (v : BitVec 64) (d : Device) : (setCounter a v d).boot = d.boot := rfl
@[simp] theorem setCounter_flash (a : Nat) (v : BitVec 64) (d : Device) : (setCounter a v d).flash = d.flash := rfl
@[simp] theorem setCounter_dseq (a : Nat) (v : BitVec 64) (d : Device) : (setCounter a v d).dseq = d.dseq := rfl
@[simp] theorem setCounter_ccr (a : Nat) (v : BitVec 64) (d : Device) : (setCounter a v d).ccr = d.ccr := rfl
@[simp] theorem setCounter_sec (a : Nat) (v : BitVec 64) (d : Device) : (setCounter a v d).sec = d.sec := rfl
@[simp] theorem setCounter_hif (a : Nat) (v : BitVec 64) (d : Device) : (setCounter a v d).hif = d.hif := rfl
@[simp] theorem setCounter_ncp (a : Nat) (v : BitVec 64) (d : Device) : (setCounter a v d).ncp = d.ncp := rfl
@[simp] theorem setCounter_clk (a : Nat) (v : BitVec 64) (d : Device) : (setCounter a v d).clk = d.clk := rfl
@[simp] theorem setCounter_otp (a : Nat) (v : BitVec 64) (d : Device) : (setCounter a v d).otp = d.otp := rfl
@[simp] theorem setCounter_keyTable (a : Nat) (v : BitVec 64) (d : Device) : (setCounter a v d).keyTable = d.keyTable := rfl
@[simp] theorem setCounter_certs (a : Nat) (v : BitVec 64) (d : Device) : (setCounter a v d).certs = d.certs := rfl
@[simp] theorem setCounter_freeCtr (a : Nat) (v : BitVec 64) (d : Device) : (setCounter a v d).freeCtr = d.freeCtr := rfl
@[simp] theorem setCounter_out (a : Nat) (v : BitVec 64) (d : Device) : (setCounter a v d).out = d.out := rfl

/-! `bumpBy` writes ctr -/

@[simp] theorem bumpBy_now (a n : Nat) (d : Device) : (bumpBy a n d).now = d.now := rfl
@[simp] theorem bumpBy_cfg (a n : Nat) (d : Device) : (bumpBy a n d).cfg = d.cfg := rfl
@[simp] theorem bumpBy_oldCfgs (a n : Nat) (d : Device) : (bumpBy a n d).oldCfgs = d.oldCfgs := rfl
@[simp] theorem bumpBy_switching (a n : Nat) (d : Device) : (bumpBy a n d).switching = d.switching := rfl
@[simp] theorem bumpBy_glb (a n : Nat) (d : Device) : (bumpBy a n d).glb = d.glb := rfl
@[simp] theorem bumpBy_flt (a n : Nat) (d : Device) : (bumpBy a n d).flt = d.flt := rfl
@[simp] theorem bumpBy_sq (a n : Nat) (d : Device) : (bumpBy a n d).sq = d.sq := rfl
@[simp] theorem bumpBy_ports (a n : Nat) (d : Device) : (bumpBy a n d).ports = d.ports := rfl
@[simp] theorem bumpBy_buf (a n : Nat) (d : Device) : (bumpBy a n d).buf = d.buf := rfl
@[simp] theorem bumpBy_fwd (a n : Nat) (d : Device) : (bumpBy a n d).fwd = d.fwd := rfl
@[simp] theorem bumpBy_tim (a n : Nat) (d : Device) : (bumpBy a n d).tim = d.tim := rfl
@[simp] theorem bumpBy_sch (a n : Nat) (d : Device) : (bumpBy a n d).sch = d.sch := rfl
@[simp] theorem bumpBy_asd (a n : Nat) (d : Device) : (bumpBy a n d).asd = d.asd := rfl
@[simp] theorem bumpBy_fwl (a n : Nat) (d : Device) : (bumpBy a n d).fwl = d.fwl := rfl
@[simp] theorem bumpBy_msc (a n : Nat) (d : Device) : (bumpBy a n d).msc = d.msc := rfl
@[simp] theorem bumpBy_keeper (a n : Nat) (d : Device) : (bumpBy a n d).keeper = d.keeper := rfl
@[simp] theorem bumpBy_pair (a n : Nat) (d : Device) : (bumpBy a n d).pair = d.pair := rfl
@[simp] theorem bumpBy_wy (a n : Nat) (d : Device) : (bumpBy a n d).wy = d.wy := rfl
@[simp] theorem bumpBy_top (a n : Nat) (d : Device) : (bumpBy a n d).top = d.top := rfl
@[simp] theorem bumpBy_can (a n : Nat) (d : Device) : (bumpBy a n d).can = d.can := rfl
@[simp] theorem bumpBy_mvb (a n : Nat) (d : Device) : (bumpBy a n d).mvb = d.mvb := rfl
@[simp] theorem bumpBy_gw (a n : Nat) (d : Device) : (bumpBy a n d).gw = d.gw := rfl
@[simp] theorem bumpBy_ssn (a n : Nat) (d : Device) : (bumpBy a n d).ssn = d.ssn := rfl
@[simp] theorem bumpBy_boot (a n : Nat) (d : Device) : (bumpBy a n d).boot = d.boot := rfl
@[simp] theorem bumpBy_flash (a n : Nat) (d : Device) : (bumpBy a n d).flash = d.flash := rfl
@[simp] theorem bumpBy_dseq (a n : Nat) (d : Device) : (bumpBy a n d).dseq = d.dseq := rfl
@[simp] theorem bumpBy_ccr (a n : Nat) (d : Device) : (bumpBy a n d).ccr = d.ccr := rfl
@[simp] theorem bumpBy_sec (a n : Nat) (d : Device) : (bumpBy a n d).sec = d.sec := rfl
@[simp] theorem bumpBy_hif (a n : Nat) (d : Device) : (bumpBy a n d).hif = d.hif := rfl
@[simp] theorem bumpBy_ncp (a n : Nat) (d : Device) : (bumpBy a n d).ncp = d.ncp := rfl
@[simp] theorem bumpBy_clk (a n : Nat) (d : Device) : (bumpBy a n d).clk = d.clk := rfl
@[simp] theorem bumpBy_otp (a n : Nat) (d : Device) : (bumpBy a n d).otp = d.otp := rfl
@[simp] theorem bumpBy_keyTable (a n : Nat) (d : Device) : (bumpBy a n d).keyTable = d.keyTable := rfl
@[simp] theorem bumpBy_certs (a n : Nat) (d : Device) : (bumpBy a n d).certs = d.certs := rfl
@[simp] theorem bumpBy_freeCtr (a n : Nat) (d : Device) : (bumpBy a n d).freeCtr = d.freeCtr := rfl
@[simp] theorem bumpBy_out (a n : Nat) (d : Device) : (bumpBy a n d).out = d.out := rfl

/-! `bump` writes ctr -/

@[simp] theorem bump_now (a : Nat) (d : Device) : (bump a d).now = d.now := rfl
@[simp] theorem bump_cfg (a : Nat) (d : Device) : (bump a d).cfg = d.cfg := rfl
@[simp] theorem bump_oldCfgs (a : Nat) (d : Device) : (bump a d).oldCfgs = d.oldCfgs := rfl
@[simp] theorem bump_switching (a : Nat) (d : Device) : (bump a d).switching = d.switching := rfl
@[simp] theorem bump_glb (a : Nat) (d : Device) : (bump a d).glb = d.glb := rfl
@[simp] theorem bump_flt (a : Nat) (d : Device) : (bump a d).flt = d.flt := rfl
@[simp] theorem bump_sq (a : Nat) (d : Device) : (bump a d).sq = d.sq := rfl
@[simp] theorem bump_ports (a : Nat) (d : Device) : (bump a d).ports = d.ports := rfl
@[simp] theorem bump_buf (a : Nat) (d : Device) : (bump a d).buf = d.buf := rfl
@[simp] theorem bump_fwd (a : Nat) (d : Device) : (bump a d).fwd = d.fwd := rfl
@[simp] theorem bump_tim (a : Nat) (d : Device) : (bump a d).tim = d.tim := rfl
@[simp] theorem bump_sch (a : Nat) (d : Device) : (bump a d).sch = d.sch := rfl
@[simp] theorem bump_asd (a : Nat) (d : Device) : (bump a d).asd = d.asd := rfl
@[simp] theorem bump_fwl (a : Nat) (d : Device) : (bump a d).fwl = d.fwl := rfl
@[simp] theorem bump_msc (a : Nat) (d : Device) : (bump a d).msc = d.msc := rfl
@[simp] theorem bump_keeper (a : Nat) (d : Device) : (bump a d).keeper = d.keeper := rfl
@[simp] theorem bump_pair (a : Nat) (d : Device) : (bump a d).pair = d.pair := rfl
@[simp] theorem bump_wy (a : Nat) (d : Device) : (bump a d).wy = d.wy := rfl
@[simp] theorem bump_top (a : Nat) (d : Device) : (bump a d).top = d.top := rfl
@[simp] theorem bump_can (a : Nat) (d : Device) : (bump a d).can = d.can := rfl
@[simp] theorem bump_mvb (a : Nat) (d : Device) : (bump a d).mvb = d.mvb := rfl
@[simp] theorem bump_gw (a : Nat) (d : Device) : (bump a d).gw = d.gw := rfl
@[simp] theorem bump_ssn (a : Nat) (d : Device) : (bump a d).ssn = d.ssn := rfl
@[simp] theorem bump_boot (a : Nat) (d : Device) : (bump a d).boot = d.boot := rfl
@[simp] theorem bump_flash (a : Nat) (d : Device) : (bump a d).flash = d.flash := rfl
@[simp] theorem bump_dseq (a : Nat) (d : Device) : (bump a d).dseq = d.dseq := rfl
@[simp] theorem bump_ccr (a : Nat) (d : Device) : (bump a d).ccr = d.ccr := rfl
@[simp] theorem bump_sec (a : Nat) (d : Device) : (bump a d).sec = d.sec := rfl
@[simp] theorem bump_hif (a : Nat) (d : Device) : (bump a d).hif = d.hif := rfl
@[simp] theorem bump_ncp (a : Nat) (d : Device) : (bump a d).ncp = d.ncp := rfl
@[simp] theorem bump_clk (a : Nat) (d : Device) : (bump a d).clk = d.clk := rfl
@[simp] theorem bump_otp (a : Nat) (d : Device) : (bump a d).otp = d.otp := rfl
@[simp] theorem bump_keyTable (a : Nat) (d : Device) : (bump a d).keyTable = d.keyTable := rfl
@[simp] theorem bump_certs (a : Nat) (d : Device) : (bump a d).certs = d.certs := rfl
@[simp] theorem bump_freeCtr (a : Nat) (d : Device) : (bump a d).freeCtr = d.freeCtr := rfl
@[simp] theorem bump_out (a : Nat) (d : Device) : (bump a d).out = d.out := rfl

/-! `countCode` writes ctr -/

@[simp] theorem countCode_now (code chan : Nat) (d : Device) : (countCode code chan d).now = d.now := rfl
@[simp] theorem countCode_cfg (code chan : Nat) (d : Device) : (countCode code chan d).cfg = d.cfg := rfl
@[simp] theorem countCode_oldCfgs (code chan : Nat) (d : Device) : (countCode code chan d).oldCfgs = d.oldCfgs := rfl
@[simp] theorem countCode_switching (code chan : Nat) (d : Device) : (countCode code chan d).switching = d.switching := rfl
@[simp] theorem countCode_glb (code chan : Nat) (d : Device) : (countCode code chan d).glb = d.glb := rfl
@[simp] theorem countCode_flt (code chan : Nat) (d : Device) : (countCode code chan d).flt = d.flt := rfl
@[simp] theorem countCode_sq (code chan : Nat) (d : Device) : (countCode code chan d).sq = d.sq := rfl
@[simp] theorem countCode_ports (code chan : Nat) (d : Device) : (countCode code chan d).ports = d.ports := rfl
@[simp] theorem countCode_buf (code chan : Nat) (d : Device) : (countCode code chan d).buf = d.buf := rfl
@[simp] theorem countCode_fwd (code chan : Nat) (d : Device) : (countCode code chan d).fwd = d.fwd := rfl
@[simp] theorem countCode_tim (code chan : Nat) (d : Device) : (countCode code chan d).tim = d.tim := rfl
@[simp] theorem countCode_sch (code chan : Nat) (d : Device) : (countCode code chan d).sch = d.sch := rfl
@[simp] theorem countCode_asd (code chan : Nat) (d : Device) : (countCode code chan d).asd = d.asd := rfl
@[simp] theorem countCode_fwl (code chan : Nat) (d : Device) : (countCode code chan d).fwl = d.fwl := rfl
@[simp] theorem countCode_msc (code chan : Nat) (d : Device) : (countCode code chan d).msc = d.msc := rfl
@[simp] theorem countCode_keeper (code chan : Nat) (d : Device) : (countCode code chan d).keeper = d.keeper := rfl
@[simp] theorem countCode_pair (code chan : Nat) (d : Device) : (countCode code chan d).pair = d.pair := rfl
@[simp] theorem countCode_wy (code chan : Nat) (d : Device) : (countCode code chan d).wy = d.wy := rfl
@[simp] theorem countCode_top (code chan : Nat) (d : Device) : (countCode code chan d).top = d.top := rfl
@[simp] theorem countCode_can (code chan : Nat) (d : Device) : (countCode code chan d).can = d.can := rfl
@[simp] theorem countCode_mvb (code chan : Nat) (d : Device) : (countCode code chan d).mvb = d.mvb := rfl
@[simp] theorem countCode_gw (code chan : Nat) (d : Device) : (countCode code chan d).gw = d.gw := rfl
@[simp] theorem countCode_ssn (code chan : Nat) (d : Device) : (countCode code chan d).ssn = d.ssn := rfl
@[simp] theorem countCode_boot (code chan : Nat) (d : Device) : (countCode code chan d).boot = d.boot := rfl
@[simp] theorem countCode_flash (code chan : Nat) (d : Device) : (countCode code chan d).flash = d.flash := rfl
@[simp] theorem countCode_dseq (code chan : Nat) (d : Device) : (countCode code chan d).dseq = d.dseq := rfl
@[simp] theorem countCode_ccr (code chan : Nat) (d : Device) : (countCode code chan d).ccr = d.ccr := rfl
@[simp] theorem countCode_sec (code chan : Nat) (d : Device) : (countCode code chan d).sec = d.sec := rfl
@[simp] theorem countCode_hif (code chan : Nat) (d : Device) : (countCode code chan d).hif = d.hif := rfl
@[simp] theorem countCode_ncp (code chan : Nat) (d : Device) : (countCode code chan d).ncp = d.ncp := rfl
@[simp] theorem countCode_clk (code chan : Nat) (d : Device) : (countCode code chan d).clk = d.clk := rfl
@[simp] theorem countCode_otp (code chan : Nat) (d : Device) : (countCode code chan d).otp = d.otp := rfl
@[simp] theorem countCode_keyTable (code chan : Nat) (d : Device) : (countCode code chan d).keyTable = d.keyTable := rfl
@[simp] theorem countCode_certs (code chan : Nat) (d : Device) : (countCode code chan d).certs = d.certs := rfl
@[simp] theorem countCode_freeCtr (code chan : Nat) (d : Device) : (countCode code chan d).freeCtr = d.freeCtr := rfl
@[simp] theorem countCode_out (code chan : Nat) (d : Device) : (countCode code chan d).out = d.out := rfl

/-! `setSq` writes sq -/

@[simp] theorem setSq_now (reg bit : Nat) (d : Device) : (setSq reg bit d).now = d.now := rfl
@[simp] theorem setSq_cfg (reg bit : Nat) (d : Device) : (setSq reg bit d).cfg = d.cfg := rfl
@[simp] theorem setSq_oldCfgs (reg bit : Nat) (d : Device) : (setSq reg bit d).oldCfgs = d.oldCfgs := rfl
@[simp] theorem setSq_switching (reg bit : Nat) (d : Device) : (setSq reg bit d).switching = d.switching := rfl
@[simp] theorem setSq_glb (reg bit : Nat) (d : Device) : (setSq reg bit d).glb = d.glb := rfl
@[simp] theorem setSq_flt (reg bit : Nat) (d : Device) : (setSq reg bit d).flt = d.flt := rfl
@[simp] theorem setSq_ctr (reg bit : Nat) (d : Device) : (setSq reg bit d).ctr = d.ctr := rfl
@[simp] theorem setSq_ports (reg bit : Nat) (d : Device) : (setSq reg bit d).ports = d.ports := rfl
@[simp] theorem setSq_buf (reg bit : Nat) (d : Device) : (setSq reg bit d).buf = d.buf := rfl
@[simp] theorem setSq_fwd (reg bit : Nat) (d : Device) : (setSq reg bit d).fwd = d.fwd := rfl
@[simp] theorem setSq_tim (reg bit : Nat) (d : Device) : (setSq reg bit d).tim = d.tim := rfl
@[simp] theorem setSq_sch (reg bit : Nat) (d : Device) : (setSq reg bit d).sch = d.sch := rfl
@[simp] theorem setSq_asd (reg bit : Nat) (d : Device) : (setSq reg bit d).asd = d.asd := rfl
@[simp] theorem setSq_fwl (reg bit : Nat) (d : Device) : (setSq reg bit d).fwl = d.fwl := rfl
@[simp] theorem setSq_msc (reg bit : Nat) (d : Device) : (setSq reg bit d).msc = d.msc := rfl
@[simp] theorem setSq_keeper (reg bit : Nat) (d : Device) : (setSq reg bit d).keeper = d.keeper := rfl
@[simp] theorem setSq_pair (reg bit : Nat) (d : Device) : (setSq reg bit d).pair = d.pair := rfl
@[simp] theorem setSq_wy (reg bit : Nat) (d : Device) : (setSq reg bit d).wy = d.wy := rfl
@[simp] theorem setSq_top (reg bit : Nat) (d : Device) : (setSq reg bit d).top = d.top := rfl
@[simp] theorem setSq_can (reg bit : Nat) (d : Device) : (setSq reg bit d).can = d.can := rfl
@[simp] theorem setSq_mvb (reg bit : Nat) (d : Device) : (setSq reg bit d).mvb = d.mvb := rfl
@[simp] theorem setSq_gw (reg bit : Nat) (d : Device) : (setSq reg bit d).gw = d.gw := rfl
@[simp] theorem setSq_ssn (reg bit : Nat) (d : Device) : (setSq reg bit d).ssn = d.ssn := rfl
@[simp] theorem setSq_boot (reg bit : Nat) (d : Device) : (setSq reg bit d).boot = d.boot := rfl
@[simp] theorem setSq_flash (reg bit : Nat) (d : Device) : (setSq reg bit d).flash = d.flash := rfl
@[simp] theorem setSq_dseq (reg bit : Nat) (d : Device) : (setSq reg bit d).dseq = d.dseq := rfl
@[simp] theorem setSq_ccr (reg bit : Nat) (d : Device) : (setSq reg bit d).ccr = d.ccr := rfl
@[simp] theorem setSq_sec (reg bit : Nat) (d : Device) : (setSq reg bit d).sec = d.sec := rfl
@[simp] theorem setSq_hif (reg bit : Nat) (d : Device) : (setSq reg bit d).hif = d.hif := rfl
@[simp] theorem setSq_ncp (reg bit : Nat) (d : Device) : (setSq reg bit d).ncp = d.ncp := rfl
@[simp] theorem setSq_clk (reg bit : Nat) (d : Device) : (setSq reg bit d).clk = d.clk := rfl
@[simp] theorem setSq_otp (reg bit : Nat) (d : Device) : (setSq reg bit d).otp = d.otp := rfl
@[simp] theorem setSq_keyTable (reg bit : Nat) (d : Device) : (setSq reg bit d).keyTable = d.keyTable := rfl
@[simp] theorem setSq_certs (reg bit : Nat) (d : Device) : (setSq reg bit d).certs = d.certs := rfl
@[simp] theorem setSq_freeCtr (reg bit : Nat) (d : Device) : (setSq reg bit d).freeCtr = d.freeCtr := rfl
@[simp] theorem setSq_out (reg bit : Nat) (d : Device) : (setSq reg bit d).out = d.out := rfl

/-! `clearSq` writes sq -/

@[simp] theorem clearSq_now (reg : Nat) (w : Word) (d : Device) : (clearSq reg w d).now = d.now := by unfold clearSq; dsimp only; split <;> rfl
@[simp] theorem clearSq_cfg (reg : Nat) (w : Word) (d : Device) : (clearSq reg w d).cfg = d.cfg := by unfold clearSq; dsimp only; split <;> rfl
@[simp] theorem clearSq_oldCfgs (reg : Nat) (w : Word) (d : Device) : (clearSq reg w d).oldCfgs = d.oldCfgs := by unfold clearSq; dsimp only; split <;> rfl
@[simp] theorem clearSq_switching (reg : Nat) (w : Word) (d : Device) : (clearSq reg w d).switching = d.switching := by unfold clearSq; dsimp only; split <;> rfl
@[simp] theorem clearSq_glb (reg : Nat) (w : Word) (d : Device) : (clearSq reg w d).glb = d.glb := by unfold clearSq; dsimp only; split <;> rfl
@[simp] theorem clearSq_flt (reg : Nat) (w : Word) (d : Device) : (clearSq reg w d).flt = d.flt := by unfold clearSq; dsimp only; split <;> rfl
@[simp] theorem clearSq_ctr (reg : Nat) (w : Word) (d : Device) : (clearSq reg w d).ctr = d.ctr := by unfold clearSq; dsimp only; split <;> rfl
@[simp] theorem clearSq_ports (reg : Nat) (w : Word) (d : Device) : (clearSq reg w d).ports = d.ports := by unfold clearSq; dsimp only; split <;> rfl
@[simp] theorem clearSq_buf (reg : Nat) (w : Word) (d : Device) : (clearSq reg w d).buf = d.buf := by unfold clearSq; dsimp only; split <;> rfl
@[simp] theorem clearSq_fwd (reg : Nat) (w : Word) (d : Device) : (clearSq reg w d).fwd = d.fwd := by unfold clearSq; dsimp only; split <;> rfl
@[simp] theorem clearSq_tim (reg : Nat) (w : Word) (d : Device) : (clearSq reg w d).tim = d.tim := by unfold clearSq; dsimp only; split <;> rfl
@[simp] theorem clearSq_sch (reg : Nat) (w : Word) (d : Device) : (clearSq reg w d).sch = d.sch := by unfold clearSq; dsimp only; split <;> rfl
@[simp] theorem clearSq_asd (reg : Nat) (w : Word) (d : Device) : (clearSq reg w d).asd = d.asd := by unfold clearSq; dsimp only; split <;> rfl
@[simp] theorem clearSq_fwl (reg : Nat) (w : Word) (d : Device) : (clearSq reg w d).fwl = d.fwl := by unfold clearSq; dsimp only; split <;> rfl
@[simp] theorem clearSq_msc (reg : Nat) (w : Word) (d : Device) : (clearSq reg w d).msc = d.msc := by unfold clearSq; dsimp only; split <;> rfl
@[simp] theorem clearSq_keeper (reg : Nat) (w : Word) (d : Device) : (clearSq reg w d).keeper = d.keeper := by unfold clearSq; dsimp only; split <;> rfl
@[simp] theorem clearSq_pair (reg : Nat) (w : Word) (d : Device) : (clearSq reg w d).pair = d.pair := by unfold clearSq; dsimp only; split <;> rfl
@[simp] theorem clearSq_wy (reg : Nat) (w : Word) (d : Device) : (clearSq reg w d).wy = d.wy := by unfold clearSq; dsimp only; split <;> rfl
@[simp] theorem clearSq_top (reg : Nat) (w : Word) (d : Device) : (clearSq reg w d).top = d.top := by unfold clearSq; dsimp only; split <;> rfl
@[simp] theorem clearSq_can (reg : Nat) (w : Word) (d : Device) : (clearSq reg w d).can = d.can := by unfold clearSq; dsimp only; split <;> rfl
@[simp] theorem clearSq_mvb (reg : Nat) (w : Word) (d : Device) : (clearSq reg w d).mvb = d.mvb := by unfold clearSq; dsimp only; split <;> rfl
@[simp] theorem clearSq_gw (reg : Nat) (w : Word) (d : Device) : (clearSq reg w d).gw = d.gw := by unfold clearSq; dsimp only; split <;> rfl
@[simp] theorem clearSq_ssn (reg : Nat) (w : Word) (d : Device) : (clearSq reg w d).ssn = d.ssn := by unfold clearSq; dsimp only; split <;> rfl
@[simp] theorem clearSq_boot (reg : Nat) (w : Word) (d : Device) : (clearSq reg w d).boot = d.boot := by unfold clearSq; dsimp only; split <;> rfl
@[simp] theorem clearSq_flash (reg : Nat) (w : Word) (d : Device) : (clearSq reg w d).flash = d.flash := by unfold clearSq; dsimp only; split <;> rfl
@[simp] theorem clearSq_dseq (reg : Nat) (w : Word) (d : Device) : (clearSq reg w d).dseq = d.dseq := by unfold clearSq; dsimp only; split <;> rfl
@[simp] theorem clearSq_ccr (reg : Nat) (w : Word) (d : Device) : (clearSq reg w d).ccr = d.ccr := by unfold clearSq; dsimp only; split <;> rfl
@[simp] theorem clearSq_sec (reg : Nat) (w : Word) (d : Device) : (clearSq reg w d).sec = d.sec := by unfold clearSq; dsimp only; split <;> rfl
@[simp] theorem clearSq_hif (reg : Nat) (w : Word) (d : Device) : (clearSq reg w d).hif = d.hif := by unfold clearSq; dsimp only; split <;> rfl
@[simp] theorem clearSq_ncp (reg : Nat) (w : Word) (d : Device) : (clearSq reg w d).ncp = d.ncp := by unfold clearSq; dsimp only; split <;> rfl
@[simp] theorem clearSq_clk (reg : Nat) (w : Word) (d : Device) : (clearSq reg w d).clk = d.clk := by unfold clearSq; dsimp only; split <;> rfl
@[simp] theorem clearSq_otp (reg : Nat) (w : Word) (d : Device) : (clearSq reg w d).otp = d.otp := by unfold clearSq; dsimp only; split <;> rfl
@[simp] theorem clearSq_keyTable (reg : Nat) (w : Word) (d : Device) : (clearSq reg w d).keyTable = d.keyTable := by unfold clearSq; dsimp only; split <;> rfl
@[simp] theorem clearSq_certs (reg : Nat) (w : Word) (d : Device) : (clearSq reg w d).certs = d.certs := by unfold clearSq; dsimp only; split <;> rfl
@[simp] theorem clearSq_freeCtr (reg : Nat) (w : Word) (d : Device) : (clearSq reg w d).freeCtr = d.freeCtr := by unfold clearSq; dsimp only; split <;> rfl
@[simp] theorem clearSq_out (reg : Nat) (w : Word) (d : Device) : (clearSq reg w d).out = d.out := by unfold clearSq; dsimp only; split <;> rfl

/-! `fireFor` writes out -/

@[simp] theorem fireFor_now (reg bit : Nat) (d : Device) : (fireFor reg bit d).now = d.now := by unfold fireFor; dsimp only; split; rfl; split; rfl; split <;> rfl
@[simp] theorem fireFor_cfg (reg bit : Nat) (d : Device) : (fireFor reg bit d).cfg = d.cfg := by unfold fireFor; dsimp only; split; rfl; split; rfl; split <;> rfl
@[simp] theorem fireFor_oldCfgs (reg bit : Nat) (d : Device) : (fireFor reg bit d).oldCfgs = d.oldCfgs := by unfold fireFor; dsimp only; split; rfl; split; rfl; split <;> rfl
@[simp] theorem fireFor_switching (reg bit : Nat) (d : Device) : (fireFor reg bit d).switching = d.switching := by unfold fireFor; dsimp only; split; rfl; split; rfl; split <;> rfl
@[simp] theorem fireFor_glb (reg bit : Nat) (d : Device) : (fireFor reg bit d).glb = d.glb := by unfold fireFor; dsimp only; split; rfl; split; rfl; split <;> rfl
@[simp] theorem fireFor_flt (reg bit : Nat) (d : Device) : (fireFor reg bit d).flt = d.flt := by unfold fireFor; dsimp only; split; rfl; split; rfl; split <;> rfl
@[simp] theorem fireFor_sq (reg bit : Nat) (d : Device) : (fireFor reg bit d).sq = d.sq := by unfold fireFor; dsimp only; split; rfl; split; rfl; split <;> rfl
@[simp] theorem fireFor_ctr (reg bit : Nat) (d : Device) : (fireFor reg bit d).ctr = d.ctr := by unfold fireFor; dsimp only; split; rfl; split; rfl; split <;> rfl
@[simp] theorem fireFor_ports (reg bit : Nat) (d : Device) : (fireFor reg bit d).ports = d.ports := by unfold fireFor; dsimp only; split; rfl; split; rfl; split <;> rfl
@[simp] theorem fireFor_buf (reg bit : Nat) (d : Device) : (fireFor reg bit d).buf = d.buf := by unfold fireFor; dsimp only; split; rfl; split; rfl; split <;> rfl
@[simp] theorem fireFor_fwd (reg bit : Nat) (d : Device) : (fireFor reg bit d).fwd = d.fwd := by unfold fireFor; dsimp only; split; rfl; split; rfl; split <;> rfl
@[simp] theorem fireFor_tim (reg bit : Nat) (d : Device) : (fireFor reg bit d).tim = d.tim := by unfold fireFor; dsimp only; split; rfl; split; rfl; split <;> rfl
@[simp] theorem fireFor_sch (reg bit : Nat) (d : Device) : (fireFor reg bit d).sch = d.sch := by unfold fireFor; dsimp only; split; rfl; split; rfl; split <;> rfl
@[simp] theorem fireFor_asd (reg bit : Nat) (d : Device) : (fireFor reg bit d).asd = d.asd := by unfold fireFor; dsimp only; split; rfl; split; rfl; split <;> rfl
@[simp] theorem fireFor_fwl (reg bit : Nat) (d : Device) : (fireFor reg bit d).fwl = d.fwl := by unfold fireFor; dsimp only; split; rfl; split; rfl; split <;> rfl
@[simp] theorem fireFor_msc (reg bit : Nat) (d : Device) : (fireFor reg bit d).msc = d.msc := by unfold fireFor; dsimp only; split; rfl; split; rfl; split <;> rfl
@[simp] theorem fireFor_keeper (reg bit : Nat) (d : Device) : (fireFor reg bit d).keeper = d.keeper := by unfold fireFor; dsimp only; split; rfl; split; rfl; split <;> rfl
@[simp] theorem fireFor_pair (reg bit : Nat) (d : Device) : (fireFor reg bit d).pair = d.pair := by unfold fireFor; dsimp only; split; rfl; split; rfl; split <;> rfl
@[simp] theorem fireFor_wy (reg bit : Nat) (d : Device) : (fireFor reg bit d).wy = d.wy := by unfold fireFor; dsimp only; split; rfl; split; rfl; split <;> rfl
@[simp] theorem fireFor_top (reg bit : Nat) (d : Device) : (fireFor reg bit d).top = d.top := by unfold fireFor; dsimp only; split; rfl; split; rfl; split <;> rfl
@[simp] theorem fireFor_can (reg bit : Nat) (d : Device) : (fireFor reg bit d).can = d.can := by unfold fireFor; dsimp only; split; rfl; split; rfl; split <;> rfl
@[simp] theorem fireFor_mvb (reg bit : Nat) (d : Device) : (fireFor reg bit d).mvb = d.mvb := by unfold fireFor; dsimp only; split; rfl; split; rfl; split <;> rfl
@[simp] theorem fireFor_gw (reg bit : Nat) (d : Device) : (fireFor reg bit d).gw = d.gw := by unfold fireFor; dsimp only; split; rfl; split; rfl; split <;> rfl
@[simp] theorem fireFor_ssn (reg bit : Nat) (d : Device) : (fireFor reg bit d).ssn = d.ssn := by unfold fireFor; dsimp only; split; rfl; split; rfl; split <;> rfl
@[simp] theorem fireFor_boot (reg bit : Nat) (d : Device) : (fireFor reg bit d).boot = d.boot := by unfold fireFor; dsimp only; split; rfl; split; rfl; split <;> rfl
@[simp] theorem fireFor_flash (reg bit : Nat) (d : Device) : (fireFor reg bit d).flash = d.flash := by unfold fireFor; dsimp only; split; rfl; split; rfl; split <;> rfl
@[simp] theorem fireFor_dseq (reg bit : Nat) (d : Device) : (fireFor reg bit d).dseq = d.dseq := by unfold fireFor; dsimp only; split; rfl; split; rfl; split <;> rfl
@[simp] theorem fireFor_ccr (reg bit : Nat) (d : Device) : (fireFor reg bit d).ccr = d.ccr := by unfold fireFor; dsimp only; split; rfl; split; rfl; split <;> rfl
@[simp] theorem fireFor_sec (reg bit : Nat) (d : Device) : (fireFor reg bit d).sec = d.sec := by unfold fireFor; dsimp only; split; rfl; split; rfl; split <;> rfl
@[simp] theorem fireFor_hif (reg bit : Nat) (d : Device) : (fireFor reg bit d).hif = d.hif := by unfold fireFor; dsimp only; split; rfl; split; rfl; split <;> rfl
@[simp] theorem fireFor_ncp (reg bit : Nat) (d : Device) : (fireFor reg bit d).ncp = d.ncp := by unfold fireFor; dsimp only; split; rfl; split; rfl; split <;> rfl
@[simp] theorem fireFor_clk (reg bit : Nat) (d : Device) : (fireFor reg bit d).clk = d.clk := by unfold fireFor; dsimp only; split; rfl; split; rfl; split <;> rfl
@[simp] theorem fireFor_otp (reg bit : Nat) (d : Device) : (fireFor reg bit d).otp = d.otp := by unfold fireFor; dsimp only; split; rfl; split; rfl; split <;> rfl
@[simp] theorem fireFor_keyTable (reg bit : Nat) (d : Device) : (fireFor reg bit d).keyTable = d.keyTable := by unfold fireFor; dsimp only; split; rfl; split; rfl; split <;> rfl
@[simp] theorem fireFor_certs (reg bit : Nat) (d : Device) : (fireFor reg bit d).certs = d.certs := by unfold fireFor; dsimp only; split; rfl; split; rfl; split <;> rfl
@[simp] theorem fireFor_freeCtr (reg bit : Nat) (d : Device) : (fireFor reg bit d).freeCtr = d.freeCtr := by unfold fireFor; dsimp only; split; rfl; split; rfl; split <;> rfl

/-! `notices` writes flt, out -/

@[simp] theorem notices_now (code : BitVec 16) (chan : Nat) (d : Device) : (notices code chan d).now = d.now := by unfold notices; exact foldl_keeps Device.now _ (by intro d x; obtain ⟨s, n⟩ := x; dsimp only; (repeat' split) <;> rfl) _ _
@[simp] theorem notices_cfg (code : BitVec 16) (chan : Nat) (d : Device) : (notices code chan d).cfg = d.cfg := by unfold notices; exact foldl_keeps Device.cfg _ (by intro d x; obtain ⟨s, n⟩ := x; dsimp only; (repeat' split) <;> rfl) _ _
@[simp] theorem notices_oldCfgs (code : BitVec 16) (chan : Nat) (d : Device) : (notices code chan d).oldCfgs = d.oldCfgs := by unfold notices; exact foldl_keeps Device.oldCfgs _ (by intro d x; obtain ⟨s, n⟩ := x; dsimp only; (repeat' split) <;> rfl) _ _
@[simp] theorem notices_switching (code : BitVec 16) (chan : Nat) (d : Device) : (notices code chan d).switching = d.switching := by unfold notices; exact foldl_keeps Device.switching _ (by intro d x; obtain ⟨s, n⟩ := x; dsimp only; (repeat' split) <;> rfl) _ _
@[simp] theorem notices_glb (code : BitVec 16) (chan : Nat) (d : Device) : (notices code chan d).glb = d.glb := by unfold notices; exact foldl_keeps Device.glb _ (by intro d x; obtain ⟨s, n⟩ := x; dsimp only; (repeat' split) <;> rfl) _ _
@[simp] theorem notices_sq (code : BitVec 16) (chan : Nat) (d : Device) : (notices code chan d).sq = d.sq := by unfold notices; exact foldl_keeps Device.sq _ (by intro d x; obtain ⟨s, n⟩ := x; dsimp only; (repeat' split) <;> rfl) _ _
@[simp] theorem notices_ctr (code : BitVec 16) (chan : Nat) (d : Device) : (notices code chan d).ctr = d.ctr := by unfold notices; exact foldl_keeps Device.ctr _ (by intro d x; obtain ⟨s, n⟩ := x; dsimp only; (repeat' split) <;> rfl) _ _
@[simp] theorem notices_ports (code : BitVec 16) (chan : Nat) (d : Device) : (notices code chan d).ports = d.ports := by unfold notices; exact foldl_keeps Device.ports _ (by intro d x; obtain ⟨s, n⟩ := x; dsimp only; (repeat' split) <;> rfl) _ _
@[simp] theorem notices_buf (code : BitVec 16) (chan : Nat) (d : Device) : (notices code chan d).buf = d.buf := by unfold notices; exact foldl_keeps Device.buf _ (by intro d x; obtain ⟨s, n⟩ := x; dsimp only; (repeat' split) <;> rfl) _ _
@[simp] theorem notices_fwd (code : BitVec 16) (chan : Nat) (d : Device) : (notices code chan d).fwd = d.fwd := by unfold notices; exact foldl_keeps Device.fwd _ (by intro d x; obtain ⟨s, n⟩ := x; dsimp only; (repeat' split) <;> rfl) _ _
@[simp] theorem notices_tim (code : BitVec 16) (chan : Nat) (d : Device) : (notices code chan d).tim = d.tim := by unfold notices; exact foldl_keeps Device.tim _ (by intro d x; obtain ⟨s, n⟩ := x; dsimp only; (repeat' split) <;> rfl) _ _
@[simp] theorem notices_sch (code : BitVec 16) (chan : Nat) (d : Device) : (notices code chan d).sch = d.sch := by unfold notices; exact foldl_keeps Device.sch _ (by intro d x; obtain ⟨s, n⟩ := x; dsimp only; (repeat' split) <;> rfl) _ _
@[simp] theorem notices_asd (code : BitVec 16) (chan : Nat) (d : Device) : (notices code chan d).asd = d.asd := by unfold notices; exact foldl_keeps Device.asd _ (by intro d x; obtain ⟨s, n⟩ := x; dsimp only; (repeat' split) <;> rfl) _ _
@[simp] theorem notices_fwl (code : BitVec 16) (chan : Nat) (d : Device) : (notices code chan d).fwl = d.fwl := by unfold notices; exact foldl_keeps Device.fwl _ (by intro d x; obtain ⟨s, n⟩ := x; dsimp only; (repeat' split) <;> rfl) _ _
@[simp] theorem notices_msc (code : BitVec 16) (chan : Nat) (d : Device) : (notices code chan d).msc = d.msc := by unfold notices; exact foldl_keeps Device.msc _ (by intro d x; obtain ⟨s, n⟩ := x; dsimp only; (repeat' split) <;> rfl) _ _
@[simp] theorem notices_keeper (code : BitVec 16) (chan : Nat) (d : Device) : (notices code chan d).keeper = d.keeper := by unfold notices; exact foldl_keeps Device.keeper _ (by intro d x; obtain ⟨s, n⟩ := x; dsimp only; (repeat' split) <;> rfl) _ _
@[simp] theorem notices_pair (code : BitVec 16) (chan : Nat) (d : Device) : (notices code chan d).pair = d.pair := by unfold notices; exact foldl_keeps Device.pair _ (by intro d x; obtain ⟨s, n⟩ := x; dsimp only; (repeat' split) <;> rfl) _ _
@[simp] theorem notices_wy (code : BitVec 16) (chan : Nat) (d : Device) : (notices code chan d).wy = d.wy := by unfold notices; exact foldl_keeps Device.wy _ (by intro d x; obtain ⟨s, n⟩ := x; dsimp only; (repeat' split) <;> rfl) _ _
@[simp] theorem notices_top (code : BitVec 16) (chan : Nat) (d : Device) : (notices code chan d).top = d.top := by unfold notices; exact foldl_keeps Device.top _ (by intro d x; obtain ⟨s, n⟩ := x; dsimp only; (repeat' split) <;> rfl) _ _
@[simp] theorem notices_can (code : BitVec 16) (chan : Nat) (d : Device) : (notices code chan d).can = d.can := by unfold notices; exact foldl_keeps Device.can _ (by intro d x; obtain ⟨s, n⟩ := x; dsimp only; (repeat' split) <;> rfl) _ _
@[simp] theorem notices_mvb (code : BitVec 16) (chan : Nat) (d : Device) : (notices code chan d).mvb = d.mvb := by unfold notices; exact foldl_keeps Device.mvb _ (by intro d x; obtain ⟨s, n⟩ := x; dsimp only; (repeat' split) <;> rfl) _ _
@[simp] theorem notices_gw (code : BitVec 16) (chan : Nat) (d : Device) : (notices code chan d).gw = d.gw := by unfold notices; exact foldl_keeps Device.gw _ (by intro d x; obtain ⟨s, n⟩ := x; dsimp only; (repeat' split) <;> rfl) _ _
@[simp] theorem notices_ssn (code : BitVec 16) (chan : Nat) (d : Device) : (notices code chan d).ssn = d.ssn := by unfold notices; exact foldl_keeps Device.ssn _ (by intro d x; obtain ⟨s, n⟩ := x; dsimp only; (repeat' split) <;> rfl) _ _
@[simp] theorem notices_boot (code : BitVec 16) (chan : Nat) (d : Device) : (notices code chan d).boot = d.boot := by unfold notices; exact foldl_keeps Device.boot _ (by intro d x; obtain ⟨s, n⟩ := x; dsimp only; (repeat' split) <;> rfl) _ _
@[simp] theorem notices_flash (code : BitVec 16) (chan : Nat) (d : Device) : (notices code chan d).flash = d.flash := by unfold notices; exact foldl_keeps Device.flash _ (by intro d x; obtain ⟨s, n⟩ := x; dsimp only; (repeat' split) <;> rfl) _ _
@[simp] theorem notices_dseq (code : BitVec 16) (chan : Nat) (d : Device) : (notices code chan d).dseq = d.dseq := by unfold notices; exact foldl_keeps Device.dseq _ (by intro d x; obtain ⟨s, n⟩ := x; dsimp only; (repeat' split) <;> rfl) _ _
@[simp] theorem notices_ccr (code : BitVec 16) (chan : Nat) (d : Device) : (notices code chan d).ccr = d.ccr := by unfold notices; exact foldl_keeps Device.ccr _ (by intro d x; obtain ⟨s, n⟩ := x; dsimp only; (repeat' split) <;> rfl) _ _
@[simp] theorem notices_sec (code : BitVec 16) (chan : Nat) (d : Device) : (notices code chan d).sec = d.sec := by unfold notices; exact foldl_keeps Device.sec _ (by intro d x; obtain ⟨s, n⟩ := x; dsimp only; (repeat' split) <;> rfl) _ _
@[simp] theorem notices_hif (code : BitVec 16) (chan : Nat) (d : Device) : (notices code chan d).hif = d.hif := by unfold notices; exact foldl_keeps Device.hif _ (by intro d x; obtain ⟨s, n⟩ := x; dsimp only; (repeat' split) <;> rfl) _ _
@[simp] theorem notices_ncp (code : BitVec 16) (chan : Nat) (d : Device) : (notices code chan d).ncp = d.ncp := by unfold notices; exact foldl_keeps Device.ncp _ (by intro d x; obtain ⟨s, n⟩ := x; dsimp only; (repeat' split) <;> rfl) _ _
@[simp] theorem notices_clk (code : BitVec 16) (chan : Nat) (d : Device) : (notices code chan d).clk = d.clk := by unfold notices; exact foldl_keeps Device.clk _ (by intro d x; obtain ⟨s, n⟩ := x; dsimp only; (repeat' split) <;> rfl) _ _
@[simp] theorem notices_otp (code : BitVec 16) (chan : Nat) (d : Device) : (notices code chan d).otp = d.otp := by unfold notices; exact foldl_keeps Device.otp _ (by intro d x; obtain ⟨s, n⟩ := x; dsimp only; (repeat' split) <;> rfl) _ _
@[simp] theorem notices_keyTable (code : BitVec 16) (chan : Nat) (d : Device) : (notices code chan d).keyTable = d.keyTable := by unfold notices; exact foldl_keeps Device.keyTable _ (by intro d x; obtain ⟨s, n⟩ := x; dsimp only; (repeat' split) <;> rfl) _ _
@[simp] theorem notices_certs (code : BitVec 16) (chan : Nat) (d : Device) : (notices code chan d).certs = d.certs := by unfold notices; exact foldl_keeps Device.certs _ (by intro d x; obtain ⟨s, n⟩ := x; dsimp only; (repeat' split) <;> rfl) _ _
@[simp] theorem notices_freeCtr (code : BitVec 16) (chan : Nat) (d : Device) : (notices code chan d).freeCtr = d.freeCtr := by unfold notices; exact foldl_keeps Device.freeCtr _ (by intro d x; obtain ⟨s, n⟩ := x; dsimp only; (repeat' split) <;> rfl) _ _

/-! `event` writes flt, out -/

@[simp] theorem event_now (code : BitVec 16) (chan : Nat) (d : Device) : (event code chan d).now = d.now := by simp [event]
@[simp] theorem event_cfg (code : BitVec 16) (chan : Nat) (d : Device) : (event code chan d).cfg = d.cfg := by simp [event]
@[simp] theorem event_oldCfgs (code : BitVec 16) (chan : Nat) (d : Device) : (event code chan d).oldCfgs = d.oldCfgs := by simp [event]
@[simp] theorem event_switching (code : BitVec 16) (chan : Nat) (d : Device) : (event code chan d).switching = d.switching := by simp [event]
@[simp] theorem event_glb (code : BitVec 16) (chan : Nat) (d : Device) : (event code chan d).glb = d.glb := by simp [event]
@[simp] theorem event_sq (code : BitVec 16) (chan : Nat) (d : Device) : (event code chan d).sq = d.sq := by simp [event]
@[simp] theorem event_ctr (code : BitVec 16) (chan : Nat) (d : Device) : (event code chan d).ctr = d.ctr := by simp [event]
@[simp] theorem event_ports (code : BitVec 16) (chan : Nat) (d : Device) : (event code chan d).ports = d.ports := by simp [event]
@[simp] theorem event_buf (code : BitVec 16) (chan : Nat) (d : Device) : (event code chan d).buf = d.buf := by simp [event]
@[simp] theorem event_fwd (code : BitVec 16) (chan : Nat) (d : Device) : (event code chan d).fwd = d.fwd := by simp [event]
@[simp] theorem event_tim (code : BitVec 16) (chan : Nat) (d : Device) : (event code chan d).tim = d.tim := by simp [event]
@[simp] theorem event_sch (code : BitVec 16) (chan : Nat) (d : Device) : (event code chan d).sch = d.sch := by simp [event]
@[simp] theorem event_asd (code : BitVec 16) (chan : Nat) (d : Device) : (event code chan d).asd = d.asd := by simp [event]
@[simp] theorem event_fwl (code : BitVec 16) (chan : Nat) (d : Device) : (event code chan d).fwl = d.fwl := by simp [event]
@[simp] theorem event_msc (code : BitVec 16) (chan : Nat) (d : Device) : (event code chan d).msc = d.msc := by simp [event]
@[simp] theorem event_keeper (code : BitVec 16) (chan : Nat) (d : Device) : (event code chan d).keeper = d.keeper := by simp [event]
@[simp] theorem event_pair (code : BitVec 16) (chan : Nat) (d : Device) : (event code chan d).pair = d.pair := by simp [event]
@[simp] theorem event_wy (code : BitVec 16) (chan : Nat) (d : Device) : (event code chan d).wy = d.wy := by simp [event]
@[simp] theorem event_top (code : BitVec 16) (chan : Nat) (d : Device) : (event code chan d).top = d.top := by simp [event]
@[simp] theorem event_can (code : BitVec 16) (chan : Nat) (d : Device) : (event code chan d).can = d.can := by simp [event]
@[simp] theorem event_mvb (code : BitVec 16) (chan : Nat) (d : Device) : (event code chan d).mvb = d.mvb := by simp [event]
@[simp] theorem event_gw (code : BitVec 16) (chan : Nat) (d : Device) : (event code chan d).gw = d.gw := by simp [event]
@[simp] theorem event_ssn (code : BitVec 16) (chan : Nat) (d : Device) : (event code chan d).ssn = d.ssn := by simp [event]
@[simp] theorem event_boot (code : BitVec 16) (chan : Nat) (d : Device) : (event code chan d).boot = d.boot := by simp [event]
@[simp] theorem event_flash (code : BitVec 16) (chan : Nat) (d : Device) : (event code chan d).flash = d.flash := by simp [event]
@[simp] theorem event_dseq (code : BitVec 16) (chan : Nat) (d : Device) : (event code chan d).dseq = d.dseq := by simp [event]
@[simp] theorem event_ccr (code : BitVec 16) (chan : Nat) (d : Device) : (event code chan d).ccr = d.ccr := by simp [event]
@[simp] theorem event_sec (code : BitVec 16) (chan : Nat) (d : Device) : (event code chan d).sec = d.sec := by simp [event]
@[simp] theorem event_hif (code : BitVec 16) (chan : Nat) (d : Device) : (event code chan d).hif = d.hif := by simp [event]
@[simp] theorem event_ncp (code : BitVec 16) (chan : Nat) (d : Device) : (event code chan d).ncp = d.ncp := by simp [event]
@[simp] theorem event_clk (code : BitVec 16) (chan : Nat) (d : Device) : (event code chan d).clk = d.clk := by simp [event]
@[simp] theorem event_otp (code : BitVec 16) (chan : Nat) (d : Device) : (event code chan d).otp = d.otp := by simp [event]
@[simp] theorem event_keyTable (code : BitVec 16) (chan : Nat) (d : Device) : (event code chan d).keyTable = d.keyTable := by simp [event]
@[simp] theorem event_certs (code : BitVec 16) (chan : Nat) (d : Device) : (event code chan d).certs = d.certs := by simp [event]
@[simp] theorem event_freeCtr (code : BitVec 16) (chan : Nat) (d : Device) : (event code chan d).freeCtr = d.freeCtr := by simp [event]

/-! `raise` writes sq, flt, out -/

@[simp] theorem raise_now (reg bit : Nat) (code : BitVec 16) (chan : Nat) (d : Device) : (raise reg bit code chan d).now = d.now := by simp [raise]
@[simp] theorem raise_cfg (reg bit : Nat) (code : BitVec 16) (chan : Nat) (d : Device) : (raise reg bit code chan d).cfg = d.cfg := by simp [raise]
@[simp] theorem raise_oldCfgs (reg bit : Nat) (code : BitVec 16) (chan : Nat) (d : Device) : (raise reg bit code chan d).oldCfgs = d.oldCfgs := by simp [raise]
@[simp] theorem raise_switching (reg bit : Nat) (code : BitVec 16) (chan : Nat) (d : Device) : (raise reg bit code chan d).switching = d.switching := by simp [raise]
@[simp] theorem raise_glb (reg bit : Nat) (code : BitVec 16) (chan : Nat) (d : Device) : (raise reg bit code chan d).glb = d.glb := by simp [raise]
@[simp] theorem raise_ctr (reg bit : Nat) (code : BitVec 16) (chan : Nat) (d : Device) : (raise reg bit code chan d).ctr = d.ctr := by simp [raise]
@[simp] theorem raise_ports (reg bit : Nat) (code : BitVec 16) (chan : Nat) (d : Device) : (raise reg bit code chan d).ports = d.ports := by simp [raise]
@[simp] theorem raise_buf (reg bit : Nat) (code : BitVec 16) (chan : Nat) (d : Device) : (raise reg bit code chan d).buf = d.buf := by simp [raise]
@[simp] theorem raise_fwd (reg bit : Nat) (code : BitVec 16) (chan : Nat) (d : Device) : (raise reg bit code chan d).fwd = d.fwd := by simp [raise]
@[simp] theorem raise_tim (reg bit : Nat) (code : BitVec 16) (chan : Nat) (d : Device) : (raise reg bit code chan d).tim = d.tim := by simp [raise]
@[simp] theorem raise_sch (reg bit : Nat) (code : BitVec 16) (chan : Nat) (d : Device) : (raise reg bit code chan d).sch = d.sch := by simp [raise]
@[simp] theorem raise_asd (reg bit : Nat) (code : BitVec 16) (chan : Nat) (d : Device) : (raise reg bit code chan d).asd = d.asd := by simp [raise]
@[simp] theorem raise_fwl (reg bit : Nat) (code : BitVec 16) (chan : Nat) (d : Device) : (raise reg bit code chan d).fwl = d.fwl := by simp [raise]
@[simp] theorem raise_msc (reg bit : Nat) (code : BitVec 16) (chan : Nat) (d : Device) : (raise reg bit code chan d).msc = d.msc := by simp [raise]
@[simp] theorem raise_keeper (reg bit : Nat) (code : BitVec 16) (chan : Nat) (d : Device) : (raise reg bit code chan d).keeper = d.keeper := by simp [raise]
@[simp] theorem raise_pair (reg bit : Nat) (code : BitVec 16) (chan : Nat) (d : Device) : (raise reg bit code chan d).pair = d.pair := by simp [raise]
@[simp] theorem raise_wy (reg bit : Nat) (code : BitVec 16) (chan : Nat) (d : Device) : (raise reg bit code chan d).wy = d.wy := by simp [raise]
@[simp] theorem raise_top (reg bit : Nat) (code : BitVec 16) (chan : Nat) (d : Device) : (raise reg bit code chan d).top = d.top := by simp [raise]
@[simp] theorem raise_can (reg bit : Nat) (code : BitVec 16) (chan : Nat) (d : Device) : (raise reg bit code chan d).can = d.can := by simp [raise]
@[simp] theorem raise_mvb (reg bit : Nat) (code : BitVec 16) (chan : Nat) (d : Device) : (raise reg bit code chan d).mvb = d.mvb := by simp [raise]
@[simp] theorem raise_gw (reg bit : Nat) (code : BitVec 16) (chan : Nat) (d : Device) : (raise reg bit code chan d).gw = d.gw := by simp [raise]
@[simp] theorem raise_ssn (reg bit : Nat) (code : BitVec 16) (chan : Nat) (d : Device) : (raise reg bit code chan d).ssn = d.ssn := by simp [raise]
@[simp] theorem raise_boot (reg bit : Nat) (code : BitVec 16) (chan : Nat) (d : Device) : (raise reg bit code chan d).boot = d.boot := by simp [raise]
@[simp] theorem raise_flash (reg bit : Nat) (code : BitVec 16) (chan : Nat) (d : Device) : (raise reg bit code chan d).flash = d.flash := by simp [raise]
@[simp] theorem raise_dseq (reg bit : Nat) (code : BitVec 16) (chan : Nat) (d : Device) : (raise reg bit code chan d).dseq = d.dseq := by simp [raise]
@[simp] theorem raise_ccr (reg bit : Nat) (code : BitVec 16) (chan : Nat) (d : Device) : (raise reg bit code chan d).ccr = d.ccr := by simp [raise]
@[simp] theorem raise_sec (reg bit : Nat) (code : BitVec 16) (chan : Nat) (d : Device) : (raise reg bit code chan d).sec = d.sec := by simp [raise]
@[simp] theorem raise_hif (reg bit : Nat) (code : BitVec 16) (chan : Nat) (d : Device) : (raise reg bit code chan d).hif = d.hif := by simp [raise]
@[simp] theorem raise_ncp (reg bit : Nat) (code : BitVec 16) (chan : Nat) (d : Device) : (raise reg bit code chan d).ncp = d.ncp := by simp [raise]
@[simp] theorem raise_clk (reg bit : Nat) (code : BitVec 16) (chan : Nat) (d : Device) : (raise reg bit code chan d).clk = d.clk := by simp [raise]
@[simp] theorem raise_otp (reg bit : Nat) (code : BitVec 16) (chan : Nat) (d : Device) : (raise reg bit code chan d).otp = d.otp := by simp [raise]
@[simp] theorem raise_keyTable (reg bit : Nat) (code : BitVec 16) (chan : Nat) (d : Device) : (raise reg bit code chan d).keyTable = d.keyTable := by simp [raise]
@[simp] theorem raise_certs (reg bit : Nat) (code : BitVec 16) (chan : Nat) (d : Device) : (raise reg bit code chan d).certs = d.certs := by simp [raise]
@[simp] theorem raise_freeCtr (reg bit : Nat) (code : BitVec 16) (chan : Nat) (d : Device) : (raise reg bit code chan d).freeCtr = d.freeCtr := by simp [raise]

/-! `raiseBit` writes sq, out -/

@[simp] theorem raiseBit_now (reg bit : Nat) (d : Device) : (raiseBit reg bit d).now = d.now := by simp [raiseBit]
@[simp] theorem raiseBit_cfg (reg bit : Nat) (d : Device) : (raiseBit reg bit d).cfg = d.cfg := by simp [raiseBit]
@[simp] theorem raiseBit_oldCfgs (reg bit : Nat) (d : Device) : (raiseBit reg bit d).oldCfgs = d.oldCfgs := by simp [raiseBit]
@[simp] theorem raiseBit_switching (reg bit : Nat) (d : Device) : (raiseBit reg bit d).switching = d.switching := by simp [raiseBit]
@[simp] theorem raiseBit_glb (reg bit : Nat) (d : Device) : (raiseBit reg bit d).glb = d.glb := by simp [raiseBit]
@[simp] theorem raiseBit_flt (reg bit : Nat) (d : Device) : (raiseBit reg bit d).flt = d.flt := by simp [raiseBit]
@[simp] theorem raiseBit_ctr (reg bit : Nat) (d : Device) : (raiseBit reg bit d).ctr = d.ctr := by simp [raiseBit]
@[simp] theorem raiseBit_ports (reg bit : Nat) (d : Device) : (raiseBit reg bit d).ports = d.ports := by simp [raiseBit]
@[simp] theorem raiseBit_buf (reg bit : Nat) (d : Device) : (raiseBit reg bit d).buf = d.buf := by simp [raiseBit]
@[simp] theorem raiseBit_fwd (reg bit : Nat) (d : Device) : (raiseBit reg bit d).fwd = d.fwd := by simp [raiseBit]
@[simp] theorem raiseBit_tim (reg bit : Nat) (d : Device) : (raiseBit reg bit d).tim = d.tim := by simp [raiseBit]
@[simp] theorem raiseBit_sch (reg bit : Nat) (d : Device) : (raiseBit reg bit d).sch = d.sch := by simp [raiseBit]
@[simp] theorem raiseBit_asd (reg bit : Nat) (d : Device) : (raiseBit reg bit d).asd = d.asd := by simp [raiseBit]
@[simp] theorem raiseBit_fwl (reg bit : Nat) (d : Device) : (raiseBit reg bit d).fwl = d.fwl := by simp [raiseBit]
@[simp] theorem raiseBit_msc (reg bit : Nat) (d : Device) : (raiseBit reg bit d).msc = d.msc := by simp [raiseBit]
@[simp] theorem raiseBit_keeper (reg bit : Nat) (d : Device) : (raiseBit reg bit d).keeper = d.keeper := by simp [raiseBit]
@[simp] theorem raiseBit_pair (reg bit : Nat) (d : Device) : (raiseBit reg bit d).pair = d.pair := by simp [raiseBit]
@[simp] theorem raiseBit_wy (reg bit : Nat) (d : Device) : (raiseBit reg bit d).wy = d.wy := by simp [raiseBit]
@[simp] theorem raiseBit_top (reg bit : Nat) (d : Device) : (raiseBit reg bit d).top = d.top := by simp [raiseBit]
@[simp] theorem raiseBit_can (reg bit : Nat) (d : Device) : (raiseBit reg bit d).can = d.can := by simp [raiseBit]
@[simp] theorem raiseBit_mvb (reg bit : Nat) (d : Device) : (raiseBit reg bit d).mvb = d.mvb := by simp [raiseBit]
@[simp] theorem raiseBit_gw (reg bit : Nat) (d : Device) : (raiseBit reg bit d).gw = d.gw := by simp [raiseBit]
@[simp] theorem raiseBit_ssn (reg bit : Nat) (d : Device) : (raiseBit reg bit d).ssn = d.ssn := by simp [raiseBit]
@[simp] theorem raiseBit_boot (reg bit : Nat) (d : Device) : (raiseBit reg bit d).boot = d.boot := by simp [raiseBit]
@[simp] theorem raiseBit_flash (reg bit : Nat) (d : Device) : (raiseBit reg bit d).flash = d.flash := by simp [raiseBit]
@[simp] theorem raiseBit_dseq (reg bit : Nat) (d : Device) : (raiseBit reg bit d).dseq = d.dseq := by simp [raiseBit]
@[simp] theorem raiseBit_ccr (reg bit : Nat) (d : Device) : (raiseBit reg bit d).ccr = d.ccr := by simp [raiseBit]
@[simp] theorem raiseBit_sec (reg bit : Nat) (d : Device) : (raiseBit reg bit d).sec = d.sec := by simp [raiseBit]
@[simp] theorem raiseBit_hif (reg bit : Nat) (d : Device) : (raiseBit reg bit d).hif = d.hif := by simp [raiseBit]
@[simp] theorem raiseBit_ncp (reg bit : Nat) (d : Device) : (raiseBit reg bit d).ncp = d.ncp := by simp [raiseBit]
@[simp] theorem raiseBit_clk (reg bit : Nat) (d : Device) : (raiseBit reg bit d).clk = d.clk := by simp [raiseBit]
@[simp] theorem raiseBit_otp (reg bit : Nat) (d : Device) : (raiseBit reg bit d).otp = d.otp := by simp [raiseBit]
@[simp] theorem raiseBit_keyTable (reg bit : Nat) (d : Device) : (raiseBit reg bit d).keyTable = d.keyTable := by simp [raiseBit]
@[simp] theorem raiseBit_certs (reg bit : Nat) (d : Device) : (raiseBit reg bit d).certs = d.certs := by simp [raiseBit]
@[simp] theorem raiseBit_freeCtr (reg bit : Nat) (d : Device) : (raiseBit reg bit d).freeCtr = d.freeCtr := by simp [raiseBit]

/-! `lateRecord` writes sq, flt, out -/

@[simp] theorem lateRecord_now (r : LateRec) (d : Device) : (lateRecord r d).now = d.now := by unfold lateRecord; split; rfl; dsimp only; split <;> simp
@[simp] theorem lateRecord_cfg (r : LateRec) (d : Device) : (lateRecord r d).cfg = d.cfg := by unfold lateRecord; split; rfl; dsimp only; split <;> simp
@[simp] theorem lateRecord_oldCfgs (r : LateRec) (d : Device) : (lateRecord r d).oldCfgs = d.oldCfgs := by unfold lateRecord; split; rfl; dsimp only; split <;> simp
@[simp] theorem lateRecord_switching (r : LateRec) (d : Device) : (lateRecord r d).switching = d.switching := by unfold lateRecord; split; rfl; dsimp only; split <;> simp
@[simp] theorem lateRecord_glb (r : LateRec) (d : Device) : (lateRecord r d).glb = d.glb := by unfold lateRecord; split; rfl; dsimp only; split <;> simp
@[simp] theorem lateRecord_ctr (r : LateRec) (d : Device) : (lateRecord r d).ctr = d.ctr := by unfold lateRecord; split; rfl; dsimp only; split <;> simp
@[simp] theorem lateRecord_ports (r : LateRec) (d : Device) : (lateRecord r d).ports = d.ports := by unfold lateRecord; split; rfl; dsimp only; split <;> simp
@[simp] theorem lateRecord_buf (r : LateRec) (d : Device) : (lateRecord r d).buf = d.buf := by unfold lateRecord; split; rfl; dsimp only; split <;> simp
@[simp] theorem lateRecord_fwd (r : LateRec) (d : Device) : (lateRecord r d).fwd = d.fwd := by unfold lateRecord; split; rfl; dsimp only; split <;> simp
@[simp] theorem lateRecord_tim (r : LateRec) (d : Device) : (lateRecord r d).tim = d.tim := by unfold lateRecord; split; rfl; dsimp only; split <;> simp
@[simp] theorem lateRecord_sch (r : LateRec) (d : Device) : (lateRecord r d).sch = d.sch := by unfold lateRecord; split; rfl; dsimp only; split <;> simp
@[simp] theorem lateRecord_asd (r : LateRec) (d : Device) : (lateRecord r d).asd = d.asd := by unfold lateRecord; split; rfl; dsimp only; split <;> simp
@[simp] theorem lateRecord_fwl (r : LateRec) (d : Device) : (lateRecord r d).fwl = d.fwl := by unfold lateRecord; split; rfl; dsimp only; split <;> simp
@[simp] theorem lateRecord_msc (r : LateRec) (d : Device) : (lateRecord r d).msc = d.msc := by unfold lateRecord; split; rfl; dsimp only; split <;> simp
@[simp] theorem lateRecord_keeper (r : LateRec) (d : Device) : (lateRecord r d).keeper = d.keeper := by unfold lateRecord; split; rfl; dsimp only; split <;> simp
@[simp] theorem lateRecord_pair (r : LateRec) (d : Device) : (lateRecord r d).pair = d.pair := by unfold lateRecord; split; rfl; dsimp only; split <;> simp
@[simp] theorem lateRecord_wy (r : LateRec) (d : Device) : (lateRecord r d).wy = d.wy := by unfold lateRecord; split; rfl; dsimp only; split <;> simp
@[simp] theorem lateRecord_top (r : LateRec) (d : Device) : (lateRecord r d).top = d.top := by unfold lateRecord; split; rfl; dsimp only; split <;> simp
@[simp] theorem lateRecord_can (r : LateRec) (d : Device) : (lateRecord r d).can = d.can := by unfold lateRecord; split; rfl; dsimp only; split <;> simp
@[simp] theorem lateRecord_mvb (r : LateRec) (d : Device) : (lateRecord r d).mvb = d.mvb := by unfold lateRecord; split; rfl; dsimp only; split <;> simp
@[simp] theorem lateRecord_gw (r : LateRec) (d : Device) : (lateRecord r d).gw = d.gw := by unfold lateRecord; split; rfl; dsimp only; split <;> simp
@[simp] theorem lateRecord_ssn (r : LateRec) (d : Device) : (lateRecord r d).ssn = d.ssn := by unfold lateRecord; split; rfl; dsimp only; split <;> simp
@[simp] theorem lateRecord_boot (r : LateRec) (d : Device) : (lateRecord r d).boot = d.boot := by unfold lateRecord; split; rfl; dsimp only; split <;> simp
@[simp] theorem lateRecord_flash (r : LateRec) (d : Device) : (lateRecord r d).flash = d.flash := by unfold lateRecord; split; rfl; dsimp only; split <;> simp
@[simp] theorem lateRecord_dseq (r : LateRec) (d : Device) : (lateRecord r d).dseq = d.dseq := by unfold lateRecord; split; rfl; dsimp only; split <;> simp
@[simp] theorem lateRecord_ccr (r : LateRec) (d : Device) : (lateRecord r d).ccr = d.ccr := by unfold lateRecord; split; rfl; dsimp only; split <;> simp
@[simp] theorem lateRecord_sec (r : LateRec) (d : Device) : (lateRecord r d).sec = d.sec := by unfold lateRecord; split; rfl; dsimp only; split <;> simp
@[simp] theorem lateRecord_hif (r : LateRec) (d : Device) : (lateRecord r d).hif = d.hif := by unfold lateRecord; split; rfl; dsimp only; split <;> simp
@[simp] theorem lateRecord_ncp (r : LateRec) (d : Device) : (lateRecord r d).ncp = d.ncp := by unfold lateRecord; split; rfl; dsimp only; split <;> simp
@[simp] theorem lateRecord_clk (r : LateRec) (d : Device) : (lateRecord r d).clk = d.clk := by unfold lateRecord; split; rfl; dsimp only; split <;> simp
@[simp] theorem lateRecord_otp (r : LateRec) (d : Device) : (lateRecord r d).otp = d.otp := by unfold lateRecord; split; rfl; dsimp only; split <;> simp
@[simp] theorem lateRecord_keyTable (r : LateRec) (d : Device) : (lateRecord r d).keyTable = d.keyTable := by unfold lateRecord; split; rfl; dsimp only; split <;> simp
@[simp] theorem lateRecord_certs (r : LateRec) (d : Device) : (lateRecord r d).certs = d.certs := by unfold lateRecord; split; rfl; dsimp only; split <;> simp
@[simp] theorem lateRecord_freeCtr (r : LateRec) (d : Device) : (lateRecord r d).freeCtr = d.freeCtr := by unfold lateRecord; split; rfl; dsimp only; split <;> simp

/-! `modPort` writes ports -/

@[simp] theorem modPort_now (p : Nat) (f : PortState → PortState) (d : Device) : (modPort p f d).now = d.now := rfl
@[simp] theorem modPort_cfg (p : Nat) (f : PortState → PortState) (d : Device) : (modPort p f d).cfg = d.cfg := rfl
@[simp] theorem modPort_oldCfgs (p : Nat) (f : PortState → PortState) (d : Device) : (modPort p f d).oldCfgs = d.oldCfgs := rfl
@[simp] theorem modPort_switching (p : Nat) (f : PortState → PortState) (d : Device) : (modPort p f d).switching = d.switching := rfl
@[simp] theorem modPort_glb (p : Nat) (f : PortState → PortState) (d : Device) : (modPort p f d).glb = d.glb := rfl
@[simp] theorem modPort_flt (p : Nat) (f : PortState → PortState) (d : Device) : (modPort p f d).flt = d.flt := rfl
@[simp] theorem modPort_sq (p : Nat) (f : PortState → PortState) (d : Device) : (modPort p f d).sq = d.sq := rfl
@[simp] theorem modPort_ctr (p : Nat) (f : PortState → PortState) (d : Device) : (modPort p f d).ctr = d.ctr := rfl
@[simp] theorem modPort_buf (p : Nat) (f : PortState → PortState) (d : Device) : (modPort p f d).buf = d.buf := rfl
@[simp] theorem modPort_fwd (p : Nat) (f : PortState → PortState) (d : Device) : (modPort p f d).fwd = d.fwd := rfl
@[simp] theorem modPort_tim (p : Nat) (f : PortState → PortState) (d : Device) : (modPort p f d).tim = d.tim := rfl
@[simp] theorem modPort_sch (p : Nat) (f : PortState → PortState) (d : Device) : (modPort p f d).sch = d.sch := rfl
@[simp] theorem modPort_asd (p : Nat) (f : PortState → PortState) (d : Device) : (modPort p f d).asd = d.asd := rfl
@[simp] theorem modPort_fwl (p : Nat) (f : PortState → PortState) (d : Device) : (modPort p f d).fwl = d.fwl := rfl
@[simp] theorem modPort_msc (p : Nat) (f : PortState → PortState) (d : Device) : (modPort p f d).msc = d.msc := rfl
@[simp] theorem modPort_keeper (p : Nat) (f : PortState → PortState) (d : Device) : (modPort p f d).keeper = d.keeper := rfl
@[simp] theorem modPort_pair (p : Nat) (f : PortState → PortState) (d : Device) : (modPort p f d).pair = d.pair := rfl
@[simp] theorem modPort_wy (p : Nat) (f : PortState → PortState) (d : Device) : (modPort p f d).wy = d.wy := rfl
@[simp] theorem modPort_top (p : Nat) (f : PortState → PortState) (d : Device) : (modPort p f d).top = d.top := rfl
@[simp] theorem modPort_can (p : Nat) (f : PortState → PortState) (d : Device) : (modPort p f d).can = d.can := rfl
@[simp] theorem modPort_mvb (p : Nat) (f : PortState → PortState) (d : Device) : (modPort p f d).mvb = d.mvb := rfl
@[simp] theorem modPort_gw (p : Nat) (f : PortState → PortState) (d : Device) : (modPort p f d).gw = d.gw := rfl
@[simp] theorem modPort_ssn (p : Nat) (f : PortState → PortState) (d : Device) : (modPort p f d).ssn = d.ssn := rfl
@[simp] theorem modPort_boot (p : Nat) (f : PortState → PortState) (d : Device) : (modPort p f d).boot = d.boot := rfl
@[simp] theorem modPort_flash (p : Nat) (f : PortState → PortState) (d : Device) : (modPort p f d).flash = d.flash := rfl
@[simp] theorem modPort_dseq (p : Nat) (f : PortState → PortState) (d : Device) : (modPort p f d).dseq = d.dseq := rfl
@[simp] theorem modPort_ccr (p : Nat) (f : PortState → PortState) (d : Device) : (modPort p f d).ccr = d.ccr := rfl
@[simp] theorem modPort_sec (p : Nat) (f : PortState → PortState) (d : Device) : (modPort p f d).sec = d.sec := rfl
@[simp] theorem modPort_hif (p : Nat) (f : PortState → PortState) (d : Device) : (modPort p f d).hif = d.hif := rfl
@[simp] theorem modPort_ncp (p : Nat) (f : PortState → PortState) (d : Device) : (modPort p f d).ncp = d.ncp := rfl
@[simp] theorem modPort_clk (p : Nat) (f : PortState → PortState) (d : Device) : (modPort p f d).clk = d.clk := rfl
@[simp] theorem modPort_otp (p : Nat) (f : PortState → PortState) (d : Device) : (modPort p f d).otp = d.otp := rfl
@[simp] theorem modPort_keyTable (p : Nat) (f : PortState → PortState) (d : Device) : (modPort p f d).keyTable = d.keyTable := rfl
@[simp] theorem modPort_certs (p : Nat) (f : PortState → PortState) (d : Device) : (modPort p f d).certs = d.certs := rfl
@[simp] theorem modPort_freeCtr (p : Nat) (f : PortState → PortState) (d : Device) : (modPort p f d).freeCtr = d.freeCtr := rfl
@[simp] theorem modPort_out (p : Nat) (f : PortState → PortState) (d : Device) : (modPort p f d).out = d.out := rfl

/-! `setFrame` writes buf -/

@[simp] theorem setFrame_now (id : Nat) (f : Frame) (d : Device) : (setFrame id f d).now = d.now := rfl
@[simp] theorem setFrame_cfg (id : Nat) (f : Frame) (d : Device) : (setFrame id f d).cfg = d.cfg := rfl
@[simp] theorem setFrame_oldCfgs (id : Nat) (f : Frame) (d : Device) : (setFrame id f d).oldCfgs = d.oldCfgs := rfl
@[simp] theorem setFrame_switching (id : Nat) (f : Frame) (d : Device) : (setFrame id f d).switching = d.switching := rfl
@[simp] theorem setFrame_glb (id : Nat) (f : Frame) (d : Device) : (setFrame id f d).glb = d.glb := rfl
@[simp] theorem setFrame_flt (id : Nat) (f : Frame) (d : Device) : (setFrame id f d).flt = d.flt := rfl
@[simp] theorem setFrame_sq (id : Nat) (f : Frame) (d : Device) : (setFrame id f d).sq = d.sq := rfl
@[simp] theorem setFrame_ctr (id : Nat) (f : Frame) (d : Device) : (setFrame id f d).ctr = d.ctr := rfl
@[simp] theorem setFrame_ports (id : Nat) (f : Frame) (d : Device) : (setFrame id f d).ports = d.ports := rfl
@[simp] theorem setFrame_fwd (id : Nat) (f : Frame) (d : Device) : (setFrame id f d).fwd = d.fwd := rfl
@[simp] theorem setFrame_tim (id : Nat) (f : Frame) (d : Device) : (setFrame id f d).tim = d.tim := rfl
@[simp] theorem setFrame_sch (id : Nat) (f : Frame) (d : Device) : (setFrame id f d).sch = d.sch := rfl
@[simp] theorem setFrame_asd (id : Nat) (f : Frame) (d : Device) : (setFrame id f d).asd = d.asd := rfl
@[simp] theorem setFrame_fwl (id : Nat) (f : Frame) (d : Device) : (setFrame id f d).fwl = d.fwl := rfl
@[simp] theorem setFrame_msc (id : Nat) (f : Frame) (d : Device) : (setFrame id f d).msc = d.msc := rfl
@[simp] theorem setFrame_keeper (id : Nat) (f : Frame) (d : Device) : (setFrame id f d).keeper = d.keeper := rfl
@[simp] theorem setFrame_pair (id : Nat) (f : Frame) (d : Device) : (setFrame id f d).pair = d.pair := rfl
@[simp] theorem setFrame_wy (id : Nat) (f : Frame) (d : Device) : (setFrame id f d).wy = d.wy := rfl
@[simp] theorem setFrame_top (id : Nat) (f : Frame) (d : Device) : (setFrame id f d).top = d.top := rfl
@[simp] theorem setFrame_can (id : Nat) (f : Frame) (d : Device) : (setFrame id f d).can = d.can := rfl
@[simp] theorem setFrame_mvb (id : Nat) (f : Frame) (d : Device) : (setFrame id f d).mvb = d.mvb := rfl
@[simp] theorem setFrame_gw (id : Nat) (f : Frame) (d : Device) : (setFrame id f d).gw = d.gw := rfl
@[simp] theorem setFrame_ssn (id : Nat) (f : Frame) (d : Device) : (setFrame id f d).ssn = d.ssn := rfl
@[simp] theorem setFrame_boot (id : Nat) (f : Frame) (d : Device) : (setFrame id f d).boot = d.boot := rfl
@[simp] theorem setFrame_flash (id : Nat) (f : Frame) (d : Device) : (setFrame id f d).flash = d.flash := rfl
@[simp] theorem setFrame_dseq (id : Nat) (f : Frame) (d : Device) : (setFrame id f d).dseq = d.dseq := rfl
@[simp] theorem setFrame_ccr (id : Nat) (f : Frame) (d : Device) : (setFrame id f d).ccr = d.ccr := rfl
@[simp] theorem setFrame_sec (id : Nat) (f : Frame) (d : Device) : (setFrame id f d).sec = d.sec := rfl
@[simp] theorem setFrame_hif (id : Nat) (f : Frame) (d : Device) : (setFrame id f d).hif = d.hif := rfl
@[simp] theorem setFrame_ncp (id : Nat) (f : Frame) (d : Device) : (setFrame id f d).ncp = d.ncp := rfl
@[simp] theorem setFrame_clk (id : Nat) (f : Frame) (d : Device) : (setFrame id f d).clk = d.clk := rfl
@[simp] theorem setFrame_otp (id : Nat) (f : Frame) (d : Device) : (setFrame id f d).otp = d.otp := rfl
@[simp] theorem setFrame_keyTable (id : Nat) (f : Frame) (d : Device) : (setFrame id f d).keyTable = d.keyTable := rfl
@[simp] theorem setFrame_certs (id : Nat) (f : Frame) (d : Device) : (setFrame id f d).certs = d.certs := rfl
@[simp] theorem setFrame_freeCtr (id : Nat) (f : Frame) (d : Device) : (setFrame id f d).freeCtr = d.freeCtr := rfl
@[simp] theorem setFrame_out (id : Nat) (f : Frame) (d : Device) : (setFrame id f d).out = d.out := rfl

/-! `modFrame` writes buf -/

@[simp] theorem modFrame_now (id : Nat) (f : Frame → Frame) (d : Device) : (modFrame id f d).now = d.now := by unfold modFrame; split <;> rfl
@[simp] theorem modFrame_cfg (id : Nat) (f : Frame → Frame) (d : Device) : (modFrame id f d).cfg = d.cfg := by unfold modFrame; split <;> rfl
@[simp] theorem modFrame_oldCfgs (id : Nat) (f : Frame → Frame) (d : Device) : (modFrame id f d).oldCfgs = d.oldCfgs := by unfold modFrame; split <;> rfl
@[simp] theorem modFrame_switching (id : Nat) (f : Frame → Frame) (d : Device) : (modFrame id f d).switching = d.switching := by unfold modFrame; split <;> rfl
@[simp] theorem modFrame_glb (id : Nat) (f : Frame → Frame) (d : Device) : (modFrame id f d).glb = d.glb := by unfold modFrame; split <;> rfl
@[simp] theorem modFrame_flt (id : Nat) (f : Frame → Frame) (d : Device) : (modFrame id f d).flt = d.flt := by unfold modFrame; split <;> rfl
@[simp] theorem modFrame_sq (id : Nat) (f : Frame → Frame) (d : Device) : (modFrame id f d).sq = d.sq := by unfold modFrame; split <;> rfl
@[simp] theorem modFrame_ctr (id : Nat) (f : Frame → Frame) (d : Device) : (modFrame id f d).ctr = d.ctr := by unfold modFrame; split <;> rfl
@[simp] theorem modFrame_ports (id : Nat) (f : Frame → Frame) (d : Device) : (modFrame id f d).ports = d.ports := by unfold modFrame; split <;> rfl
@[simp] theorem modFrame_fwd (id : Nat) (f : Frame → Frame) (d : Device) : (modFrame id f d).fwd = d.fwd := by unfold modFrame; split <;> rfl
@[simp] theorem modFrame_tim (id : Nat) (f : Frame → Frame) (d : Device) : (modFrame id f d).tim = d.tim := by unfold modFrame; split <;> rfl
@[simp] theorem modFrame_sch (id : Nat) (f : Frame → Frame) (d : Device) : (modFrame id f d).sch = d.sch := by unfold modFrame; split <;> rfl
@[simp] theorem modFrame_asd (id : Nat) (f : Frame → Frame) (d : Device) : (modFrame id f d).asd = d.asd := by unfold modFrame; split <;> rfl
@[simp] theorem modFrame_fwl (id : Nat) (f : Frame → Frame) (d : Device) : (modFrame id f d).fwl = d.fwl := by unfold modFrame; split <;> rfl
@[simp] theorem modFrame_msc (id : Nat) (f : Frame → Frame) (d : Device) : (modFrame id f d).msc = d.msc := by unfold modFrame; split <;> rfl
@[simp] theorem modFrame_keeper (id : Nat) (f : Frame → Frame) (d : Device) : (modFrame id f d).keeper = d.keeper := by unfold modFrame; split <;> rfl
@[simp] theorem modFrame_pair (id : Nat) (f : Frame → Frame) (d : Device) : (modFrame id f d).pair = d.pair := by unfold modFrame; split <;> rfl
@[simp] theorem modFrame_wy (id : Nat) (f : Frame → Frame) (d : Device) : (modFrame id f d).wy = d.wy := by unfold modFrame; split <;> rfl
@[simp] theorem modFrame_top (id : Nat) (f : Frame → Frame) (d : Device) : (modFrame id f d).top = d.top := by unfold modFrame; split <;> rfl
@[simp] theorem modFrame_can (id : Nat) (f : Frame → Frame) (d : Device) : (modFrame id f d).can = d.can := by unfold modFrame; split <;> rfl
@[simp] theorem modFrame_mvb (id : Nat) (f : Frame → Frame) (d : Device) : (modFrame id f d).mvb = d.mvb := by unfold modFrame; split <;> rfl
@[simp] theorem modFrame_gw (id : Nat) (f : Frame → Frame) (d : Device) : (modFrame id f d).gw = d.gw := by unfold modFrame; split <;> rfl
@[simp] theorem modFrame_ssn (id : Nat) (f : Frame → Frame) (d : Device) : (modFrame id f d).ssn = d.ssn := by unfold modFrame; split <;> rfl
@[simp] theorem modFrame_boot (id : Nat) (f : Frame → Frame) (d : Device) : (modFrame id f d).boot = d.boot := by unfold modFrame; split <;> rfl
@[simp] theorem modFrame_flash (id : Nat) (f : Frame → Frame) (d : Device) : (modFrame id f d).flash = d.flash := by unfold modFrame; split <;> rfl
@[simp] theorem modFrame_dseq (id : Nat) (f : Frame → Frame) (d : Device) : (modFrame id f d).dseq = d.dseq := by unfold modFrame; split <;> rfl
@[simp] theorem modFrame_ccr (id : Nat) (f : Frame → Frame) (d : Device) : (modFrame id f d).ccr = d.ccr := by unfold modFrame; split <;> rfl
@[simp] theorem modFrame_sec (id : Nat) (f : Frame → Frame) (d : Device) : (modFrame id f d).sec = d.sec := by unfold modFrame; split <;> rfl
@[simp] theorem modFrame_hif (id : Nat) (f : Frame → Frame) (d : Device) : (modFrame id f d).hif = d.hif := by unfold modFrame; split <;> rfl
@[simp] theorem modFrame_ncp (id : Nat) (f : Frame → Frame) (d : Device) : (modFrame id f d).ncp = d.ncp := by unfold modFrame; split <;> rfl
@[simp] theorem modFrame_clk (id : Nat) (f : Frame → Frame) (d : Device) : (modFrame id f d).clk = d.clk := by unfold modFrame; split <;> rfl
@[simp] theorem modFrame_otp (id : Nat) (f : Frame → Frame) (d : Device) : (modFrame id f d).otp = d.otp := by unfold modFrame; split <;> rfl
@[simp] theorem modFrame_keyTable (id : Nat) (f : Frame → Frame) (d : Device) : (modFrame id f d).keyTable = d.keyTable := by unfold modFrame; split <;> rfl
@[simp] theorem modFrame_certs (id : Nat) (f : Frame → Frame) (d : Device) : (modFrame id f d).certs = d.certs := by unfold modFrame; split <;> rfl
@[simp] theorem modFrame_freeCtr (id : Nat) (f : Frame → Frame) (d : Device) : (modFrame id f d).freeCtr = d.freeCtr := by unfold modFrame; split <;> rfl
@[simp] theorem modFrame_out (id : Nat) (f : Frame → Frame) (d : Device) : (modFrame id f d).out = d.out := by unfold modFrame; split <;> rfl

/-! `setQueue` writes buf -/

@[simp] theorem setQueue_now (q : Nat) (x : Queue) (d : Device) : (setQueue q x d).now = d.now := rfl
@[simp] theorem setQueue_cfg (q : Nat) (x : Queue) (d : Device) : (setQueue q x d).cfg = d.cfg := rfl
@[simp] theorem setQueue_oldCfgs (q : Nat) (x : Queue) (d : Device) : (setQueue q x d).oldCfgs = d.oldCfgs := rfl
@[simp] theorem setQueue_switching (q : Nat) (x : Queue) (d : Device) : (setQueue q x d).switching = d.switching := rfl
@[simp] theorem setQueue_glb (q : Nat) (x : Queue) (d : Device) : (setQueue q x d).glb = d.glb := rfl
@[simp] theorem setQueue_flt (q : Nat) (x : Queue) (d : Device) : (setQueue q x d).flt = d.flt := rfl
@[simp] theorem setQueue_sq (q : Nat) (x : Queue) (d : Device) : (setQueue q x d).sq = d.sq := rfl
@[simp] theorem setQueue_ctr (q : Nat) (x : Queue) (d : Device) : (setQueue q x d).ctr = d.ctr := rfl
@[simp] theorem setQueue_ports (q : Nat) (x : Queue) (d : Device) : (setQueue q x d).ports = d.ports := rfl
@[simp] theorem setQueue_fwd (q : Nat) (x : Queue) (d : Device) : (setQueue q x d).fwd = d.fwd := rfl
@[simp] theorem setQueue_tim (q : Nat) (x : Queue) (d : Device) : (setQueue q x d).tim = d.tim := rfl
@[simp] theorem setQueue_sch (q : Nat) (x : Queue) (d : Device) : (setQueue q x d).sch = d.sch := rfl
@[simp] theorem setQueue_asd (q : Nat) (x : Queue) (d : Device) : (setQueue q x d).asd = d.asd := rfl
@[simp] theorem setQueue_fwl (q : Nat) (x : Queue) (d : Device) : (setQueue q x d).fwl = d.fwl := rfl
@[simp] theorem setQueue_msc (q : Nat) (x : Queue) (d : Device) : (setQueue q x d).msc = d.msc := rfl
@[simp] theorem setQueue_keeper (q : Nat) (x : Queue) (d : Device) : (setQueue q x d).keeper = d.keeper := rfl
@[simp] theorem setQueue_pair (q : Nat) (x : Queue) (d : Device) : (setQueue q x d).pair = d.pair := rfl
@[simp] theorem setQueue_wy (q : Nat) (x : Queue) (d : Device) : (setQueue q x d).wy = d.wy := rfl
@[simp] theorem setQueue_top (q : Nat) (x : Queue) (d : Device) : (setQueue q x d).top = d.top := rfl
@[simp] theorem setQueue_can (q : Nat) (x : Queue) (d : Device) : (setQueue q x d).can = d.can := rfl
@[simp] theorem setQueue_mvb (q : Nat) (x : Queue) (d : Device) : (setQueue q x d).mvb = d.mvb := rfl
@[simp] theorem setQueue_gw (q : Nat) (x : Queue) (d : Device) : (setQueue q x d).gw = d.gw := rfl
@[simp] theorem setQueue_ssn (q : Nat) (x : Queue) (d : Device) : (setQueue q x d).ssn = d.ssn := rfl
@[simp] theorem setQueue_boot (q : Nat) (x : Queue) (d : Device) : (setQueue q x d).boot = d.boot := rfl
@[simp] theorem setQueue_flash (q : Nat) (x : Queue) (d : Device) : (setQueue q x d).flash = d.flash := rfl
@[simp] theorem setQueue_dseq (q : Nat) (x : Queue) (d : Device) : (setQueue q x d).dseq = d.dseq := rfl
@[simp] theorem setQueue_ccr (q : Nat) (x : Queue) (d : Device) : (setQueue q x d).ccr = d.ccr := rfl
@[simp] theorem setQueue_sec (q : Nat) (x : Queue) (d : Device) : (setQueue q x d).sec = d.sec := rfl
@[simp] theorem setQueue_hif (q : Nat) (x : Queue) (d : Device) : (setQueue q x d).hif = d.hif := rfl
@[simp] theorem setQueue_ncp (q : Nat) (x : Queue) (d : Device) : (setQueue q x d).ncp = d.ncp := rfl
@[simp] theorem setQueue_clk (q : Nat) (x : Queue) (d : Device) : (setQueue q x d).clk = d.clk := rfl
@[simp] theorem setQueue_otp (q : Nat) (x : Queue) (d : Device) : (setQueue q x d).otp = d.otp := rfl
@[simp] theorem setQueue_keyTable (q : Nat) (x : Queue) (d : Device) : (setQueue q x d).keyTable = d.keyTable := rfl
@[simp] theorem setQueue_certs (q : Nat) (x : Queue) (d : Device) : (setQueue q x d).certs = d.certs := rfl
@[simp] theorem setQueue_freeCtr (q : Nat) (x : Queue) (d : Device) : (setQueue q x d).freeCtr = d.freeCtr := rfl
@[simp] theorem setQueue_out (q : Nat) (x : Queue) (d : Device) : (setQueue q x d).out = d.out := rfl

/-! `backPressure` writes out -/

@[simp] theorem backPressure_now (i : Nat) (on : Bool) (d : Device) : (backPressure i on d).now = d.now := by unfold backPressure; dsimp only; split; split; rfl; split; rfl; split <;> rfl; rfl
@[simp] theorem backPressure_cfg (i : Nat) (on : Bool) (d : Device) : (backPressure i on d).cfg = d.cfg := by unfold backPressure; dsimp only; split; split; rfl; split; rfl; split <;> rfl; rfl
@[simp] theorem backPressure_oldCfgs (i : Nat) (on : Bool) (d : Device) : (backPressure i on d).oldCfgs = d.oldCfgs := by unfold backPressure; dsimp only; split; split; rfl; split; rfl; split <;> rfl; rfl
@[simp] theorem backPressure_switching (i : Nat) (on : Bool) (d : Device) : (backPressure i on d).switching = d.switching := by unfold backPressure; dsimp only; split; split; rfl; split; rfl; split <;> rfl; rfl
@[simp] theorem backPressure_glb (i : Nat) (on : Bool) (d : Device) : (backPressure i on d).glb = d.glb := by unfold backPressure; dsimp only; split; split; rfl; split; rfl; split <;> rfl; rfl
@[simp] theorem backPressure_flt (i : Nat) (on : Bool) (d : Device) : (backPressure i on d).flt = d.flt := by unfold backPressure; dsimp only; split; split; rfl; split; rfl; split <;> rfl; rfl
@[simp] theorem backPressure_sq (i : Nat) (on : Bool) (d : Device) : (backPressure i on d).sq = d.sq := by unfold backPressure; dsimp only; split; split; rfl; split; rfl; split <;> rfl; rfl
@[simp] theorem backPressure_ctr (i : Nat) (on : Bool) (d : Device) : (backPressure i on d).ctr = d.ctr := by unfold backPressure; dsimp only; split; split; rfl; split; rfl; split <;> rfl; rfl
@[simp] theorem backPressure_ports (i : Nat) (on : Bool) (d : Device) : (backPressure i on d).ports = d.ports := by unfold backPressure; dsimp only; split; split; rfl; split; rfl; split <;> rfl; rfl
@[simp] theorem backPressure_buf (i : Nat) (on : Bool) (d : Device) : (backPressure i on d).buf = d.buf := by unfold backPressure; dsimp only; split; split; rfl; split; rfl; split <;> rfl; rfl
@[simp] theorem backPressure_fwd (i : Nat) (on : Bool) (d : Device) : (backPressure i on d).fwd = d.fwd := by unfold backPressure; dsimp only; split; split; rfl; split; rfl; split <;> rfl; rfl
@[simp] theorem backPressure_tim (i : Nat) (on : Bool) (d : Device) : (backPressure i on d).tim = d.tim := by unfold backPressure; dsimp only; split; split; rfl; split; rfl; split <;> rfl; rfl
@[simp] theorem backPressure_sch (i : Nat) (on : Bool) (d : Device) : (backPressure i on d).sch = d.sch := by unfold backPressure; dsimp only; split; split; rfl; split; rfl; split <;> rfl; rfl
@[simp] theorem backPressure_asd (i : Nat) (on : Bool) (d : Device) : (backPressure i on d).asd = d.asd := by unfold backPressure; dsimp only; split; split; rfl; split; rfl; split <;> rfl; rfl
@[simp] theorem backPressure_fwl (i : Nat) (on : Bool) (d : Device) : (backPressure i on d).fwl = d.fwl := by unfold backPressure; dsimp only; split; split; rfl; split; rfl; split <;> rfl; rfl
@[simp] theorem backPressure_msc (i : Nat) (on : Bool) (d : Device) : (backPressure i on d).msc = d.msc := by unfold backPressure; dsimp only; split; split; rfl; split; rfl; split <;> rfl; rfl
@[simp] theorem backPressure_keeper (i : Nat) (on : Bool) (d : Device) : (backPressure i on d).keeper = d.keeper := by unfold backPressure; dsimp only; split; split; rfl; split; rfl; split <;> rfl; rfl
@[simp] theorem backPressure_pair (i : Nat) (on : Bool) (d : Device) : (backPressure i on d).pair = d.pair := by unfold backPressure; dsimp only; split; split; rfl; split; rfl; split <;> rfl; rfl
@[simp] theorem backPressure_wy (i : Nat) (on : Bool) (d : Device) : (backPressure i on d).wy = d.wy := by unfold backPressure; dsimp only; split; split; rfl; split; rfl; split <;> rfl; rfl
@[simp] theorem backPressure_top (i : Nat) (on : Bool) (d : Device) : (backPressure i on d).top = d.top := by unfold backPressure; dsimp only; split; split; rfl; split; rfl; split <;> rfl; rfl
@[simp] theorem backPressure_can (i : Nat) (on : Bool) (d : Device) : (backPressure i on d).can = d.can := by unfold backPressure; dsimp only; split; split; rfl; split; rfl; split <;> rfl; rfl
@[simp] theorem backPressure_mvb (i : Nat) (on : Bool) (d : Device) : (backPressure i on d).mvb = d.mvb := by unfold backPressure; dsimp only; split; split; rfl; split; rfl; split <;> rfl; rfl
@[simp] theorem backPressure_gw (i : Nat) (on : Bool) (d : Device) : (backPressure i on d).gw = d.gw := by unfold backPressure; dsimp only; split; split; rfl; split; rfl; split <;> rfl; rfl
@[simp] theorem backPressure_ssn (i : Nat) (on : Bool) (d : Device) : (backPressure i on d).ssn = d.ssn := by unfold backPressure; dsimp only; split; split; rfl; split; rfl; split <;> rfl; rfl
@[simp] theorem backPressure_boot (i : Nat) (on : Bool) (d : Device) : (backPressure i on d).boot = d.boot := by unfold backPressure; dsimp only; split; split; rfl; split; rfl; split <;> rfl; rfl
@[simp] theorem backPressure_flash (i : Nat) (on : Bool) (d : Device) : (backPressure i on d).flash = d.flash := by unfold backPressure; dsimp only; split; split; rfl; split; rfl; split <;> rfl; rfl
@[simp] theorem backPressure_dseq (i : Nat) (on : Bool) (d : Device) : (backPressure i on d).dseq = d.dseq := by unfold backPressure; dsimp only; split; split; rfl; split; rfl; split <;> rfl; rfl
@[simp] theorem backPressure_ccr (i : Nat) (on : Bool) (d : Device) : (backPressure i on d).ccr = d.ccr := by unfold backPressure; dsimp only; split; split; rfl; split; rfl; split <;> rfl; rfl
@[simp] theorem backPressure_sec (i : Nat) (on : Bool) (d : Device) : (backPressure i on d).sec = d.sec := by unfold backPressure; dsimp only; split; split; rfl; split; rfl; split <;> rfl; rfl
@[simp] theorem backPressure_hif (i : Nat) (on : Bool) (d : Device) : (backPressure i on d).hif = d.hif := by unfold backPressure; dsimp only; split; split; rfl; split; rfl; split <;> rfl; rfl
@[simp] theorem backPressure_ncp (i : Nat) (on : Bool) (d : Device) : (backPressure i on d).ncp = d.ncp := by unfold backPressure; dsimp only; split; split; rfl; split; rfl; split <;> rfl; rfl
@[simp] theorem backPressure_clk (i : Nat) (on : Bool) (d : Device) : (backPressure i on d).clk = d.clk := by unfold backPressure; dsimp only; split; split; rfl; split; rfl; split <;> rfl; rfl
@[simp] theorem backPressure_otp (i : Nat) (on : Bool) (d : Device) : (backPressure i on d).otp = d.otp := by unfold backPressure; dsimp only; split; split; rfl; split; rfl; split <;> rfl; rfl
@[simp] theorem backPressure_keyTable (i : Nat) (on : Bool) (d : Device) : (backPressure i on d).keyTable = d.keyTable := by unfold backPressure; dsimp only; split; split; rfl; split; rfl; split <;> rfl; rfl
@[simp] theorem backPressure_certs (i : Nat) (on : Bool) (d : Device) : (backPressure i on d).certs = d.certs := by unfold backPressure; dsimp only; split; split; rfl; split; rfl; split <;> rfl; rfl
@[simp] theorem backPressure_freeCtr (i : Nat) (on : Bool) (d : Device) : (backPressure i on d).freeCtr = d.freeCtr := by unfold backPressure; dsimp only; split; split; rfl; split; rfl; split <;> rfl; rfl

/-! `reviewAllot` writes buf, sq, ctr, out -/

@[simp] theorem reviewAllot_now (i : Nat) (d : Device) : (reviewAllot i d).now = d.now := by unfold reviewAllot; dsimp only; split; simp; split <;> simp
@[simp] theorem reviewAllot_cfg (i : Nat) (d : Device) : (reviewAllot i d).cfg = d.cfg := by unfold reviewAllot; dsimp only; split; simp; split <;> simp
@[simp] theorem reviewAllot_oldCfgs (i : Nat) (d : Device) : (reviewAllot i d).oldCfgs = d.oldCfgs := by unfold reviewAllot; dsimp only; split; simp; split <;> simp
@[simp] theorem reviewAllot_switching (i : Nat) (d : Device) : (reviewAllot i d).switching = d.switching := by unfold reviewAllot; dsimp only; split; simp; split <;> simp
@[simp] theorem reviewAllot_glb (i : Nat) (d : Device) : (reviewAllot i d).glb = d.glb := by unfold reviewAllot; dsimp only; split; simp; split <;> simp
@[simp] theorem reviewAllot_flt (i : Nat) (d : Device) : (reviewAllot i d).flt = d.flt := by unfold reviewAllot; dsimp only; split; simp; split <;> simp
@[simp] theorem reviewAllot_ports (i : Nat) (d : Device) : (reviewAllot i d).ports = d.ports := by unfold reviewAllot; dsimp only; split; simp; split <;> simp
@[simp] theorem reviewAllot_fwd (i : Nat) (d : Device) : (reviewAllot i d).fwd = d.fwd := by unfold reviewAllot; dsimp only; split; simp; split <;> simp
@[simp] theorem reviewAllot_tim (i : Nat) (d : Device) : (reviewAllot i d).tim = d.tim := by unfold reviewAllot; dsimp only; split; simp; split <;> simp
@[simp] theorem reviewAllot_sch (i : Nat) (d : Device) : (reviewAllot i d).sch = d.sch := by unfold reviewAllot; dsimp only; split; simp; split <;> simp
@[simp] theorem reviewAllot_asd (i : Nat) (d : Device) : (reviewAllot i d).asd = d.asd := by unfold reviewAllot; dsimp only; split; simp; split <;> simp
@[simp] theorem reviewAllot_fwl (i : Nat) (d : Device) : (reviewAllot i d).fwl = d.fwl := by unfold reviewAllot; dsimp only; split; simp; split <;> simp
@[simp] theorem reviewAllot_msc (i : Nat) (d : Device) : (reviewAllot i d).msc = d.msc := by unfold reviewAllot; dsimp only; split; simp; split <;> simp
@[simp] theorem reviewAllot_keeper (i : Nat) (d : Device) : (reviewAllot i d).keeper = d.keeper := by unfold reviewAllot; dsimp only; split; simp; split <;> simp
@[simp] theorem reviewAllot_pair (i : Nat) (d : Device) : (reviewAllot i d).pair = d.pair := by unfold reviewAllot; dsimp only; split; simp; split <;> simp
@[simp] theorem reviewAllot_wy (i : Nat) (d : Device) : (reviewAllot i d).wy = d.wy := by unfold reviewAllot; dsimp only; split; simp; split <;> simp
@[simp] theorem reviewAllot_top (i : Nat) (d : Device) : (reviewAllot i d).top = d.top := by unfold reviewAllot; dsimp only; split; simp; split <;> simp
@[simp] theorem reviewAllot_can (i : Nat) (d : Device) : (reviewAllot i d).can = d.can := by unfold reviewAllot; dsimp only; split; simp; split <;> simp
@[simp] theorem reviewAllot_mvb (i : Nat) (d : Device) : (reviewAllot i d).mvb = d.mvb := by unfold reviewAllot; dsimp only; split; simp; split <;> simp
@[simp] theorem reviewAllot_gw (i : Nat) (d : Device) : (reviewAllot i d).gw = d.gw := by unfold reviewAllot; dsimp only; split; simp; split <;> simp
@[simp] theorem reviewAllot_ssn (i : Nat) (d : Device) : (reviewAllot i d).ssn = d.ssn := by unfold reviewAllot; dsimp only; split; simp; split <;> simp
@[simp] theorem reviewAllot_boot (i : Nat) (d : Device) : (reviewAllot i d).boot = d.boot := by unfold reviewAllot; dsimp only; split; simp; split <;> simp
@[simp] theorem reviewAllot_flash (i : Nat) (d : Device) : (reviewAllot i d).flash = d.flash := by unfold reviewAllot; dsimp only; split; simp; split <;> simp
@[simp] theorem reviewAllot_dseq (i : Nat) (d : Device) : (reviewAllot i d).dseq = d.dseq := by unfold reviewAllot; dsimp only; split; simp; split <;> simp
@[simp] theorem reviewAllot_ccr (i : Nat) (d : Device) : (reviewAllot i d).ccr = d.ccr := by unfold reviewAllot; dsimp only; split; simp; split <;> simp
@[simp] theorem reviewAllot_sec (i : Nat) (d : Device) : (reviewAllot i d).sec = d.sec := by unfold reviewAllot; dsimp only; split; simp; split <;> simp
@[simp] theorem reviewAllot_hif (i : Nat) (d : Device) : (reviewAllot i d).hif = d.hif := by unfold reviewAllot; dsimp only; split; simp; split <;> simp
@[simp] theorem reviewAllot_ncp (i : Nat) (d : Device) : (reviewAllot i d).ncp = d.ncp := by unfold reviewAllot; dsimp only; split; simp; split <;> simp
@[simp] theorem reviewAllot_clk (i : Nat) (d : Device) : (reviewAllot i d).clk = d.clk := by unfold reviewAllot; dsimp only; split; simp; split <;> simp
@[simp] theorem reviewAllot_otp (i : Nat) (d : Device) : (reviewAllot i d).otp = d.otp := by unfold reviewAllot; dsimp only; split; simp; split <;> simp
@[simp] theorem reviewAllot_keyTable (i : Nat) (d : Device) : (reviewAllot i d).keyTable = d.keyTable := by unfold reviewAllot; dsimp only; split; simp; split <;> simp
@[simp] theorem reviewAllot_certs (i : Nat) (d : Device) : (reviewAllot i d).certs = d.certs := by unfold reviewAllot; dsimp only; split; simp; split <;> simp
@[simp] theorem reviewAllot_freeCtr (i : Nat) (d : Device) : (reviewAllot i d).freeCtr = d.freeCtr := by unfold reviewAllot; dsimp only; split; simp; split <;> simp

/-! `reviewAll` writes buf, sq, ctr, out, flt -/

@[simp] theorem reviewAll_now (d : Device) : (reviewAll d).now = d.now := by unfold reviewAll; dsimp only; (repeat' split) <;> (refine (foldl_keeps Device.now _ (by intro d i; simp) _ _).trans ?_; first | rfl | simp)
@[simp] theorem reviewAll_cfg (d : Device) : (reviewAll d).cfg = d.cfg := by unfold reviewAll; dsimp only; (repeat' split) <;> (refine (foldl_keeps Device.cfg _ (by intro d i; simp) _ _).trans ?_; first | rfl | simp)
@[simp] theorem reviewAll_oldCfgs (d : Device) : (reviewAll d).oldCfgs = d.oldCfgs := by unfold reviewAll; dsimp only; (repeat' split) <;> (refine (foldl_keeps Device.oldCfgs _ (by intro d i; simp) _ _).trans ?_; first | rfl | simp)
@[simp] theorem reviewAll_switching (d : Device) : (reviewAll d).switching = d.switching := by unfold reviewAll; dsimp only; (repeat' split) <;> (refine (foldl_keeps Device.switching _ (by intro d i; simp) _ _).trans ?_; first | rfl | simp)
@[simp] theorem reviewAll_glb (d : Device) : (reviewAll d).glb = d.glb := by unfold reviewAll; dsimp only; (repeat' split) <;> (refine (foldl_keeps Device.glb _ (by intro d i; simp) _ _).trans ?_; first | rfl | simp)
@[simp] theorem reviewAll_ports (d : Device) : (reviewAll d).ports = d.ports := by unfold reviewAll; dsimp only; (repeat' split) <;> (refine (foldl_keeps Device.ports _ (by intro d i; simp) _ _).trans ?_; first | rfl | simp)
@[simp] theorem reviewAll_fwd (d : Device) : (reviewAll d).fwd = d.fwd := by unfold reviewAll; dsimp only; (repeat' split) <;> (refine (foldl_keeps Device.fwd _ (by intro d i; simp) _ _).trans ?_; first | rfl | simp)
@[simp] theorem reviewAll_tim (d : Device) : (reviewAll d).tim = d.tim := by unfold reviewAll; dsimp only; (repeat' split) <;> (refine (foldl_keeps Device.tim _ (by intro d i; simp) _ _).trans ?_; first | rfl | simp)
@[simp] theorem reviewAll_sch (d : Device) : (reviewAll d).sch = d.sch := by unfold reviewAll; dsimp only; (repeat' split) <;> (refine (foldl_keeps Device.sch _ (by intro d i; simp) _ _).trans ?_; first | rfl | simp)
@[simp] theorem reviewAll_asd (d : Device) : (reviewAll d).asd = d.asd := by unfold reviewAll; dsimp only; (repeat' split) <;> (refine (foldl_keeps Device.asd _ (by intro d i; simp) _ _).trans ?_; first | rfl | simp)
@[simp] theorem reviewAll_fwl (d : Device) : (reviewAll d).fwl = d.fwl := by unfold reviewAll; dsimp only; (repeat' split) <;> (refine (foldl_keeps Device.fwl _ (by intro d i; simp) _ _).trans ?_; first | rfl | simp)
@[simp] theorem reviewAll_msc (d : Device) : (reviewAll d).msc = d.msc := by unfold reviewAll; dsimp only; (repeat' split) <;> (refine (foldl_keeps Device.msc _ (by intro d i; simp) _ _).trans ?_; first | rfl | simp)
@[simp] theorem reviewAll_keeper (d : Device) : (reviewAll d).keeper = d.keeper := by unfold reviewAll; dsimp only; (repeat' split) <;> (refine (foldl_keeps Device.keeper _ (by intro d i; simp) _ _).trans ?_; first | rfl | simp)
@[simp] theorem reviewAll_pair (d : Device) : (reviewAll d).pair = d.pair := by unfold reviewAll; dsimp only; (repeat' split) <;> (refine (foldl_keeps Device.pair _ (by intro d i; simp) _ _).trans ?_; first | rfl | simp)
@[simp] theorem reviewAll_wy (d : Device) : (reviewAll d).wy = d.wy := by unfold reviewAll; dsimp only; (repeat' split) <;> (refine (foldl_keeps Device.wy _ (by intro d i; simp) _ _).trans ?_; first | rfl | simp)
@[simp] theorem reviewAll_top (d : Device) : (reviewAll d).top = d.top := by unfold reviewAll; dsimp only; (repeat' split) <;> (refine (foldl_keeps Device.top _ (by intro d i; simp) _ _).trans ?_; first | rfl | simp)
@[simp] theorem reviewAll_can (d : Device) : (reviewAll d).can = d.can := by unfold reviewAll; dsimp only; (repeat' split) <;> (refine (foldl_keeps Device.can _ (by intro d i; simp) _ _).trans ?_; first | rfl | simp)
@[simp] theorem reviewAll_mvb (d : Device) : (reviewAll d).mvb = d.mvb := by unfold reviewAll; dsimp only; (repeat' split) <;> (refine (foldl_keeps Device.mvb _ (by intro d i; simp) _ _).trans ?_; first | rfl | simp)
@[simp] theorem reviewAll_gw (d : Device) : (reviewAll d).gw = d.gw := by unfold reviewAll; dsimp only; (repeat' split) <;> (refine (foldl_keeps Device.gw _ (by intro d i; simp) _ _).trans ?_; first | rfl | simp)
@[simp] theorem reviewAll_ssn (d : Device) : (reviewAll d).ssn = d.ssn := by unfold reviewAll; dsimp only; (repeat' split) <;> (refine (foldl_keeps Device.ssn _ (by intro d i; simp) _ _).trans ?_; first | rfl | simp)
@[simp] theorem reviewAll_boot (d : Device) : (reviewAll d).boot = d.boot := by unfold reviewAll; dsimp only; (repeat' split) <;> (refine (foldl_keeps Device.boot _ (by intro d i; simp) _ _).trans ?_; first | rfl | simp)
@[simp] theorem reviewAll_flash (d : Device) : (reviewAll d).flash = d.flash := by unfold reviewAll; dsimp only; (repeat' split) <;> (refine (foldl_keeps Device.flash _ (by intro d i; simp) _ _).trans ?_; first | rfl | simp)
@[simp] theorem reviewAll_dseq (d : Device) : (reviewAll d).dseq = d.dseq := by unfold reviewAll; dsimp only; (repeat' split) <;> (refine (foldl_keeps Device.dseq _ (by intro d i; simp) _ _).trans ?_; first | rfl | simp)
@[simp] theorem reviewAll_ccr (d : Device) : (reviewAll d).ccr = d.ccr := by unfold reviewAll; dsimp only; (repeat' split) <;> (refine (foldl_keeps Device.ccr _ (by intro d i; simp) _ _).trans ?_; first | rfl | simp)
@[simp] theorem reviewAll_sec (d : Device) : (reviewAll d).sec = d.sec := by unfold reviewAll; dsimp only; (repeat' split) <;> (refine (foldl_keeps Device.sec _ (by intro d i; simp) _ _).trans ?_; first | rfl | simp)
@[simp] theorem reviewAll_hif (d : Device) : (reviewAll d).hif = d.hif := by unfold reviewAll; dsimp only; (repeat' split) <;> (refine (foldl_keeps Device.hif _ (by intro d i; simp) _ _).trans ?_; first | rfl | simp)
@[simp] theorem reviewAll_ncp (d : Device) : (reviewAll d).ncp = d.ncp := by unfold reviewAll; dsimp only; (repeat' split) <;> (refine (foldl_keeps Device.ncp _ (by intro d i; simp) _ _).trans ?_; first | rfl | simp)
@[simp] theorem reviewAll_clk (d : Device) : (reviewAll d).clk = d.clk := by unfold reviewAll; dsimp only; (repeat' split) <;> (refine (foldl_keeps Device.clk _ (by intro d i; simp) _ _).trans ?_; first | rfl | simp)
@[simp] theorem reviewAll_otp (d : Device) : (reviewAll d).otp = d.otp := by unfold reviewAll; dsimp only; (repeat' split) <;> (refine (foldl_keeps Device.otp _ (by intro d i; simp) _ _).trans ?_; first | rfl | simp)
@[simp] theorem reviewAll_keyTable (d : Device) : (reviewAll d).keyTable = d.keyTable := by unfold reviewAll; dsimp only; (repeat' split) <;> (refine (foldl_keeps Device.keyTable _ (by intro d i; simp) _ _).trans ?_; first | rfl | simp)
@[simp] theorem reviewAll_certs (d : Device) : (reviewAll d).certs = d.certs := by unfold reviewAll; dsimp only; (repeat' split) <;> (refine (foldl_keeps Device.certs _ (by intro d i; simp) _ _).trans ?_; first | rfl | simp)
@[simp] theorem reviewAll_freeCtr (d : Device) : (reviewAll d).freeCtr = d.freeCtr := by unfold reviewAll; dsimp only; (repeat' split) <;> (refine (foldl_keeps Device.freeCtr _ (by intro d i; simp) _ _).trans ?_; first | rfl | simp)

/-! `addCharge` writes buf -/

@[simp] theorem addCharge_now (ch : Charge) (n : Nat) (d : Device) : (addCharge ch n d).now = d.now := by unfold addCharge; split <;> rfl
@[simp] theorem addCharge_cfg (ch : Charge) (n : Nat) (d : Device) : (addCharge ch n d).cfg = d.cfg := by unfold addCharge; split <;> rfl
@[simp] theorem addCharge_oldCfgs (ch : Charge) (n : Nat) (d : Device) : (addCharge ch n d).oldCfgs = d.oldCfgs := by unfold addCharge; split <;> rfl
@[simp] theorem addCharge_switching (ch : Charge) (n : Nat) (d : Device) : (addCharge ch n d).switching = d.switching := by unfold addCharge; split <;> rfl
@[simp] theorem addCharge_glb (ch : Charge) (n : Nat) (d : Device) : (addCharge ch n d).glb = d.glb := by unfold addCharge; split <;> rfl
@[simp] theorem addCharge_flt (ch : Charge) (n : Nat) (d : Device) : (addCharge ch n d).flt = d.flt := by unfold addCharge; split <;> rfl
@[simp] theorem addCharge_sq (ch : Charge) (n : Nat) (d : Device) : (addCharge ch n d).sq = d.sq := by unfold addCharge; split <;> rfl
@[simp] theorem addCharge_ctr (ch : Charge) (n : Nat) (d : Device) : (addCharge ch n d).ctr = d.ctr := by unfold addCharge; split <;> rfl
@[simp] theorem addCharge_ports (ch : Charge) (n : Nat) (d : Device) : (addCharge ch n d).ports = d.ports := by unfold addCharge; split <;> rfl
@[simp] theorem addCharge_fwd (ch : Charge) (n : Nat) (d : Device) : (addCharge ch n d).fwd = d.fwd := by unfold addCharge; split <;> rfl
@[simp] theorem addCharge_tim (ch : Charge) (n : Nat) (d : Device) : (addCharge ch n d).tim = d.tim := by unfold addCharge; split <;> rfl
@[simp] theorem addCharge_sch (ch : Charge) (n : Nat) (d : Device) : (addCharge ch n d).sch = d.sch := by unfold addCharge; split <;> rfl
@[simp] theorem addCharge_asd (ch : Charge) (n : Nat) (d : Device) : (addCharge ch n d).asd = d.asd := by unfold addCharge; split <;> rfl
@[simp] theorem addCharge_fwl (ch : Charge) (n : Nat) (d : Device) : (addCharge ch n d).fwl = d.fwl := by unfold addCharge; split <;> rfl
@[simp] theorem addCharge_msc (ch : Charge) (n : Nat) (d : Device) : (addCharge ch n d).msc = d.msc := by unfold addCharge; split <;> rfl
@[simp] theorem addCharge_keeper (ch : Charge) (n : Nat) (d : Device) : (addCharge ch n d).keeper = d.keeper := by unfold addCharge; split <;> rfl
@[simp] theorem addCharge_pair (ch : Charge) (n : Nat) (d : Device) : (addCharge ch n d).pair = d.pair := by unfold addCharge; split <;> rfl
@[simp] theorem addCharge_wy (ch : Charge) (n : Nat) (d : Device) : (addCharge ch n d).wy = d.wy := by unfold addCharge; split <;> rfl
@[simp] theorem addCharge_top (ch : Charge) (n : Nat) (d : Device) : (addCharge ch n d).top = d.top := by unfold addCharge; split <;> rfl
@[simp] theorem addCharge_can (ch : Charge) (n : Nat) (d : Device) : (addCharge ch n d).can = d.can := by unfold addCharge; split <;> rfl
@[simp] theorem addCharge_mvb (ch : Charge) (n : Nat) (d : Device) : (addCharge ch n d).mvb = d.mvb := by unfold addCharge; split <;> rfl
@[simp] theorem addCharge_gw (ch : Charge) (n : Nat) (d : Device) : (addCharge ch n d).gw = d.gw := by unfold addCharge; split <;> rfl
@[simp] theorem addCharge_ssn (ch : Charge) (n : Nat) (d : Device) : (addCharge ch n d).ssn = d.ssn := by unfold addCharge; split <;> rfl
@[simp] theorem addCharge_boot (ch : Charge) (n : Nat) (d : Device) : (addCharge ch n d).boot = d.boot := by unfold addCharge; split <;> rfl
@[simp] theorem addCharge_flash (ch : Charge) (n : Nat) (d : Device) : (addCharge ch n d).flash = d.flash := by unfold addCharge; split <;> rfl
@[simp] theorem addCharge_dseq (ch : Charge) (n : Nat) (d : Device) : (addCharge ch n d).dseq = d.dseq := by unfold addCharge; split <;> rfl
@[simp] theorem addCharge_ccr (ch : Charge) (n : Nat) (d : Device) : (addCharge ch n d).ccr = d.ccr := by unfold addCharge; split <;> rfl
@[simp] theorem addCharge_sec (ch : Charge) (n : Nat) (d : Device) : (addCharge ch n d).sec = d.sec := by unfold addCharge; split <;> rfl
@[simp] theorem addCharge_hif (ch : Charge) (n : Nat) (d : Device) : (addCharge ch n d).hif = d.hif := by unfold addCharge; split <;> rfl
@[simp] theorem addCharge_ncp (ch : Charge) (n : Nat) (d : Device) : (addCharge ch n d).ncp = d.ncp := by unfold addCharge; split <;> rfl
@[simp] theorem addCharge_clk (ch : Charge) (n : Nat) (d : Device) : (addCharge ch n d).clk = d.clk := by unfold addCharge; split <;> rfl
@[simp] theorem addCharge_otp (ch : Charge) (n : Nat) (d : Device) : (addCharge ch n d).otp = d.otp := by unfold addCharge; split <;> rfl
@[simp] theorem addCharge_keyTable (ch : Charge) (n : Nat) (d : Device) : (addCharge ch n d).keyTable = d.keyTable := by unfold addCharge; split <;> rfl
@[simp] theorem addCharge_certs (ch : Charge) (n : Nat) (d : Device) : (addCharge ch n d).certs = d.certs := by unfold addCharge; split <;> rfl
@[simp] theorem addCharge_freeCtr (ch : Charge) (n : Nat) (d : Device) : (addCharge ch n d).freeCtr = d.freeCtr := by unfold addCharge; split <;> rfl
@[simp] theorem addCharge_out (ch : Charge) (n : Nat) (d : Device) : (addCharge ch n d).out = d.out := by unfold addCharge; split <;> rfl

/-! `subCharge` writes buf -/

@[simp] theorem subCharge_now (ch : Charge) (n : Nat) (d : Device) : (subCharge ch n d).now = d.now := by unfold subCharge; split <;> rfl
@[simp] theorem subCharge_cfg (ch : Charge) (n : Nat) (d : Device) : (subCharge ch n d).cfg = d.cfg := by unfold subCharge; split <;> rfl
@[simp] theorem subCharge_oldCfgs (ch : Charge) (n : Nat) (d : Device) : (subCharge ch n d).oldCfgs = d.oldCfgs := by unfold subCharge; split <;> rfl
@[simp] theorem subCharge_switching (ch : Charge) (n : Nat) (d : Device) : (subCharge ch n d).switching = d.switching := by unfold subCharge; split <;> rfl
@[simp] theorem subCharge_glb (ch : Charge) (n : Nat) (d : Device) : (subCharge ch n d).glb = d.glb := by unfold subCharge; split <;> rfl
@[simp] theorem subCharge_flt (ch : Charge) (n : Nat) (d : Device) : (subCharge ch n d).flt = d.flt := by unfold subCharge; split <;> rfl
@[simp] theorem subCharge_sq (ch : Charge) (n : Nat) (d : Device) : (subCharge ch n d).sq = d.sq := by unfold subCharge; split <;> rfl
@[simp] theorem subCharge_ctr (ch : Charge) (n : Nat) (d : Device) : (subCharge ch n d).ctr = d.ctr := by unfold subCharge; split <;> rfl
@[simp] theorem subCharge_ports (ch : Charge) (n : Nat) (d : Device) : (subCharge ch n d).ports = d.ports := by unfold subCharge; split <;> rfl
@[simp] theorem subCharge_fwd (ch : Charge) (n : Nat) (d : Device) : (subCharge ch n d).fwd = d.fwd := by unfold subCharge; split <;> rfl
@[simp] theorem subCharge_tim (ch : Charge) (n : Nat) (d : Device) : (subCharge ch n d).tim = d.tim := by unfold subCharge; split <;> rfl
@[simp] theorem subCharge_sch (ch : Charge) (n : Nat) (d : Device) : (subCharge ch n d).sch = d.sch := by unfold subCharge; split <;> rfl
@[simp] theorem subCharge_asd (ch : Charge) (n : Nat) (d : Device) : (subCharge ch n d).asd = d.asd := by unfold subCharge; split <;> rfl
@[simp] theorem subCharge_fwl (ch : Charge) (n : Nat) (d : Device) : (subCharge ch n d).fwl = d.fwl := by unfold subCharge; split <;> rfl
@[simp] theorem subCharge_msc (ch : Charge) (n : Nat) (d : Device) : (subCharge ch n d).msc = d.msc := by unfold subCharge; split <;> rfl
@[simp] theorem subCharge_keeper (ch : Charge) (n : Nat) (d : Device) : (subCharge ch n d).keeper = d.keeper := by unfold subCharge; split <;> rfl
@[simp] theorem subCharge_pair (ch : Charge) (n : Nat) (d : Device) : (subCharge ch n d).pair = d.pair := by unfold subCharge; split <;> rfl
@[simp] theorem subCharge_wy (ch : Charge) (n : Nat) (d : Device) : (subCharge ch n d).wy = d.wy := by unfold subCharge; split <;> rfl
@[simp] theorem subCharge_top (ch : Charge) (n : Nat) (d : Device) : (subCharge ch n d).top = d.top := by unfold subCharge; split <;> rfl
@[simp] theorem subCharge_can (ch : Charge) (n : Nat) (d : Device) : (subCharge ch n d).can = d.can := by unfold subCharge; split <;> rfl
@[simp] theorem subCharge_mvb (ch : Charge) (n : Nat) (d : Device) : (subCharge ch n d).mvb = d.mvb := by unfold subCharge; split <;> rfl
@[simp] theorem subCharge_gw (ch : Charge) (n : Nat) (d : Device) : (subCharge ch n d).gw = d.gw := by unfold subCharge; split <;> rfl
@[simp] theorem subCharge_ssn (ch : Charge) (n : Nat) (d : Device) : (subCharge ch n d).ssn = d.ssn := by unfold subCharge; split <;> rfl
@[simp] theorem subCharge_boot (ch : Charge) (n : Nat) (d : Device) : (subCharge ch n d).boot = d.boot := by unfold subCharge; split <;> rfl
@[simp] theorem subCharge_flash (ch : Charge) (n : Nat) (d : Device) : (subCharge ch n d).flash = d.flash := by unfold subCharge; split <;> rfl
@[simp] theorem subCharge_dseq (ch : Charge) (n : Nat) (d : Device) : (subCharge ch n d).dseq = d.dseq := by unfold subCharge; split <;> rfl
@[simp] theorem subCharge_ccr (ch : Charge) (n : Nat) (d : Device) : (subCharge ch n d).ccr = d.ccr := by unfold subCharge; split <;> rfl
@[simp] theorem subCharge_sec (ch : Charge) (n : Nat) (d : Device) : (subCharge ch n d).sec = d.sec := by unfold subCharge; split <;> rfl
@[simp] theorem subCharge_hif (ch : Charge) (n : Nat) (d : Device) : (subCharge ch n d).hif = d.hif := by unfold subCharge; split <;> rfl
@[simp] theorem subCharge_ncp (ch : Charge) (n : Nat) (d : Device) : (subCharge ch n d).ncp = d.ncp := by unfold subCharge; split <;> rfl
@[simp] theorem subCharge_clk (ch : Charge) (n : Nat) (d : Device) : (subCharge ch n d).clk = d.clk := by unfold subCharge; split <;> rfl
@[simp] theorem subCharge_otp (ch : Charge) (n : Nat) (d : Device) : (subCharge ch n d).otp = d.otp := by unfold subCharge; split <;> rfl
@[simp] theorem subCharge_keyTable (ch : Charge) (n : Nat) (d : Device) : (subCharge ch n d).keyTable = d.keyTable := by unfold subCharge; split <;> rfl
@[simp] theorem subCharge_certs (ch : Charge) (n : Nat) (d : Device) : (subCharge ch n d).certs = d.certs := by unfold subCharge; split <;> rfl
@[simp] theorem subCharge_freeCtr (ch : Charge) (n : Nat) (d : Device) : (subCharge ch n d).freeCtr = d.freeCtr := by unfold subCharge; split <;> rfl
@[simp] theorem subCharge_out (ch : Charge) (n : Nat) (d : Device) : (subCharge ch n d).out = d.out := by unfold subCharge; split <;> rfl

/-! `freeHeadroom` writes buf -/

@[simp] theorem freeHeadroom_now (p n : Nat) (d : Device) : (freeHeadroom p n d).now = d.now := rfl
@[simp] theorem freeHeadroom_cfg (p n : Nat) (d : Device) : (freeHeadroom p n d).cfg = d.cfg := rfl
@[simp] theorem freeHeadroom_oldCfgs (p n : Nat) (d : Device) : (freeHeadroom p n d).oldCfgs = d.oldCfgs := rfl
@[simp] theorem freeHeadroom_switching (p n : Nat) (d : Device) : (freeHeadroom p n d).switching = d.switching := rfl
@[simp] theorem freeHeadroom_glb (p n : Nat) (d : Device) : (freeHeadroom p n d).glb = d.glb := rfl
@[simp] theorem freeHeadroom_flt (p n : Nat) (d : Device) : (freeHeadroom p n d).flt = d.flt := rfl
@[simp] theorem freeHeadroom_sq (p n : Nat) (d : Device) : (freeHeadroom p n d).sq = d.sq := rfl
@[simp] theorem freeHeadroom_ctr (p n : Nat) (d : Device) : (freeHeadroom p n d).ctr = d.ctr := rfl
@[simp] theorem freeHeadroom_ports (p n : Nat) (d : Device) : (freeHeadroom p n d).ports = d.ports := rfl
@[simp] theorem freeHeadroom_fwd (p n : Nat) (d : Device) : (freeHeadroom p n d).fwd = d.fwd := rfl
@[simp] theorem freeHeadroom_tim (p n : Nat) (d : Device) : (freeHeadroom p n d).tim = d.tim := rfl
@[simp] theorem freeHeadroom_sch (p n : Nat) (d : Device) : (freeHeadroom p n d).sch = d.sch := rfl
@[simp] theorem freeHeadroom_asd (p n : Nat) (d : Device) : (freeHeadroom p n d).asd = d.asd := rfl
@[simp] theorem freeHeadroom_fwl (p n : Nat) (d : Device) : (freeHeadroom p n d).fwl = d.fwl := rfl
@[simp] theorem freeHeadroom_msc (p n : Nat) (d : Device) : (freeHeadroom p n d).msc = d.msc := rfl
@[simp] theorem freeHeadroom_keeper (p n : Nat) (d : Device) : (freeHeadroom p n d).keeper = d.keeper := rfl
@[simp] theorem freeHeadroom_pair (p n : Nat) (d : Device) : (freeHeadroom p n d).pair = d.pair := rfl
@[simp] theorem freeHeadroom_wy (p n : Nat) (d : Device) : (freeHeadroom p n d).wy = d.wy := rfl
@[simp] theorem freeHeadroom_top (p n : Nat) (d : Device) : (freeHeadroom p n d).top = d.top := rfl
@[simp] theorem freeHeadroom_can (p n : Nat) (d : Device) : (freeHeadroom p n d).can = d.can := rfl
@[simp] theorem freeHeadroom_mvb (p n : Nat) (d : Device) : (freeHeadroom p n d).mvb = d.mvb := rfl
@[simp] theorem freeHeadroom_gw (p n : Nat) (d : Device) : (freeHeadroom p n d).gw = d.gw := rfl
@[simp] theorem freeHeadroom_ssn (p n : Nat) (d : Device) : (freeHeadroom p n d).ssn = d.ssn := rfl
@[simp] theorem freeHeadroom_boot (p n : Nat) (d : Device) : (freeHeadroom p n d).boot = d.boot := rfl
@[simp] theorem freeHeadroom_flash (p n : Nat) (d : Device) : (freeHeadroom p n d).flash = d.flash := rfl
@[simp] theorem freeHeadroom_dseq (p n : Nat) (d : Device) : (freeHeadroom p n d).dseq = d.dseq := rfl
@[simp] theorem freeHeadroom_ccr (p n : Nat) (d : Device) : (freeHeadroom p n d).ccr = d.ccr := rfl
@[simp] theorem freeHeadroom_sec (p n : Nat) (d : Device) : (freeHeadroom p n d).sec = d.sec := rfl
@[simp] theorem freeHeadroom_hif (p n : Nat) (d : Device) : (freeHeadroom p n d).hif = d.hif := rfl
@[simp] theorem freeHeadroom_ncp (p n : Nat) (d : Device) : (freeHeadroom p n d).ncp = d.ncp := rfl
@[simp] theorem freeHeadroom_clk (p n : Nat) (d : Device) : (freeHeadroom p n d).clk = d.clk := rfl
@[simp] theorem freeHeadroom_otp (p n : Nat) (d : Device) : (freeHeadroom p n d).otp = d.otp := rfl
@[simp] theorem freeHeadroom_keyTable (p n : Nat) (d : Device) : (freeHeadroom p n d).keyTable = d.keyTable := rfl
@[simp] theorem freeHeadroom_certs (p n : Nat) (d : Device) : (freeHeadroom p n d).certs = d.certs := rfl
@[simp] theorem freeHeadroom_freeCtr (p n : Nat) (d : Device) : (freeHeadroom p n d).freeCtr = d.freeCtr := rfl
@[simp] theorem freeHeadroom_out (p n : Nat) (d : Device) : (freeHeadroom p n d).out = d.out := rfl

/-! `freeCellsOf` writes buf, sq, ctr, out, flt -/

@[simp] theorem freeCellsOf_now (id : Nat) (d : Device) : (freeCellsOf id d).now = d.now := by unfold freeCellsOf; split; rfl; simp
@[simp] theorem freeCellsOf_cfg (id : Nat) (d : Device) : (freeCellsOf id d).cfg = d.cfg := by unfold freeCellsOf; split; rfl; simp
@[simp] theorem freeCellsOf_oldCfgs (id : Nat) (d : Device) : (freeCellsOf id d).oldCfgs = d.oldCfgs := by unfold freeCellsOf; split; rfl; simp
@[simp] theorem freeCellsOf_switching (id : Nat) (d : Device) : (freeCellsOf id d).switching = d.switching := by unfold freeCellsOf; split; rfl; simp
@[simp] theorem freeCellsOf_glb (id : Nat) (d : Device) : (freeCellsOf id d).glb = d.glb := by unfold freeCellsOf; split; rfl; simp
@[simp] theorem freeCellsOf_ports (id : Nat) (d : Device) : (freeCellsOf id d).ports = d.ports := by unfold freeCellsOf; split; rfl; simp
@[simp] theorem freeCellsOf_fwd (id : Nat) (d : Device) : (freeCellsOf id d).fwd = d.fwd := by unfold freeCellsOf; split; rfl; simp
@[simp] theorem freeCellsOf_tim (id : Nat) (d : Device) : (freeCellsOf id d).tim = d.tim := by unfold freeCellsOf; split; rfl; simp
@[simp] theorem freeCellsOf_sch (id : Nat) (d : Device) : (freeCellsOf id d).sch = d.sch := by unfold freeCellsOf; split; rfl; simp
@[simp] theorem freeCellsOf_asd (id : Nat) (d : Device) : (freeCellsOf id d).asd = d.asd := by unfold freeCellsOf; split; rfl; simp
@[simp] theorem freeCellsOf_fwl (id : Nat) (d : Device) : (freeCellsOf id d).fwl = d.fwl := by unfold freeCellsOf; split; rfl; simp
@[simp] theorem freeCellsOf_msc (id : Nat) (d : Device) : (freeCellsOf id d).msc = d.msc := by unfold freeCellsOf; split; rfl; simp
@[simp] theorem freeCellsOf_keeper (id : Nat) (d : Device) : (freeCellsOf id d).keeper = d.keeper := by unfold freeCellsOf; split; rfl; simp
@[simp] theorem freeCellsOf_pair (id : Nat) (d : Device) : (freeCellsOf id d).pair = d.pair := by unfold freeCellsOf; split; rfl; simp
@[simp] theorem freeCellsOf_wy (id : Nat) (d : Device) : (freeCellsOf id d).wy = d.wy := by unfold freeCellsOf; split; rfl; simp
@[simp] theorem freeCellsOf_top (id : Nat) (d : Device) : (freeCellsOf id d).top = d.top := by unfold freeCellsOf; split; rfl; simp
@[simp] theorem freeCellsOf_can (id : Nat) (d : Device) : (freeCellsOf id d).can = d.can := by unfold freeCellsOf; split; rfl; simp
@[simp] theorem freeCellsOf_mvb (id : Nat) (d : Device) : (freeCellsOf id d).mvb = d.mvb := by unfold freeCellsOf; split; rfl; simp
@[simp] theorem freeCellsOf_gw (id : Nat) (d : Device) : (freeCellsOf id d).gw = d.gw := by unfold freeCellsOf; split; rfl; simp
@[simp] theorem freeCellsOf_ssn (id : Nat) (d : Device) : (freeCellsOf id d).ssn = d.ssn := by unfold freeCellsOf; split; rfl; simp
@[simp] theorem freeCellsOf_boot (id : Nat) (d : Device) : (freeCellsOf id d).boot = d.boot := by unfold freeCellsOf; split; rfl; simp
@[simp] theorem freeCellsOf_flash (id : Nat) (d : Device) : (freeCellsOf id d).flash = d.flash := by unfold freeCellsOf; split; rfl; simp
@[simp] theorem freeCellsOf_dseq (id : Nat) (d : Device) : (freeCellsOf id d).dseq = d.dseq := by unfold freeCellsOf; split; rfl; simp
@[simp] theorem freeCellsOf_ccr (id : Nat) (d : Device) : (freeCellsOf id d).ccr = d.ccr := by unfold freeCellsOf; split; rfl; simp
@[simp] theorem freeCellsOf_sec (id : Nat) (d : Device) : (freeCellsOf id d).sec = d.sec := by unfold freeCellsOf; split; rfl; simp
@[simp] theorem freeCellsOf_hif (id : Nat) (d : Device) : (freeCellsOf id d).hif = d.hif := by unfold freeCellsOf; split; rfl; simp
@[simp] theorem freeCellsOf_ncp (id : Nat) (d : Device) : (freeCellsOf id d).ncp = d.ncp := by unfold freeCellsOf; split; rfl; simp
@[simp] theorem freeCellsOf_clk (id : Nat) (d : Device) : (freeCellsOf id d).clk = d.clk := by unfold freeCellsOf; split; rfl; simp
@[simp] theorem freeCellsOf_otp (id : Nat) (d : Device) : (freeCellsOf id d).otp = d.otp := by unfold freeCellsOf; split; rfl; simp
@[simp] theorem freeCellsOf_keyTable (id : Nat) (d : Device) : (freeCellsOf id d).keyTable = d.keyTable := by unfold freeCellsOf; split; rfl; simp
@[simp] theorem freeCellsOf_certs (id : Nat) (d : Device) : (freeCellsOf id d).certs = d.certs := by unfold freeCellsOf; split; rfl; simp
@[simp] theorem freeCellsOf_freeCtr (id : Nat) (d : Device) : (freeCellsOf id d).freeCtr = d.freeCtr := by unfold freeCellsOf; split; rfl; simp

/-! `retireFrame` writes buf, sq, ctr, out, flt -/

@[simp] theorem retireFrame_now (id : Nat) (d : Device) : (retireFrame id d).now = d.now := by unfold retireFrame; split; rfl; split; dsimp only; split <;> simp; rfl
@[simp] theorem retireFrame_cfg (id : Nat) (d : Device) : (retireFrame id d).cfg = d.cfg := by unfold retireFrame; split; rfl; split; dsimp only; split <;> simp; rfl
@[simp] theorem retireFrame_oldCfgs (id : Nat) (d : Device) : (retireFrame id d).oldCfgs = d.oldCfgs := by unfold retireFrame; split; rfl; split; dsimp only; split <;> simp; rfl
@[simp] theorem retireFrame_switching (id : Nat) (d : Device) : (retireFrame id d).switching = d.switching := by unfold retireFrame; split; rfl; split; dsimp only; split <;> simp; rfl
@[simp] theorem retireFrame_glb (id : Nat) (d : Device) : (retireFrame id d).glb = d.glb := by unfold retireFrame; split; rfl; split; dsimp only; split <;> simp; rfl
@[simp] theorem retireFrame_ports (id : Nat) (d : Device) : (retireFrame id d).ports = d.ports := by unfold retireFrame; split; rfl; split; dsimp only; split <;> simp; rfl
@[simp] theorem retireFrame_fwd (id : Nat) (d : Device) : (retireFrame id d).fwd = d.fwd := by unfold retireFrame; split; rfl; split; dsimp only; split <;> simp; rfl
@[simp] theorem retireFrame_tim (id : Nat) (d : Device) : (retireFrame id d).tim = d.tim := by unfold retireFrame; split; rfl; split; dsimp only; split <;> simp; rfl
@[simp] theorem retireFrame_sch (id : Nat) (d : Device) : (retireFrame id d).sch = d.sch := by unfold retireFrame; split; rfl; split; dsimp only; split <;> simp; rfl
@[simp] theorem retireFrame_asd (id : Nat) (d : Device) : (retireFrame id d).asd = d.asd := by unfold retireFrame; split; rfl; split; dsimp only; split <;> simp; rfl
@[simp] theorem retireFrame_fwl (id : Nat) (d : Device) : (retireFrame id d).fwl = d.fwl := by unfold retireFrame; split; rfl; split; dsimp only; split <;> simp; rfl
@[simp] theorem retireFrame_msc (id : Nat) (d : Device) : (retireFrame id d).msc = d.msc := by unfold retireFrame; split; rfl; split; dsimp only; split <;> simp; rfl
@[simp] theorem retireFrame_keeper (id : Nat) (d : Device) : (retireFrame id d).keeper = d.keeper := by unfold retireFrame; split; rfl; split; dsimp only; split <;> simp; rfl
@[simp] theorem retireFrame_pair (id : Nat) (d : Device) : (retireFrame id d).pair = d.pair := by unfold retireFrame; split; rfl; split; dsimp only; split <;> simp; rfl
@[simp] theorem retireFrame_wy (id : Nat) (d : Device) : (retireFrame id d).wy = d.wy := by unfold retireFrame; split; rfl; split; dsimp only; split <;> simp; rfl
@[simp] theorem retireFrame_top (id : Nat) (d : Device) : (retireFrame id d).top = d.top := by unfold retireFrame; split; rfl; split; dsimp only; split <;> simp; rfl
@[simp] theorem retireFrame_can (id : Nat) (d : Device) : (retireFrame id d).can = d.can := by unfold retireFrame; split; rfl; split; dsimp only; split <;> simp; rfl
@[simp] theorem retireFrame_mvb (id : Nat) (d : Device) : (retireFrame id d).mvb = d.mvb := by unfold retireFrame; split; rfl; split; dsimp only; split <;> simp; rfl
@[simp] theorem retireFrame_gw (id : Nat) (d : Device) : (retireFrame id d).gw = d.gw := by unfold retireFrame; split; rfl; split; dsimp only; split <;> simp; rfl
@[simp] theorem retireFrame_ssn (id : Nat) (d : Device) : (retireFrame id d).ssn = d.ssn := by unfold retireFrame; split; rfl; split; dsimp only; split <;> simp; rfl
@[simp] theorem retireFrame_boot (id : Nat) (d : Device) : (retireFrame id d).boot = d.boot := by unfold retireFrame; split; rfl; split; dsimp only; split <;> simp; rfl
@[simp] theorem retireFrame_flash (id : Nat) (d : Device) : (retireFrame id d).flash = d.flash := by unfold retireFrame; split; rfl; split; dsimp only; split <;> simp; rfl
@[simp] theorem retireFrame_dseq (id : Nat) (d : Device) : (retireFrame id d).dseq = d.dseq := by unfold retireFrame; split; rfl; split; dsimp only; split <;> simp; rfl
@[simp] theorem retireFrame_ccr (id : Nat) (d : Device) : (retireFrame id d).ccr = d.ccr := by unfold retireFrame; split; rfl; split; dsimp only; split <;> simp; rfl
@[simp] theorem retireFrame_sec (id : Nat) (d : Device) : (retireFrame id d).sec = d.sec := by unfold retireFrame; split; rfl; split; dsimp only; split <;> simp; rfl
@[simp] theorem retireFrame_hif (id : Nat) (d : Device) : (retireFrame id d).hif = d.hif := by unfold retireFrame; split; rfl; split; dsimp only; split <;> simp; rfl
@[simp] theorem retireFrame_ncp (id : Nat) (d : Device) : (retireFrame id d).ncp = d.ncp := by unfold retireFrame; split; rfl; split; dsimp only; split <;> simp; rfl
@[simp] theorem retireFrame_clk (id : Nat) (d : Device) : (retireFrame id d).clk = d.clk := by unfold retireFrame; split; rfl; split; dsimp only; split <;> simp; rfl
@[simp] theorem retireFrame_otp (id : Nat) (d : Device) : (retireFrame id d).otp = d.otp := by unfold retireFrame; split; rfl; split; dsimp only; split <;> simp; rfl
@[simp] theorem retireFrame_keyTable (id : Nat) (d : Device) : (retireFrame id d).keyTable = d.keyTable := by unfold retireFrame; split; rfl; split; dsimp only; split <;> simp; rfl
@[simp] theorem retireFrame_certs (id : Nat) (d : Device) : (retireFrame id d).certs = d.certs := by unfold retireFrame; split; rfl; split; dsimp only; split <;> simp; rfl
@[simp] theorem retireFrame_freeCtr (id : Nat) (d : Device) : (retireFrame id d).freeCtr = d.freeCtr := by unfold retireFrame; split; rfl; split; dsimp only; split <;> simp; rfl

/-! `dropFrame` writes buf, sq, ctr, out, flt -/

@[simp] theorem dropFrame_now (id : Nat) (d : Device) : (dropFrame id d).now = d.now := by simp [dropFrame]
@[simp] theorem dropFrame_cfg (id : Nat) (d : Device) : (dropFrame id d).cfg = d.cfg := by simp [dropFrame]
@[simp] theorem dropFrame_oldCfgs (id : Nat) (d : Device) : (dropFrame id d).oldCfgs = d.oldCfgs := by simp [dropFrame]
@[simp] theorem dropFrame_switching (id : Nat) (d : Device) : (dropFrame id d).switching = d.switching := by simp [dropFrame]
@[simp] theorem dropFrame_glb (id : Nat) (d : Device) : (dropFrame id d).glb = d.glb := by simp [dropFrame]
@[simp] theorem dropFrame_ports (id : Nat) (d : Device) : (dropFrame id d).ports = d.ports := by simp [dropFrame]
@[simp] theorem dropFrame_fwd (id : Nat) (d : Device) : (dropFrame id d).fwd = d.fwd := by simp [dropFrame]
@[simp] theorem dropFrame_tim (id : Nat) (d : Device) : (dropFrame id d).tim = d.tim := by simp [dropFrame]
@[simp] theorem dropFrame_sch (id : Nat) (d : Device) : (dropFrame id d).sch = d.sch := by simp [dropFrame]
@[simp] theorem dropFrame_asd (id : Nat) (d : Device) : (dropFrame id d).asd = d.asd := by simp [dropFrame]
@[simp] theorem dropFrame_fwl (id : Nat) (d : Device) : (dropFrame id d).fwl = d.fwl := by simp [dropFrame]
@[simp] theorem dropFrame_msc (id : Nat) (d : Device) : (dropFrame id d).msc = d.msc := by simp [dropFrame]
@[simp] theorem dropFrame_keeper (id : Nat) (d : Device) : (dropFrame id d).keeper = d.keeper := by simp [dropFrame]
@[simp] theorem dropFrame_pair (id : Nat) (d : Device) : (dropFrame id d).pair = d.pair := by simp [dropFrame]
@[simp] theorem dropFrame_wy (id : Nat) (d : Device) : (dropFrame id d).wy = d.wy := by simp [dropFrame]
@[simp] theorem dropFrame_top (id : Nat) (d : Device) : (dropFrame id d).top = d.top := by simp [dropFrame]
@[simp] theorem dropFrame_can (id : Nat) (d : Device) : (dropFrame id d).can = d.can := by simp [dropFrame]
@[simp] theorem dropFrame_mvb (id : Nat) (d : Device) : (dropFrame id d).mvb = d.mvb := by simp [dropFrame]
@[simp] theorem dropFrame_gw (id : Nat) (d : Device) : (dropFrame id d).gw = d.gw := by simp [dropFrame]
@[simp] theorem dropFrame_ssn (id : Nat) (d : Device) : (dropFrame id d).ssn = d.ssn := by simp [dropFrame]
@[simp] theorem dropFrame_boot (id : Nat) (d : Device) : (dropFrame id d).boot = d.boot := by simp [dropFrame]
@[simp] theorem dropFrame_flash (id : Nat) (d : Device) : (dropFrame id d).flash = d.flash := by simp [dropFrame]
@[simp] theorem dropFrame_dseq (id : Nat) (d : Device) : (dropFrame id d).dseq = d.dseq := by simp [dropFrame]
@[simp] theorem dropFrame_ccr (id : Nat) (d : Device) : (dropFrame id d).ccr = d.ccr := by simp [dropFrame]
@[simp] theorem dropFrame_sec (id : Nat) (d : Device) : (dropFrame id d).sec = d.sec := by simp [dropFrame]
@[simp] theorem dropFrame_hif (id : Nat) (d : Device) : (dropFrame id d).hif = d.hif := by simp [dropFrame]
@[simp] theorem dropFrame_ncp (id : Nat) (d : Device) : (dropFrame id d).ncp = d.ncp := by simp [dropFrame]
@[simp] theorem dropFrame_clk (id : Nat) (d : Device) : (dropFrame id d).clk = d.clk := by simp [dropFrame]
@[simp] theorem dropFrame_otp (id : Nat) (d : Device) : (dropFrame id d).otp = d.otp := by simp [dropFrame]
@[simp] theorem dropFrame_keyTable (id : Nat) (d : Device) : (dropFrame id d).keyTable = d.keyTable := by simp [dropFrame]
@[simp] theorem dropFrame_certs (id : Nat) (d : Device) : (dropFrame id d).certs = d.certs := by simp [dropFrame]
@[simp] theorem dropFrame_freeCtr (id : Nat) (d : Device) : (dropFrame id d).freeCtr = d.freeCtr := by simp [dropFrame]

/-! `pushTxts` writes ports, sq, flt, out -/

@[simp] theorem pushTxts_now (p : Nat) (st : Stamp) (id : BitVec 16) (k : Nat) (d : Device) : (pushTxts p st id k d).now = d.now := by unfold pushTxts; dsimp only; split; split; simp; split <;> simp; rfl
@[simp] theorem pushTxts_cfg (p : Nat) (st : Stamp) (id : BitVec 16) (k : Nat) (d : Device) : (pushTxts p st id k d).cfg = d.cfg := by unfold pushTxts; dsimp only; split; split; simp; split <;> simp; rfl
@[simp] theorem pushTxts_oldCfgs (p : Nat) (st : Stamp) (id : BitVec 16) (k : Nat) (d : Device) : (pushTxts p st id k d).oldCfgs = d.oldCfgs := by unfold pushTxts; dsimp only; split; split; simp; split <;> simp; rfl
@[simp] theorem pushTxts_switching (p : Nat) (st : Stamp) (id : BitVec 16) (k : Nat) (d : Device) : (pushTxts p st id k d).switching = d.switching := by unfold pushTxts; dsimp only; split; split; simp; split <;> simp; rfl
@[simp] theorem pushTxts_glb (p : Nat) (st : Stamp) (id : BitVec 16) (k : Nat) (d : Device) : (pushTxts p st id k d).glb = d.glb := by unfold pushTxts; dsimp only; split; split; simp; split <;> simp; rfl
@[simp] theorem pushTxts_ctr (p : Nat) (st : Stamp) (id : BitVec 16) (k : Nat) (d : Device) : (pushTxts p st id k d).ctr = d.ctr := by unfold pushTxts; dsimp only; split; split; simp; split <;> simp; rfl
@[simp] theorem pushTxts_buf (p : Nat) (st : Stamp) (id : BitVec 16) (k : Nat) (d : Device) : (pushTxts p st id k d).buf = d.buf := by unfold pushTxts; dsimp only; split; split; simp; split <;> simp; rfl
@[simp] theorem pushTxts_fwd (p : Nat) (st : Stamp) (id : BitVec 16) (k : Nat) (d : Device) : (pushTxts p st id k d).fwd = d.fwd := by unfold pushTxts; dsimp only; split; split; simp; split <;> simp; rfl
@[simp] theorem pushTxts_tim (p : Nat) (st : Stamp) (id : BitVec 16) (k : Nat) (d : Device) : (pushTxts p st id k d).tim = d.tim := by unfold pushTxts; dsimp only; split; split; simp; split <;> simp; rfl
@[simp] theorem pushTxts_sch (p : Nat) (st : Stamp) (id : BitVec 16) (k : Nat) (d : Device) : (pushTxts p st id k d).sch = d.sch := by unfold pushTxts; dsimp only; split; split; simp; split <;> simp; rfl
@[simp] theorem pushTxts_asd (p : Nat) (st : Stamp) (id : BitVec 16) (k : Nat) (d : Device) : (pushTxts p st id k d).asd = d.asd := by unfold pushTxts; dsimp only; split; split; simp; split <;> simp; rfl
@[simp] theorem pushTxts_fwl (p : Nat) (st : Stamp) (id : BitVec 16) (k : Nat) (d : Device) : (pushTxts p st id k d).fwl = d.fwl := by unfold pushTxts; dsimp only; split; split; simp; split <;> simp; rfl
@[simp] theorem pushTxts_msc (p : Nat) (st : Stamp) (id : BitVec 16) (k : Nat) (d : Device) : (pushTxts p st id k d).msc = d.msc := by unfold pushTxts; dsimp only; split; split; simp; split <;> simp; rfl
@[simp] theorem pushTxts_keeper (p : Nat) (st : Stamp) (id : BitVec 16) (k : Nat) (d : Device) : (pushTxts p st id k d).keeper = d.keeper := by unfold pushTxts; dsimp only; split; split; simp; split <;> simp; rfl
@[simp] theorem pushTxts_pair (p : Nat) (st : Stamp) (id : BitVec 16) (k : Nat) (d : Device) : (pushTxts p st id k d).pair = d.pair := by unfold pushTxts; dsimp only; split; split; simp; split <;> simp; rfl
@[simp] theorem pushTxts_wy (p : Nat) (st : Stamp) (id : BitVec 16) (k : Nat) (d : Device) : (pushTxts p st id k d).wy = d.wy := by unfold pushTxts; dsimp only; split; split; simp; split <;> simp; rfl
@[simp] theorem pushTxts_top (p : Nat) (st : Stamp) (id : BitVec 16) (k : Nat) (d : Device) : (pushTxts p st id k d).top = d.top := by unfold pushTxts; dsimp only; split; split; simp; split <;> simp; rfl
@[simp] theorem pushTxts_can (p : Nat) (st : Stamp) (id : BitVec 16) (k : Nat) (d : Device) : (pushTxts p st id k d).can = d.can := by unfold pushTxts; dsimp only; split; split; simp; split <;> simp; rfl
@[simp] theorem pushTxts_mvb (p : Nat) (st : Stamp) (id : BitVec 16) (k : Nat) (d : Device) : (pushTxts p st id k d).mvb = d.mvb := by unfold pushTxts; dsimp only; split; split; simp; split <;> simp; rfl
@[simp] theorem pushTxts_gw (p : Nat) (st : Stamp) (id : BitVec 16) (k : Nat) (d : Device) : (pushTxts p st id k d).gw = d.gw := by unfold pushTxts; dsimp only; split; split; simp; split <;> simp; rfl
@[simp] theorem pushTxts_ssn (p : Nat) (st : Stamp) (id : BitVec 16) (k : Nat) (d : Device) : (pushTxts p st id k d).ssn = d.ssn := by unfold pushTxts; dsimp only; split; split; simp; split <;> simp; rfl
@[simp] theorem pushTxts_boot (p : Nat) (st : Stamp) (id : BitVec 16) (k : Nat) (d : Device) : (pushTxts p st id k d).boot = d.boot := by unfold pushTxts; dsimp only; split; split; simp; split <;> simp; rfl
@[simp] theorem pushTxts_flash (p : Nat) (st : Stamp) (id : BitVec 16) (k : Nat) (d : Device) : (pushTxts p st id k d).flash = d.flash := by unfold pushTxts; dsimp only; split; split; simp; split <;> simp; rfl
@[simp] theorem pushTxts_dseq (p : Nat) (st : Stamp) (id : BitVec 16) (k : Nat) (d : Device) : (pushTxts p st id k d).dseq = d.dseq := by unfold pushTxts; dsimp only; split; split; simp; split <;> simp; rfl
@[simp] theorem pushTxts_ccr (p : Nat) (st : Stamp) (id : BitVec 16) (k : Nat) (d : Device) : (pushTxts p st id k d).ccr = d.ccr := by unfold pushTxts; dsimp only; split; split; simp; split <;> simp; rfl
@[simp] theorem pushTxts_sec (p : Nat) (st : Stamp) (id : BitVec 16) (k : Nat) (d : Device) : (pushTxts p st id k d).sec = d.sec := by unfold pushTxts; dsimp only; split; split; simp; split <;> simp; rfl
@[simp] theorem pushTxts_hif (p : Nat) (st : Stamp) (id : BitVec 16) (k : Nat) (d : Device) : (pushTxts p st id k d).hif = d.hif := by unfold pushTxts; dsimp only; split; split; simp; split <;> simp; rfl
@[simp] theorem pushTxts_ncp (p : Nat) (st : Stamp) (id : BitVec 16) (k : Nat) (d : Device) : (pushTxts p st id k d).ncp = d.ncp := by unfold pushTxts; dsimp only; split; split; simp; split <;> simp; rfl
@[simp] theorem pushTxts_clk (p : Nat) (st : Stamp) (id : BitVec 16) (k : Nat) (d : Device) : (pushTxts p st id k d).clk = d.clk := by unfold pushTxts; dsimp only; split; split; simp; split <;> simp; rfl
@[simp] theorem pushTxts_otp (p : Nat) (st : Stamp) (id : BitVec 16) (k : Nat) (d : Device) : (pushTxts p st id k d).otp = d.otp := by unfold pushTxts; dsimp only; split; split; simp; split <;> simp; rfl
@[simp] theorem pushTxts_keyTable (p : Nat) (st : Stamp) (id : BitVec 16) (k : Nat) (d : Device) : (pushTxts p st id k d).keyTable = d.keyTable := by unfold pushTxts; dsimp only; split; split; simp; split <;> simp; rfl
@[simp] theorem pushTxts_certs (p : Nat) (st : Stamp) (id : BitVec 16) (k : Nat) (d : Device) : (pushTxts p st id k d).certs = d.certs := by unfold pushTxts; dsimp only; split; split; simp; split <;> simp; rfl
@[simp] theorem pushTxts_freeCtr (p : Nat) (st : Stamp) (id : BitVec 16) (k : Nat) (d : Device) : (pushTxts p st id k d).freeCtr = d.freeCtr := by unfold pushTxts; dsimp only; split; split; simp; split <;> simp; rfl

/-! `asdCopyEnded` writes asd -/

@[simp] theorem asdCopyEnded_now (c : Copy) (l : Bool) (d : Device) : (asdCopyEnded c l d).now = d.now := by unfold asdCopyEnded; split; rfl; split <;> rfl
@[simp] theorem asdCopyEnded_cfg (c : Copy) (l : Bool) (d : Device) : (asdCopyEnded c l d).cfg = d.cfg := by unfold asdCopyEnded; split; rfl; split <;> rfl
@[simp] theorem asdCopyEnded_oldCfgs (c : Copy) (l : Bool) (d : Device) : (asdCopyEnded c l d).oldCfgs = d.oldCfgs := by unfold asdCopyEnded; split; rfl; split <;> rfl
@[simp] theorem asdCopyEnded_switching (c : Copy) (l : Bool) (d : Device) : (asdCopyEnded c l d).switching = d.switching := by unfold asdCopyEnded; split; rfl; split <;> rfl
@[simp] theorem asdCopyEnded_glb (c : Copy) (l : Bool) (d : Device) : (asdCopyEnded c l d).glb = d.glb := by unfold asdCopyEnded; split; rfl; split <;> rfl
@[simp] theorem asdCopyEnded_flt (c : Copy) (l : Bool) (d : Device) : (asdCopyEnded c l d).flt = d.flt := by unfold asdCopyEnded; split; rfl; split <;> rfl
@[simp] theorem asdCopyEnded_sq (c : Copy) (l : Bool) (d : Device) : (asdCopyEnded c l d).sq = d.sq := by unfold asdCopyEnded; split; rfl; split <;> rfl
@[simp] theorem asdCopyEnded_ctr (c : Copy) (l : Bool) (d : Device) : (asdCopyEnded c l d).ctr = d.ctr := by unfold asdCopyEnded; split; rfl; split <;> rfl
@[simp] theorem asdCopyEnded_ports (c : Copy) (l : Bool) (d : Device) : (asdCopyEnded c l d).ports = d.ports := by unfold asdCopyEnded; split; rfl; split <;> rfl
@[simp] theorem asdCopyEnded_buf (c : Copy) (l : Bool) (d : Device) : (asdCopyEnded c l d).buf = d.buf := by unfold asdCopyEnded; split; rfl; split <;> rfl
@[simp] theorem asdCopyEnded_fwd (c : Copy) (l : Bool) (d : Device) : (asdCopyEnded c l d).fwd = d.fwd := by unfold asdCopyEnded; split; rfl; split <;> rfl
@[simp] theorem asdCopyEnded_tim (c : Copy) (l : Bool) (d : Device) : (asdCopyEnded c l d).tim = d.tim := by unfold asdCopyEnded; split; rfl; split <;> rfl
@[simp] theorem asdCopyEnded_sch (c : Copy) (l : Bool) (d : Device) : (asdCopyEnded c l d).sch = d.sch := by unfold asdCopyEnded; split; rfl; split <;> rfl
@[simp] theorem asdCopyEnded_fwl (c : Copy) (l : Bool) (d : Device) : (asdCopyEnded c l d).fwl = d.fwl := by unfold asdCopyEnded; split; rfl; split <;> rfl
@[simp] theorem asdCopyEnded_msc (c : Copy) (l : Bool) (d : Device) : (asdCopyEnded c l d).msc = d.msc := by unfold asdCopyEnded; split; rfl; split <;> rfl
@[simp] theorem asdCopyEnded_keeper (c : Copy) (l : Bool) (d : Device) : (asdCopyEnded c l d).keeper = d.keeper := by unfold asdCopyEnded; split; rfl; split <;> rfl
@[simp] theorem asdCopyEnded_pair (c : Copy) (l : Bool) (d : Device) : (asdCopyEnded c l d).pair = d.pair := by unfold asdCopyEnded; split; rfl; split <;> rfl
@[simp] theorem asdCopyEnded_wy (c : Copy) (l : Bool) (d : Device) : (asdCopyEnded c l d).wy = d.wy := by unfold asdCopyEnded; split; rfl; split <;> rfl
@[simp] theorem asdCopyEnded_top (c : Copy) (l : Bool) (d : Device) : (asdCopyEnded c l d).top = d.top := by unfold asdCopyEnded; split; rfl; split <;> rfl
@[simp] theorem asdCopyEnded_can (c : Copy) (l : Bool) (d : Device) : (asdCopyEnded c l d).can = d.can := by unfold asdCopyEnded; split; rfl; split <;> rfl
@[simp] theorem asdCopyEnded_mvb (c : Copy) (l : Bool) (d : Device) : (asdCopyEnded c l d).mvb = d.mvb := by unfold asdCopyEnded; split; rfl; split <;> rfl
@[simp] theorem asdCopyEnded_gw (c : Copy) (l : Bool) (d : Device) : (asdCopyEnded c l d).gw = d.gw := by unfold asdCopyEnded; split; rfl; split <;> rfl
@[simp] theorem asdCopyEnded_ssn (c : Copy) (l : Bool) (d : Device) : (asdCopyEnded c l d).ssn = d.ssn := by unfold asdCopyEnded; split; rfl; split <;> rfl
@[simp] theorem asdCopyEnded_boot (c : Copy) (l : Bool) (d : Device) : (asdCopyEnded c l d).boot = d.boot := by unfold asdCopyEnded; split; rfl; split <;> rfl
@[simp] theorem asdCopyEnded_flash (c : Copy) (l : Bool) (d : Device) : (asdCopyEnded c l d).flash = d.flash := by unfold asdCopyEnded; split; rfl; split <;> rfl
@[simp] theorem asdCopyEnded_dseq (c : Copy) (l : Bool) (d : Device) : (asdCopyEnded c l d).dseq = d.dseq := by unfold asdCopyEnded; split; rfl; split <;> rfl
@[simp] theorem asdCopyEnded_ccr (c : Copy) (l : Bool) (d : Device) : (asdCopyEnded c l d).ccr = d.ccr := by unfold asdCopyEnded; split; rfl; split <;> rfl
@[simp] theorem asdCopyEnded_sec (c : Copy) (l : Bool) (d : Device) : (asdCopyEnded c l d).sec = d.sec := by unfold asdCopyEnded; split; rfl; split <;> rfl
@[simp] theorem asdCopyEnded_hif (c : Copy) (l : Bool) (d : Device) : (asdCopyEnded c l d).hif = d.hif := by unfold asdCopyEnded; split; rfl; split <;> rfl
@[simp] theorem asdCopyEnded_ncp (c : Copy) (l : Bool) (d : Device) : (asdCopyEnded c l d).ncp = d.ncp := by unfold asdCopyEnded; split; rfl; split <;> rfl
@[simp] theorem asdCopyEnded_clk (c : Copy) (l : Bool) (d : Device) : (asdCopyEnded c l d).clk = d.clk := by unfold asdCopyEnded; split; rfl; split <;> rfl
@[simp] theorem asdCopyEnded_otp (c : Copy) (l : Bool) (d : Device) : (asdCopyEnded c l d).otp = d.otp := by unfold asdCopyEnded; split; rfl; split <;> rfl
@[simp] theorem asdCopyEnded_keyTable (c : Copy) (l : Bool) (d : Device) : (asdCopyEnded c l d).keyTable = d.keyTable := by unfold asdCopyEnded; split; rfl; split <;> rfl
@[simp] theorem asdCopyEnded_certs (c : Copy) (l : Bool) (d : Device) : (asdCopyEnded c l d).certs = d.certs := by unfold asdCopyEnded; split; rfl; split <;> rfl
@[simp] theorem asdCopyEnded_freeCtr (c : Copy) (l : Bool) (d : Device) : (asdCopyEnded c l d).freeCtr = d.freeCtr := by unfold asdCopyEnded; split; rfl; split <;> rfl
@[simp] theorem asdCopyEnded_out (c : Copy) (l : Bool) (d : Device) : (asdCopyEnded c l d).out = d.out := by unfold asdCopyEnded; split; rfl; split <;> rfl

/-! `copyGone` writes buf, sq, ctr, out, flt, ports, asd -/

@[simp] theorem copyGone_now (p : Nat) (c : Copy) (x y : Bool) (d : Device) : (copyGone p c x y d).now = d.now := by unfold copyGone; simp; cases y <;> simp <;> split <;> simp
@[simp] theorem copyGone_cfg (p : Nat) (c : Copy) (x y : Bool) (d : Device) : (copyGone p c x y d).cfg = d.cfg := by unfold copyGone; simp; cases y <;> simp <;> split <;> simp
@[simp] theorem copyGone_oldCfgs (p : Nat) (c : Copy) (x y : Bool) (d : Device) : (copyGone p c x y d).oldCfgs = d.oldCfgs := by unfold copyGone; simp; cases y <;> simp <;> split <;> simp
@[simp] theorem copyGone_switching (p : Nat) (c : Copy) (x y : Bool) (d : Device) : (copyGone p c x y d).switching = d.switching := by unfold copyGone; simp; cases y <;> simp <;> split <;> simp
@[simp] theorem copyGone_glb (p : Nat) (c : Copy) (x y : Bool) (d : Device) : (copyGone p c x y d).glb = d.glb := by unfold copyGone; simp; cases y <;> simp <;> split <;> simp
@[simp] theorem copyGone_fwd (p : Nat) (c : Copy) (x y : Bool) (d : Device) : (copyGone p c x y d).fwd = d.fwd := by unfold copyGone; simp; cases y <;> simp <;> split <;> simp
@[simp] theorem copyGone_tim (p : Nat) (c : Copy) (x y : Bool) (d : Device) : (copyGone p c x y d).tim = d.tim := by unfold copyGone; simp; cases y <;> simp <;> split <;> simp
@[simp] theorem copyGone_sch (p : Nat) (c : Copy) (x y : Bool) (d : Device) : (copyGone p c x y d).sch = d.sch := by unfold copyGone; simp; cases y <;> simp <;> split <;> simp
@[simp] theorem copyGone_fwl (p : Nat) (c : Copy) (x y : Bool) (d : Device) : (copyGone p c x y d).fwl = d.fwl := by unfold copyGone; simp; cases y <;> simp <;> split <;> simp
@[simp] theorem copyGone_msc (p : Nat) (c : Copy) (x y : Bool) (d : Device) : (copyGone p c x y d).msc = d.msc := by unfold copyGone; simp; cases y <;> simp <;> split <;> simp
@[simp] theorem copyGone_keeper (p : Nat) (c : Copy) (x y : Bool) (d : Device) : (copyGone p c x y d).keeper = d.keeper := by unfold copyGone; simp; cases y <;> simp <;> split <;> simp
@[simp] theorem copyGone_pair (p : Nat) (c : Copy) (x y : Bool) (d : Device) : (copyGone p c x y d).pair = d.pair := by unfold copyGone; simp; cases y <;> simp <;> split <;> simp
@[simp] theorem copyGone_wy (p : Nat) (c : Copy) (x y : Bool) (d : Device) : (copyGone p c x y d).wy = d.wy := by unfold copyGone; simp; cases y <;> simp <;> split <;> simp
@[simp] theorem copyGone_top (p : Nat) (c : Copy) (x y : Bool) (d : Device) : (copyGone p c x y d).top = d.top := by unfold copyGone; simp; cases y <;> simp <;> split <;> simp
@[simp] theorem copyGone_can (p : Nat) (c : Copy) (x y : Bool) (d : Device) : (copyGone p c x y d).can = d.can := by unfold copyGone; simp; cases y <;> simp <;> split <;> simp
@[simp] theorem copyGone_mvb (p : Nat) (c : Copy) (x y : Bool) (d : Device) : (copyGone p c x y d).mvb = d.mvb := by unfold copyGone; simp; cases y <;> simp <;> split <;> simp
@[simp] theorem copyGone_gw (p : Nat) (c : Copy) (x y : Bool) (d : Device) : (copyGone p c x y d).gw = d.gw := by unfold copyGone; simp; cases y <;> simp <;> split <;> simp
@[simp] theorem copyGone_ssn (p : Nat) (c : Copy) (x y : Bool) (d : Device) : (copyGone p c x y d).ssn = d.ssn := by unfold copyGone; simp; cases y <;> simp <;> split <;> simp
@[simp] theorem copyGone_boot (p : Nat) (c : Copy) (x y : Bool) (d : Device) : (copyGone p c x y d).boot = d.boot := by unfold copyGone; simp; cases y <;> simp <;> split <;> simp
@[simp] theorem copyGone_flash (p : Nat) (c : Copy) (x y : Bool) (d : Device) : (copyGone p c x y d).flash = d.flash := by unfold copyGone; simp; cases y <;> simp <;> split <;> simp
@[simp] theorem copyGone_dseq (p : Nat) (c : Copy) (x y : Bool) (d : Device) : (copyGone p c x y d).dseq = d.dseq := by unfold copyGone; simp; cases y <;> simp <;> split <;> simp
@[simp] theorem copyGone_ccr (p : Nat) (c : Copy) (x y : Bool) (d : Device) : (copyGone p c x y d).ccr = d.ccr := by unfold copyGone; simp; cases y <;> simp <;> split <;> simp
@[simp] theorem copyGone_sec (p : Nat) (c : Copy) (x y : Bool) (d : Device) : (copyGone p c x y d).sec = d.sec := by unfold copyGone; simp; cases y <;> simp <;> split <;> simp
@[simp] theorem copyGone_hif (p : Nat) (c : Copy) (x y : Bool) (d : Device) : (copyGone p c x y d).hif = d.hif := by unfold copyGone; simp; cases y <;> simp <;> split <;> simp
@[simp] theorem copyGone_ncp (p : Nat) (c : Copy) (x y : Bool) (d : Device) : (copyGone p c x y d).ncp = d.ncp := by unfold copyGone; simp; cases y <;> simp <;> split <;> simp
@[simp] theorem copyGone_clk (p : Nat) (c : Copy) (x y : Bool) (d : Device) : (copyGone p c x y d).clk = d.clk := by unfold copyGone; simp; cases y <;> simp <;> split <;> simp
@[simp] theorem copyGone_otp (p : Nat) (c : Copy) (x y : Bool) (d : Device) : (copyGone p c x y d).otp = d.otp := by unfold copyGone; simp; cases y <;> simp <;> split <;> simp
@[simp] theorem copyGone_keyTable (p : Nat) (c : Copy) (x y : Bool) (d : Device) : (copyGone p c x y d).keyTable = d.keyTable := by unfold copyGone; simp; cases y <;> simp <;> split <;> simp
@[simp] theorem copyGone_certs (p : Nat) (c : Copy) (x y : Bool) (d : Device) : (copyGone p c x y d).certs = d.certs := by unfold copyGone; simp; cases y <;> simp <;> split <;> simp
@[simp] theorem copyGone_freeCtr (p : Nat) (c : Copy) (x y : Bool) (d : Device) : (copyGone p c x y d).freeCtr = d.freeCtr := by unfold copyGone; simp; cases y <;> simp <;> split <;> simp

/-! `discardCopies` writes buf, sq, ctr, out, flt, ports, asd -/

@[simp] theorem discardCopies_now (q k : Nat) (l : List Copy) (d : Device) : (discardCopies q k l d).now = d.now := by unfold discardCopies; exact foldl_keeps Device.now _ (by intro d x; simp) _ _
@[simp] theorem discardCopies_cfg (q k : Nat) (l : List Copy) (d : Device) : (discardCopies q k l d).cfg = d.cfg := by unfold discardCopies; exact foldl_keeps Device.cfg _ (by intro d x; simp) _ _
@[simp] theorem discardCopies_oldCfgs (q k : Nat) (l : List Copy) (d : Device) : (discardCopies q k l d).oldCfgs = d.oldCfgs := by unfold discardCopies; exact foldl_keeps Device.oldCfgs _ (by intro d x; simp) _ _
@[simp] theorem discardCopies_switching (q k : Nat) (l : List Copy) (d : Device) : (discardCopies q k l d).switching = d.switching := by unfold discardCopies; exact foldl_keeps Device.switching _ (by intro d x; simp) _ _
@[simp] theorem discardCopies_glb (q k : Nat) (l : List Copy) (d : Device) : (discardCopies q k l d).glb = d.glb := by unfold discardCopies; exact foldl_keeps Device.glb _ (by intro d x; simp) _ _
@[simp] theorem discardCopies_fwd (q k : Nat) (l : List Copy) (d : Device) : (discardCopies q k l d).fwd = d.fwd := by unfold discardCopies; exact foldl_keeps Device.fwd _ (by intro d x; simp) _ _
@[simp] theorem discardCopies_tim (q k : Nat) (l : List Copy) (d : Device) : (discardCopies q k l d).tim = d.tim := by unfold discardCopies; exact foldl_keeps Device.tim _ (by intro d x; simp) _ _
@[simp] theorem discardCopies_sch (q k : Nat) (l : List Copy) (d : Device) : (discardCopies q k l d).sch = d.sch := by unfold discardCopies; exact foldl_keeps Device.sch _ (by intro d x; simp) _ _
@[simp] theorem discardCopies_fwl (q k : Nat) (l : List Copy) (d : Device) : (discardCopies q k l d).fwl = d.fwl := by unfold discardCopies; exact foldl_keeps Device.fwl _ (by intro d x; simp) _ _
@[simp] theorem discardCopies_msc (q k : Nat) (l : List Copy) (d : Device) : (discardCopies q k l d).msc = d.msc := by unfold discardCopies; exact foldl_keeps Device.msc _ (by intro d x; simp) _ _
@[simp] theorem discardCopies_keeper (q k : Nat) (l : List Copy) (d : Device) : (discardCopies q k l d).keeper = d.keeper := by unfold discardCopies; exact foldl_keeps Device.keeper _ (by intro d x; simp) _ _
@[simp] theorem discardCopies_pair (q k : Nat) (l : List Copy) (d : Device) : (discardCopies q k l d).pair = d.pair := by unfold discardCopies; exact foldl_keeps Device.pair _ (by intro d x; simp) _ _
@[simp] theorem discardCopies_wy (q k : Nat) (l : List Copy) (d : Device) : (discardCopies q k l d).wy = d.wy := by unfold discardCopies; exact foldl_keeps Device.wy _ (by intro d x; simp) _ _
@[simp] theorem discardCopies_top (q k : Nat) (l : List Copy) (d : Device) : (discardCopies q k l d).top = d.top := by unfold discardCopies; exact foldl_keeps Device.top _ (by intro d x; simp) _ _
@[simp] theorem discardCopies_can (q k : Nat) (l : List Copy) (d : Device) : (discardCopies q k l d).can = d.can := by unfold discardCopies; exact foldl_keeps Device.can _ (by intro d x; simp) _ _
@[simp] theorem discardCopies_mvb (q k : Nat) (l : List Copy) (d : Device) : (discardCopies q k l d).mvb = d.mvb := by unfold discardCopies; exact foldl_keeps Device.mvb _ (by intro d x; simp) _ _
@[simp] theorem discardCopies_gw (q k : Nat) (l : List Copy) (d : Device) : (discardCopies q k l d).gw = d.gw := by unfold discardCopies; exact foldl_keeps Device.gw _ (by intro d x; simp) _ _
@[simp] theorem discardCopies_ssn (q k : Nat) (l : List Copy) (d : Device) : (discardCopies q k l d).ssn = d.ssn := by unfold discardCopies; exact foldl_keeps Device.ssn _ (by intro d x; simp) _ _
@[simp] theorem discardCopies_boot (q k : Nat) (l : List Copy) (d : Device) : (discardCopies q k l d).boot = d.boot := by unfold discardCopies; exact foldl_keeps Device.boot _ (by intro d x; simp) _ _
@[simp] theorem discardCopies_flash (q k : Nat) (l : List Copy) (d : Device) : (discardCopies q k l d).flash = d.flash := by unfold discardCopies; exact foldl_keeps Device.flash _ (by intro d x; simp) _ _
@[simp] theorem discardCopies_dseq (q k : Nat) (l : List Copy) (d : Device) : (discardCopies q k l d).dseq = d.dseq := by unfold discardCopies; exact foldl_keeps Device.dseq _ (by intro d x; simp) _ _
@[simp] theorem discardCopies_ccr (q k : Nat) (l : List Copy) (d : Device) : (discardCopies q k l d).ccr = d.ccr := by unfold discardCopies; exact foldl_keeps Device.ccr _ (by intro d x; simp) _ _
@[simp] theorem discardCopies_sec (q k : Nat) (l : List Copy) (d : Device) : (discardCopies q k l d).sec = d.sec := by unfold discardCopies; exact foldl_keeps Device.sec _ (by intro d x; simp) _ _
@[simp] theorem discardCopies_hif (q k : Nat) (l : List Copy) (d : Device) : (discardCopies q k l d).hif = d.hif := by unfold discardCopies; exact foldl_keeps Device.hif _ (by intro d x; simp) _ _
@[simp] theorem discardCopies_ncp (q k : Nat) (l : List Copy) (d : Device) : (discardCopies q k l d).ncp = d.ncp := by unfold discardCopies; exact foldl_keeps Device.ncp _ (by intro d x; simp) _ _
@[simp] theorem discardCopies_clk (q k : Nat) (l : List Copy) (d : Device) : (discardCopies q k l d).clk = d.clk := by unfold discardCopies; exact foldl_keeps Device.clk _ (by intro d x; simp) _ _
@[simp] theorem discardCopies_otp (q k : Nat) (l : List Copy) (d : Device) : (discardCopies q k l d).otp = d.otp := by unfold discardCopies; exact foldl_keeps Device.otp _ (by intro d x; simp) _ _
@[simp] theorem discardCopies_keyTable (q k : Nat) (l : List Copy) (d : Device) : (discardCopies q k l d).keyTable = d.keyTable := by unfold discardCopies; exact foldl_keeps Device.keyTable _ (by intro d x; simp) _ _
@[simp] theorem discardCopies_certs (q k : Nat) (l : List Copy) (d : Device) : (discardCopies q k l d).certs = d.certs := by unfold discardCopies; exact foldl_keeps Device.certs _ (by intro d x; simp) _ _
@[simp] theorem discardCopies_freeCtr (q k : Nat) (l : List Copy) (d : Device) : (discardCopies q k l d).freeCtr = d.freeCtr := by unfold discardCopies; exact foldl_keeps Device.freeCtr _ (by intro d x; simp) _ _

/-! `reviewSpill` writes buf, sq, flt, out -/

@[simp] theorem reviewSpill_now (d : Device) : (reviewSpill d).now = d.now := by unfold reviewSpill; dsimp only; split; simp; split <;> rfl
@[simp] theorem reviewSpill_cfg (d : Device) : (reviewSpill d).cfg = d.cfg := by unfold reviewSpill; dsimp only; split; simp; split <;> rfl
@[simp] theorem reviewSpill_oldCfgs (d : Device) : (reviewSpill d).oldCfgs = d.oldCfgs := by unfold reviewSpill; dsimp only; split; simp; split <;> rfl
@[simp] theorem reviewSpill_switching (d : Device) : (reviewSpill d).switching = d.switching := by unfold reviewSpill; dsimp only; split; simp; split <;> rfl
@[simp] theorem reviewSpill_glb (d : Device) : (reviewSpill d).glb = d.glb := by unfold reviewSpill; dsimp only; split; simp; split <;> rfl
@[simp] theorem reviewSpill_ctr (d : Device) : (reviewSpill d).ctr = d.ctr := by unfold reviewSpill; dsimp only; split; simp; split <;> rfl
@[simp] theorem reviewSpill_ports (d : Device) : (reviewSpill d).ports = d.ports := by unfold reviewSpill; dsimp only; split; simp; split <;> rfl
@[simp] theorem reviewSpill_fwd (d : Device) : (reviewSpill d).fwd = d.fwd := by unfold reviewSpill; dsimp only; split; simp; split <;> rfl
@[simp] theorem reviewSpill_tim (d : Device) : (reviewSpill d).tim = d.tim := by unfold reviewSpill; dsimp only; split; simp; split <;> rfl
@[simp] theorem reviewSpill_sch (d : Device) : (reviewSpill d).sch = d.sch := by unfold reviewSpill; dsimp only; split; simp; split <;> rfl
@[simp] theorem reviewSpill_asd (d : Device) : (reviewSpill d).asd = d.asd := by unfold reviewSpill; dsimp only; split; simp; split <;> rfl
@[simp] theorem reviewSpill_fwl (d : Device) : (reviewSpill d).fwl = d.fwl := by unfold reviewSpill; dsimp only; split; simp; split <;> rfl
@[simp] theorem reviewSpill_msc (d : Device) : (reviewSpill d).msc = d.msc := by unfold reviewSpill; dsimp only; split; simp; split <;> rfl
@[simp] theorem reviewSpill_keeper (d : Device) : (reviewSpill d).keeper = d.keeper := by unfold reviewSpill; dsimp only; split; simp; split <;> rfl
@[simp] theorem reviewSpill_pair (d : Device) : (reviewSpill d).pair = d.pair := by unfold reviewSpill; dsimp only; split; simp; split <;> rfl
@[simp] theorem reviewSpill_wy (d : Device) : (reviewSpill d).wy = d.wy := by unfold reviewSpill; dsimp only; split; simp; split <;> rfl
@[simp] theorem reviewSpill_top (d : Device) : (reviewSpill d).top = d.top := by unfold reviewSpill; dsimp only; split; simp; split <;> rfl
@[simp] theorem reviewSpill_can (d : Device) : (reviewSpill d).can = d.can := by unfold reviewSpill; dsimp only; split; simp; split <;> rfl
@[simp] theorem reviewSpill_mvb (d : Device) : (reviewSpill d).mvb = d.mvb := by unfold reviewSpill; dsimp only; split; simp; split <;> rfl
@[simp] theorem reviewSpill_gw (d : Device) : (reviewSpill d).gw = d.gw := by unfold reviewSpill; dsimp only; split; simp; split <;> rfl
@[simp] theorem reviewSpill_ssn (d : Device) : (reviewSpill d).ssn = d.ssn := by unfold reviewSpill; dsimp only; split; simp; split <;> rfl
@[simp] theorem reviewSpill_boot (d : Device) : (reviewSpill d).boot = d.boot := by unfold reviewSpill; dsimp only; split; simp; split <;> rfl
@[simp] theorem reviewSpill_flash (d : Device) : (reviewSpill d).flash = d.flash := by unfold reviewSpill; dsimp only; split; simp; split <;> rfl
@[simp] theorem reviewSpill_dseq (d : Device) : (reviewSpill d).dseq = d.dseq := by unfold reviewSpill; dsimp only; split; simp; split <;> rfl
@[simp] theorem reviewSpill_ccr (d : Device) : (reviewSpill d).ccr = d.ccr := by unfold reviewSpill; dsimp only; split; simp; split <;> rfl
@[simp] theorem reviewSpill_sec (d : Device) : (reviewSpill d).sec = d.sec := by unfold reviewSpill; dsimp only; split; simp; split <;> rfl
@[simp] theorem reviewSpill_hif (d : Device) : (reviewSpill d).hif = d.hif := by unfold reviewSpill; dsimp only; split; simp; split <;> rfl
@[simp] theorem reviewSpill_ncp (d : Device) : (reviewSpill d).ncp = d.ncp := by unfold reviewSpill; dsimp only; split; simp; split <;> rfl
@[simp] theorem reviewSpill_clk (d : Device) : (reviewSpill d).clk = d.clk := by unfold reviewSpill; dsimp only; split; simp; split <;> rfl
@[simp] theorem reviewSpill_otp (d : Device) : (reviewSpill d).otp = d.otp := by unfold reviewSpill; dsimp only; split; simp; split <;> rfl
@[simp] theorem reviewSpill_keyTable (d : Device) : (reviewSpill d).keyTable = d.keyTable := by unfold reviewSpill; dsimp only; split; simp; split <;> rfl
@[simp] theorem reviewSpill_certs (d : Device) : (reviewSpill d).certs = d.certs := by unfold reviewSpill; dsimp only; split; simp; split <;> rfl
@[simp] theorem reviewSpill_freeCtr (d : Device) : (reviewSpill d).freeCtr = d.freeCtr := by unfold reviewSpill; dsimp only; split; simp; split <;> rfl

/-! `bringCredit` writes sch -/

@[simp] theorem bringCredit_now (p tc : Nat) (d : Device) : (bringCredit p tc d).now = d.now := by unfold bringCredit; rfl
@[simp] theorem bringCredit_cfg (p tc : Nat) (d : Device) : (bringCredit p tc d).cfg = d.cfg := by unfold bringCredit; rfl
@[simp] theorem bringCredit_oldCfgs (p tc : Nat) (d : Device) : (bringCredit p tc d).oldCfgs = d.oldCfgs := by unfold bringCredit; rfl
@[simp] theorem bringCredit_switching (p tc : Nat) (d : Device) : (bringCredit p tc d).switching = d.switching := by unfold bringCredit; rfl
@[simp] theorem bringCredit_glb (p tc : Nat) (d : Device) : (bringCredit p tc d).glb = d.glb := by unfold bringCredit; rfl
@[simp] theorem bringCredit_flt (p tc : Nat) (d : Device) : (bringCredit p tc d).flt = d.flt := by unfold bringCredit; rfl
@[simp] theorem bringCredit_sq (p tc : Nat) (d : Device) : (bringCredit p tc d).sq = d.sq := by unfold bringCredit; rfl
@[simp] theorem bringCredit_ctr (p tc : Nat) (d : Device) : (bringCredit p tc d).ctr = d.ctr := by unfold bringCredit; rfl
@[simp] theorem bringCredit_ports (p tc : Nat) (d : Device) : (bringCredit p tc d).ports = d.ports := by unfold bringCredit; rfl
@[simp] theorem bringCredit_buf (p tc : Nat) (d : Device) : (bringCredit p tc d).buf = d.buf := by unfold bringCredit; rfl
@[simp] theorem bringCredit_fwd (p tc : Nat) (d : Device) : (bringCredit p tc d).fwd = d.fwd := by unfold bringCredit; rfl
@[simp] theorem bringCredit_tim (p tc : Nat) (d : Device) : (bringCredit p tc d).tim = d.tim := by unfold bringCredit; rfl
@[simp] theorem bringCredit_asd (p tc : Nat) (d : Device) : (bringCredit p tc d).asd = d.asd := by unfold bringCredit; rfl
@[simp] theorem bringCredit_fwl (p tc : Nat) (d : Device) : (bringCredit p tc d).fwl = d.fwl := by unfold bringCredit; rfl
@[simp] theorem bringCredit_msc (p tc : Nat) (d : Device) : (bringCredit p tc d).msc = d.msc := by unfold bringCredit; rfl
@[simp] theorem bringCredit_keeper (p tc : Nat) (d : Device) : (bringCredit p tc d).keeper = d.keeper := by unfold bringCredit; rfl
@[simp] theorem bringCredit_pair (p tc : Nat) (d : Device) : (bringCredit p tc d).pair = d.pair := by unfold bringCredit; rfl
@[simp] theorem bringCredit_wy (p tc : Nat) (d : Device) : (bringCredit p tc d).wy = d.wy := by unfold bringCredit; rfl
@[simp] theorem bringCredit_top (p tc : Nat) (d : Device) : (bringCredit p tc d).top = d.top := by unfold bringCredit; rfl
@[simp] theorem bringCredit_can (p tc : Nat) (d : Device) : (bringCredit p tc d).can = d.can := by unfold bringCredit; rfl
@[simp] theorem bringCredit_mvb (p tc : Nat) (d : Device) : (bringCredit p tc d).mvb = d.mvb := by unfold bringCredit; rfl
@[simp] theorem bringCredit_gw (p tc : Nat) (d : Device) : (bringCredit p tc d).gw = d.gw := by unfold bringCredit; rfl
@[simp] theorem bringCredit_ssn (p tc : Nat) (d : Device) : (bringCredit p tc d).ssn = d.ssn := by unfold bringCredit; rfl
@[simp] theorem bringCredit_boot (p tc : Nat) (d : Device) : (bringCredit p tc d).boot = d.boot := by unfold bringCredit; rfl
@[simp] theorem bringCredit_flash (p tc : Nat) (d : Device) : (bringCredit p tc d).flash = d.flash := by unfold bringCredit; rfl
@[simp] theorem bringCredit_dseq (p tc : Nat) (d : Device) : (bringCredit p tc d).dseq = d.dseq := by unfold bringCredit; rfl
@[simp] theorem bringCredit_ccr (p tc : Nat) (d : Device) : (bringCredit p tc d).ccr = d.ccr := by unfold bringCredit; rfl
@[simp] theorem bringCredit_sec (p tc : Nat) (d : Device) : (bringCredit p tc d).sec = d.sec := by unfold bringCredit; rfl
@[simp] theorem bringCredit_hif (p tc : Nat) (d : Device) : (bringCredit p tc d).hif = d.hif := by unfold bringCredit; rfl
@[simp] theorem bringCredit_ncp (p tc : Nat) (d : Device) : (bringCredit p tc d).ncp = d.ncp := by unfold bringCredit; rfl
@[simp] theorem bringCredit_clk (p tc : Nat) (d : Device) : (bringCredit p tc d).clk = d.clk := by unfold bringCredit; rfl
@[simp] theorem bringCredit_otp (p tc : Nat) (d : Device) : (bringCredit p tc d).otp = d.otp := by unfold bringCredit; rfl
@[simp] theorem bringCredit_keyTable (p tc : Nat) (d : Device) : (bringCredit p tc d).keyTable = d.keyTable := by unfold bringCredit; rfl
@[simp] theorem bringCredit_certs (p tc : Nat) (d : Device) : (bringCredit p tc d).certs = d.certs := by unfold bringCredit; rfl
@[simp] theorem bringCredit_freeCtr (p tc : Nat) (d : Device) : (bringCredit p tc d).freeCtr = d.freeCtr := by unfold bringCredit; rfl
@[simp] theorem bringCredit_out (p tc : Nat) (d : Device) : (bringCredit p tc d).out = d.out := by unfold bringCredit; rfl

/-! `bringQueue` writes sch -/

@[simp] theorem bringQueue_now (q : Nat) (d : Device) : (bringQueue q d).now = d.now := by unfold bringQueue; split <;> simp
@[simp] theorem bringQueue_cfg (q : Nat) (d : Device) : (bringQueue q d).cfg = d.cfg := by unfold bringQueue; split <;> simp
@[simp] theorem bringQueue_oldCfgs (q : Nat) (d : Device) : (bringQueue q d).oldCfgs = d.oldCfgs := by unfold bringQueue; split <;> simp
@[simp] theorem bringQueue_switching (q : Nat) (d : Device) : (bringQueue q d).switching = d.switching := by unfold bringQueue; split <;> simp
@[simp] theorem bringQueue_glb (q : Nat) (d : Device) : (bringQueue q d).glb = d.glb := by unfold bringQueue; split <;> simp
@[simp] theorem bringQueue_flt (q : Nat) (d : Device) : (bringQueue q d).flt = d.flt := by unfold bringQueue; split <;> simp
@[simp] theorem bringQueue_sq (q : Nat) (d : Device) : (bringQueue q d).sq = d.sq := by unfold bringQueue; split <;> simp
@[simp] theorem bringQueue_ctr (q : Nat) (d : Device) : (bringQueue q d).ctr = d.ctr := by unfold bringQueue; split <;> simp
@[simp] theorem bringQueue_ports (q : Nat) (d : Device) : (bringQueue q d).ports = d.ports := by unfold bringQueue; split <;> simp
@[simp] theorem bringQueue_buf (q : Nat) (d : Device) : (bringQueue q d).buf = d.buf := by unfold bringQueue; split <;> simp
@[simp] theorem bringQueue_fwd (q : Nat) (d : Device) : (bringQueue q d).fwd = d.fwd := by unfold bringQueue; split <;> simp
@[simp] theorem bringQueue_tim (q : Nat) (d : Device) : (bringQueue q d).tim = d.tim := by unfold bringQueue; split <;> simp
@[simp] theorem bringQueue_asd (q : Nat) (d : Device) : (bringQueue q d).asd = d.asd := by unfold bringQueue; split <;> simp
@[simp] theorem bringQueue_fwl (q : Nat) (d : Device) : (bringQueue q d).fwl = d.fwl := by unfold bringQueue; split <;> simp
@[simp] theorem bringQueue_msc (q : Nat) (d : Device) : (bringQueue q d).msc = d.msc := by unfold bringQueue; split <;> simp
@[simp] theorem bringQueue_keeper (q : Nat) (d : Device) : (bringQueue q d).keeper = d.keeper := by unfold bringQueue; split <;> simp
@[simp] theorem bringQueue_pair (q : Nat) (d : Device) : (bringQueue q d).pair = d.pair := by unfold bringQueue; split <;> simp
@[simp] theorem bringQueue_wy (q : Nat) (d : Device) : (bringQueue q d).wy = d.wy := by unfold bringQueue; split <;> simp
@[simp] theorem bringQueue_top (q : Nat) (d : Device) : (bringQueue q d).top = d.top := by unfold bringQueue; split <;> simp
@[simp] theorem bringQueue_can (q : Nat) (d : Device) : (bringQueue q d).can = d.can := by unfold bringQueue; split <;> simp
@[simp] theorem bringQueue_mvb (q : Nat) (d : Device) : (bringQueue q d).mvb = d.mvb := by unfold bringQueue; split <;> simp
@[simp] theorem bringQueue_gw (q : Nat) (d : Device) : (bringQueue q d).gw = d.gw := by unfold bringQueue; split <;> simp
@[simp] theorem bringQueue_ssn (q : Nat) (d : Device) : (bringQueue q d).ssn = d.ssn := by unfold bringQueue; split <;> simp
@[simp] theorem bringQueue_boot (q : Nat) (d : Device) : (bringQueue q d).boot = d.boot := by unfold bringQueue; split <;> simp
@[simp] theorem bringQueue_flash (q : Nat) (d : Device) : (bringQueue q d).flash = d.flash := by unfold bringQueue; split <;> simp
@[simp] theorem bringQueue_dseq (q : Nat) (d : Device) : (bringQueue q d).dseq = d.dseq := by unfold bringQueue; split <;> simp
@[simp] theorem bringQueue_ccr (q : Nat) (d : Device) : (bringQueue q d).ccr = d.ccr := by unfold bringQueue; split <;> simp
@[simp] theorem bringQueue_sec (q : Nat) (d : Device) : (bringQueue q d).sec = d.sec := by unfold bringQueue; split <;> simp
@[simp] theorem bringQueue_hif (q : Nat) (d : Device) : (bringQueue q d).hif = d.hif := by unfold bringQueue; split <;> simp
@[simp] theorem bringQueue_ncp (q : Nat) (d : Device) : (bringQueue q d).ncp = d.ncp := by unfold bringQueue; split <;> simp
@[simp] theorem bringQueue_clk (q : Nat) (d : Device) : (bringQueue q d).clk = d.clk := by unfold bringQueue; split <;> simp
@[simp] theorem bringQueue_otp (q : Nat) (d : Device) : (bringQueue q d).otp = d.otp := by unfold bringQueue; split <;> simp
@[simp] theorem bringQueue_keyTable (q : Nat) (d : Device) : (bringQueue q d).keyTable = d.keyTable := by unfold bringQueue; split <;> simp
@[simp] theorem bringQueue_certs (q : Nat) (d : Device) : (bringQueue q d).certs = d.certs := by unfold bringQueue; split <;> simp
@[simp] theorem bringQueue_freeCtr (q : Nat) (d : Device) : (bringQueue q d).freeCtr = d.freeCtr := by unfold bringQueue; split <;> simp
@[simp] theorem bringQueue_out (q : Nat) (d : Device) : (bringQueue q d).out = d.out := by unfold bringQueue; split <;> simp

/-! `trimSpill` writes buf -/

@[simp] theorem trimSpill_now (q : Nat) (x : Queue) (d : Device) : (trimSpill q x d).now = d.now := by unfold trimSpill; simp
@[simp] theorem trimSpill_cfg (q : Nat) (x : Queue) (d : Device) : (trimSpill q x d).cfg = d.cfg := by unfold trimSpill; simp
@[simp] theorem trimSpill_oldCfgs (q : Nat) (x : Queue) (d : Device) : (trimSpill q x d).oldCfgs = d.oldCfgs := by unfold trimSpill; simp
@[simp] theorem trimSpill_switching (q : Nat) (x : Queue) (d : Device) : (trimSpill q x d).switching = d.switching := by unfold trimSpill; simp
@[simp] theorem trimSpill_glb (q : Nat) (x : Queue) (d : Device) : (trimSpill q x d).glb = d.glb := by unfold trimSpill; simp
@[simp] theorem trimSpill_flt (q : Nat) (x : Queue) (d : Device) : (trimSpill q x d).flt = d.flt := by unfold trimSpill; simp
@[simp] theorem trimSpill_sq (q : Nat) (x : Queue) (d : Device) : (trimSpill q x d).sq = d.sq := by unfold trimSpill; simp
@[simp] theorem trimSpill_ctr (q : Nat) (x : Queue) (d : Device) : (trimSpill q x d).ctr = d.ctr := by unfold trimSpill; simp
@[simp] theorem trimSpill_ports (q : Nat) (x : Queue) (d : Device) : (trimSpill q x d).ports = d.ports := by unfold trimSpill; simp
@[simp] theorem trimSpill_fwd (q : Nat) (x : Queue) (d : Device) : (trimSpill q x d).fwd = d.fwd := by unfold trimSpill; simp
@[simp] theorem trimSpill_tim (q : Nat) (x : Queue) (d : Device) : (trimSpill q x d).tim = d.tim := by unfold trimSpill; simp
@[simp] theorem trimSpill_sch (q : Nat) (x : Queue) (d : Device) : (trimSpill q x d).sch = d.sch := by unfold trimSpill; simp
@[simp] theorem trimSpill_asd (q : Nat) (x : Queue) (d : Device) : (trimSpill q x d).asd = d.asd := by unfold trimSpill; simp
@[simp] theorem trimSpill_fwl (q : Nat) (x : Queue) (d : Device) : (trimSpill q x d).fwl = d.fwl := by unfold trimSpill; simp
@[simp] theorem trimSpill_msc (q : Nat) (x : Queue) (d : Device) : (trimSpill q x d).msc = d.msc := by unfold trimSpill; simp
@[simp] theorem trimSpill_keeper (q : Nat) (x : Queue) (d : Device) : (trimSpill q x d).keeper = d.keeper := by unfold trimSpill; simp
@[simp] theorem trimSpill_pair (q : Nat) (x : Queue) (d : Device) : (trimSpill q x d).pair = d.pair := by unfold trimSpill; simp
@[simp] theorem trimSpill_wy (q : Nat) (x : Queue) (d : Device) : (trimSpill q x d).wy = d.wy := by unfold trimSpill; simp
@[simp] theorem trimSpill_top (q : Nat) (x : Queue) (d : Device) : (trimSpill q x d).top = d.top := by unfold trimSpill; simp
@[simp] theorem trimSpill_can (q : Nat) (x : Queue) (d : Device) : (trimSpill q x d).can = d.can := by unfold trimSpill; simp
@[simp] theorem trimSpill_mvb (q : Nat) (x : Queue) (d : Device) : (trimSpill q x d).mvb = d.mvb := by unfold trimSpill; simp
@[simp] theorem trimSpill_gw (q : Nat) (x : Queue) (d : Device) : (trimSpill q x d).gw = d.gw := by unfold trimSpill; simp
@[simp] theorem trimSpill_ssn (q : Nat) (x : Queue) (d : Device) : (trimSpill q x d).ssn = d.ssn := by unfold trimSpill; simp
@[simp] theorem trimSpill_boot (q : Nat) (x : Queue) (d : Device) : (trimSpill q x d).boot = d.boot := by unfold trimSpill; simp
@[simp] theorem trimSpill_flash (q : Nat) (x : Queue) (d : Device) : (trimSpill q x d).flash = d.flash := by unfold trimSpill; simp
@[simp] theorem trimSpill_dseq (q : Nat) (x : Queue) (d : Device) : (trimSpill q x d).dseq = d.dseq := by unfold trimSpill; simp
@[simp] theorem trimSpill_ccr (q : Nat) (x : Queue) (d : Device) : (trimSpill q x d).ccr = d.ccr := by unfold trimSpill; simp
@[simp] theorem trimSpill_sec (q : Nat) (x : Queue) (d : Device) : (trimSpill q x d).sec = d.sec := by unfold trimSpill; simp
@[simp] theorem trimSpill_hif (q : Nat) (x : Queue) (d : Device) : (trimSpill q x d).hif = d.hif := by unfold trimSpill; simp
@[simp] theorem trimSpill_ncp (q : Nat) (x : Queue) (d : Device) : (trimSpill q x d).ncp = d.ncp := by unfold trimSpill; simp
@[simp] theorem trimSpill_clk (q : Nat) (x : Queue) (d : Device) : (trimSpill q x d).clk = d.clk := by unfold trimSpill; simp
@[simp] theorem trimSpill_otp (q : Nat) (x : Queue) (d : Device) : (trimSpill q x d).otp = d.otp := by unfold trimSpill; simp
@[simp] theorem trimSpill_keyTable (q : Nat) (x : Queue) (d : Device) : (trimSpill q x d).keyTable = d.keyTable := by unfold trimSpill; simp
@[simp] theorem trimSpill_certs (q : Nat) (x : Queue) (d : Device) : (trimSpill q x d).certs = d.certs := by unfold trimSpill; simp
@[simp] theorem trimSpill_freeCtr (q : Nat) (x : Queue) (d : Device) : (trimSpill q x d).freeCtr = d.freeCtr := by unfold trimSpill; simp
@[simp] theorem trimSpill_out (q : Nat) (x : Queue) (d : Device) : (trimSpill q x d).out = d.out := by unfold trimSpill; simp

/-! `takeOut` writes buf, sq, flt, out, sch -/

@[simp] theorem takeOut_now (q : Nat) (g : Copy → Bool) (d : Device) : (takeOut q g d).2.now = d.now := by unfold takeOut; dsimp only; split <;> simp
@[simp] theorem takeOut_cfg (q : Nat) (g : Copy → Bool) (d : Device) : (takeOut q g d).2.cfg = d.cfg := by unfold takeOut; dsimp only; split <;> simp
@[simp] theorem takeOut_oldCfgs (q : Nat) (g : Copy → Bool) (d : Device) : (takeOut q g d).2.oldCfgs = d.oldCfgs := by unfold takeOut; dsimp only; split <;> simp
@[simp] theorem takeOut_switching (q : Nat) (g : Copy → Bool) (d : Device) : (takeOut q g d).2.switching = d.switching := by unfold takeOut; dsimp only; split <;> simp
@[simp] theorem takeOut_glb (q : Nat) (g : Copy → Bool) (d : Device) : (takeOut q g d).2.glb = d.glb := by unfold takeOut; dsimp only; split <;> simp
@[simp] theorem takeOut_ctr (q : Nat) (g : Copy → Bool) (d : Device) : (takeOut q g d).2.ctr = d.ctr := by unfold takeOut; dsimp only; split <;> simp
@[simp] theorem takeOut_ports (q : Nat) (g : Copy → Bool) (d : Device) : (takeOut q g d).2.ports = d.ports := by unfold takeOut; dsimp only; split <;> simp
@[simp] theorem takeOut_fwd (q : Nat) (g : Copy → Bool) (d : Device) : (takeOut q g d).2.fwd = d.fwd := by unfold takeOut; dsimp only; split <;> simp
@[simp] theorem takeOut_tim (q : Nat) (g : Copy → Bool) (d : Device) : (takeOut q g d).2.tim = d.tim := by unfold takeOut; dsimp only; split <;> simp
@[simp] theorem takeOut_asd (q : Nat) (g : Copy → Bool) (d : Device) : (takeOut q g d).2.asd = d.asd := by unfold takeOut; dsimp only; split <;> simp
@[simp] theorem takeOut_fwl (q : Nat) (g : Copy → Bool) (d : Device) : (takeOut q g d).2.fwl = d.fwl := by unfold takeOut; dsimp only; split <;> simp
@[simp] theorem takeOut_msc (q : Nat) (g : Copy → Bool) (d : Device) : (takeOut q g d).2.msc = d.msc := by unfold takeOut; dsimp only; split <;> simp
@[simp] theorem takeOut_keeper (q : Nat) (g : Copy → Bool) (d : Device) : (takeOut q g d).2.keeper = d.keeper := by unfold takeOut; dsimp only; split <;> simp
@[simp] theorem takeOut_pair (q : Nat) (g : Copy → Bool) (d : Device) : (takeOut q g d).2.pair = d.pair := by unfold takeOut; dsimp only; split <;> simp
@[simp] theorem takeOut_wy (q : Nat) (g : Copy → Bool) (d : Device) : (takeOut q g d).2.wy = d.wy := by unfold takeOut; dsimp only; split <;> simp
@[simp] theorem takeOut_top (q : Nat) (g : Copy → Bool) (d : Device) : (takeOut q g d).2.top = d.top := by unfold takeOut; dsimp only; split <;> simp
@[simp] theorem takeOut_can (q : Nat) (g : Copy → Bool) (d : Device) : (takeOut q g d).2.can = d.can := by unfold takeOut; dsimp only; split <;> simp
@[simp] theorem takeOut_mvb (q : Nat) (g : Copy → Bool) (d : Device) : (takeOut q g d).2.mvb = d.mvb := by unfold takeOut; dsimp only; split <;> simp
@[simp] theorem takeOut_gw (q : Nat) (g : Copy → Bool) (d : Device) : (takeOut q g d).2.gw = d.gw := by unfold takeOut; dsimp only; split <;> simp
@[simp] theorem takeOut_ssn (q : Nat) (g : Copy → Bool) (d : Device) : (takeOut q g d).2.ssn = d.ssn := by unfold takeOut; dsimp only; split <;> simp
@[simp] theorem takeOut_boot (q : Nat) (g : Copy → Bool) (d : Device) : (takeOut q g d).2.boot = d.boot := by unfold takeOut; dsimp only; split <;> simp
@[simp] theorem takeOut_flash (q : Nat) (g : Copy → Bool) (d : Device) : (takeOut q g d).2.flash = d.flash := by unfold takeOut; dsimp only; split <;> simp
@[simp] theorem takeOut_dseq (q : Nat) (g : Copy → Bool) (d : Device) : (takeOut q g d).2.dseq = d.dseq := by unfold takeOut; dsimp only; split <;> simp
@[simp] theorem takeOut_ccr (q : Nat) (g : Copy → Bool) (d : Device) : (takeOut q g d).2.ccr = d.ccr := by unfold takeOut; dsimp only; split <;> simp
@[simp] theorem takeOut_sec (q : Nat) (g : Copy → Bool) (d : Device) : (takeOut q g d).2.sec = d.sec := by unfold takeOut; dsimp only; split <;> simp
@[simp] theorem takeOut_hif (q : Nat) (g : Copy → Bool) (d : Device) : (takeOut q g d).2.hif = d.hif := by unfold takeOut; dsimp only; split <;> simp
@[simp] theorem takeOut_ncp (q : Nat) (g : Copy → Bool) (d : Device) : (takeOut q g d).2.ncp = d.ncp := by unfold takeOut; dsimp only; split <;> simp
@[simp] theorem takeOut_clk (q : Nat) (g : Copy → Bool) (d : Device) : (takeOut q g d).2.clk = d.clk := by unfold takeOut; dsimp only; split <;> simp
@[simp] theorem takeOut_otp (q : Nat) (g : Copy → Bool) (d : Device) : (takeOut q g d).2.otp = d.otp := by unfold takeOut; dsimp only; split <;> simp
@[simp] theorem takeOut_keyTable (q : Nat) (g : Copy → Bool) (d : Device) : (takeOut q g d).2.keyTable = d.keyTable := by unfold takeOut; dsimp only; split <;> simp
@[simp] theorem takeOut_certs (q : Nat) (g : Copy → Bool) (d : Device) : (takeOut q g d).2.certs = d.certs := by unfold takeOut; dsimp only; split <;> simp
@[simp] theorem takeOut_freeCtr (q : Nat) (g : Copy → Bool) (d : Device) : (takeOut q g d).2.freeCtr = d.freeCtr := by unfold takeOut; dsimp only; split <;> simp

/-! `flushQueue` writes buf, sq, ctr, out, flt, ports, asd, sch -/

@[simp] theorem flushQueue_now (q k : Nat) (d : Device) : (flushQueue q k d).now = d.now := by simp [flushQueue]
@[simp] theorem flushQueue_cfg (q k : Nat) (d : Device) : (flushQueue q k d).cfg = d.cfg := by simp [flushQueue]
@[simp] theorem flushQueue_oldCfgs (q k : Nat) (d : Device) : (flushQueue q k d).oldCfgs = d.oldCfgs := by simp [flushQueue]
@[simp] theorem flushQueue_switching (q k : Nat) (d : Device) : (flushQueue q k d).switching = d.switching := by simp [flushQueue]
@[simp] theorem flushQueue_glb (q k : Nat) (d : Device) : (flushQueue q k d).glb = d.glb := by simp [flushQueue]
@[simp] theorem flushQueue_fwd (q k : Nat) (d : Device) : (flushQueue q k d).fwd = d.fwd := by simp [flushQueue]
@[simp] theorem flushQueue_tim (q k : Nat) (d : Device) : (flushQueue q k d).tim = d.tim := by simp [flushQueue]
@[simp] theorem flushQueue_fwl (q k : Nat) (d : Device) : (flushQueue q k d).fwl = d.fwl := by simp [flushQueue]
@[simp] theorem flushQueue_msc (q k : Nat) (d : Device) : (flushQueue q k d).msc = d.msc := by simp [flushQueue]
@[simp] theorem flushQueue_keeper (q k : Nat) (d : Device) : (flushQueue q k d).keeper = d.keeper := by simp [flushQueue]
@[simp] theorem flushQueue_pair (q k : Nat) (d : Device) : (flushQueue q k d).pair = d.pair := by simp [flushQueue]
@[simp] theorem flushQueue_wy (q k : Nat) (d : Device) : (flushQueue q k d).wy = d.wy := by simp [flushQueue]
@[simp] theorem flushQueue_top (q k : Nat) (d : Device) : (flushQueue q k d).top = d.top := by simp [flushQueue]
@[simp] theorem flushQueue_can (q k : Nat) (d : Device) : (flushQueue q k d).can = d.can := by simp [flushQueue]
@[simp] theorem flushQueue_mvb (q k : Nat) (d : Device) : (flushQueue q k d).mvb = d.mvb := by simp [flushQueue]
@[simp] theorem flushQueue_gw (q k : Nat) (d : Device) : (flushQueue q k d).gw = d.gw := by simp [flushQueue]
@[simp] theorem flushQueue_ssn (q k : Nat) (d : Device) : (flushQueue q k d).ssn = d.ssn := by simp [flushQueue]
@[simp] theorem flushQueue_boot (q k : Nat) (d : Device) : (flushQueue q k d).boot = d.boot := by simp [flushQueue]
@[simp] theorem flushQueue_flash (q k : Nat) (d : Device) : (flushQueue q k d).flash = d.flash := by simp [flushQueue]
@[simp] theorem flushQueue_dseq (q k : Nat) (d : Device) : (flushQueue q k d).dseq = d.dseq := by simp [flushQueue]
@[simp] theorem flushQueue_ccr (q k : Nat) (d : Device) : (flushQueue q k d).ccr = d.ccr := by simp [flushQueue]
@[simp] theorem flushQueue_sec (q k : Nat) (d : Device) : (flushQueue q k d).sec = d.sec := by simp [flushQueue]
@[simp] theorem flushQueue_hif (q k : Nat) (d : Device) : (flushQueue q k d).hif = d.hif := by simp [flushQueue]
@[simp] theorem flushQueue_ncp (q k : Nat) (d : Device) : (flushQueue q k d).ncp = d.ncp := by simp [flushQueue]
@[simp] theorem flushQueue_clk (q k : Nat) (d : Device) : (flushQueue q k d).clk = d.clk := by simp [flushQueue]
@[simp] theorem flushQueue_otp (q k : Nat) (d : Device) : (flushQueue q k d).otp = d.otp := by simp [flushQueue]
@[simp] theorem flushQueue_keyTable (q k : Nat) (d : Device) : (flushQueue q k d).keyTable = d.keyTable := by simp [flushQueue]
@[simp] theorem flushQueue_certs (q k : Nat) (d : Device) : (flushQueue q k d).certs = d.certs := by simp [flushQueue]
@[simp] theorem flushQueue_freeCtr (q k : Nat) (d : Device) : (flushQueue q k d).freeCtr = d.freeCtr := by simp [flushQueue]

@[simp] theorem reviewAllot_buf_resvCells (i : Nat) (d : Device) : (reviewAllot i d).buf.resvCells = d.buf.resvCells := by
  unfold reviewAllot; dsimp only; split; simp; split <;> simp
@[simp] theorem reviewAllot_buf_descLow (i : Nat) (d : Device) : (reviewAllot i d).buf.descLow = d.buf.descLow := by
  unfold reviewAllot; dsimp only; split; simp; split <;> simp
@[simp] theorem reviewAllot_buf_ageClock (i : Nat) (d : Device) : (reviewAllot i d).buf.ageClock = d.buf.ageClock := by
  unfold reviewAllot; dsimp only; split; simp; split <;> simp
@[simp] theorem reviewAllot_buf_spillReady (i : Nat) (d : Device) : (reviewAllot i d).buf.spillReady = d.buf.spillReady := by
  unfold reviewAllot; dsimp only; split; simp; split <;> simp
@[simp] theorem reviewAllot_buf_spillFull (i : Nat) (d : Device) : (reviewAllot i d).buf.spillFull = d.buf.spillFull := by
  unfold reviewAllot; dsimp only; split; simp; split <;> simp
@[simp] theorem reviewAllot_buf_spillCopies (i : Nat) (d : Device) : (reviewAllot i d).buf.spillCopies = d.buf.spillCopies := by
  unfold reviewAllot; dsimp only; split; simp; split <;> simp
@[simp] theorem reviewAllot_buf_spillPages (i : Nat) (d : Device) : (reviewAllot i d).buf.spillPages = d.buf.spillPages := by
  unfold reviewAllot; dsimp only; split; simp; split <;> simp
@[simp] theorem reviewAllot_buf_cellsWithdrawn (i : Nat) (d : Device) : (reviewAllot i d).buf.cellsWithdrawn = d.buf.cellsWithdrawn := by
  unfold reviewAllot; dsimp only; split; simp; split <;> simp
@[simp] theorem reviewAllot_buf_frames (i : Nat) (d : Device) : (reviewAllot i d).buf.frames = d.buf.frames := by
  unfold reviewAllot; dsimp only; split; simp; split <;> simp
@[simp] theorem reviewAllot_buf_queues (i : Nat) (d : Device) : (reviewAllot i d).buf.queues = d.buf.queues := by
  unfold reviewAllot; dsimp only; split; simp; split <;> simp
@[simp] theorem reviewAllot_buf_headroom (i : Nat) (d : Device) : (reviewAllot i d).buf.headroom = d.buf.headroom := by
  unfold reviewAllot; dsimp only; split; simp; split <;> simp
@[simp] theorem reviewAll_buf_resvCells (d : Device) : (reviewAll d).buf.resvCells = d.buf.resvCells := by
  unfold reviewAll; dsimp only; (repeat' split) <;> (refine (foldl_keeps (fun d : Device => d.buf.resvCells) _ (by intro d i; simp) _ _).trans ?_; first | rfl | simp)
@[simp] theorem reviewAll_buf_ageClock (d : Device) : (reviewAll d).buf.ageClock = d.buf.ageClock := by
  unfold reviewAll; dsimp only; (repeat' split) <;> (refine (foldl_keeps (fun d : Device => d.buf.ageClock) _ (by intro d i; simp) _ _).trans ?_; first | rfl | simp)
@[simp] theorem reviewAll_buf_spillReady (d : Device) : (reviewAll d).buf.spillReady = d.buf.spillReady := by
  unfold reviewAll; dsimp only; (repeat' split) <;> (refine (foldl_keeps (fun d : Device => d.buf.spillReady) _ (by intro d i; simp) _ _).trans ?_; first | rfl | simp)
@[simp] theorem reviewAll_buf_spillFull (d : Device) : (reviewAll d).buf.spillFull = d.buf.spillFull := by
  unfold reviewAll; dsimp only; (repeat' split) <;> (refine (foldl_keeps (fun d : Device => d.buf.spillFull) _ (by intro d i; simp) _ _).trans ?_; first | rfl | simp)
@[simp] theorem reviewAll_buf_spillCopies (d : Device) : (reviewAll d).buf.spillCopies = d.buf.spillCopies := by
  unfold reviewAll; dsimp only; (repeat' split) <;> (refine (foldl_keeps (fun d : Device => d.buf.spillCopies) _ (by intro d i; simp) _ _).trans ?_; first | rfl | simp)
@[simp] theorem reviewAll_buf_spillPages (d : Device) : (reviewAll d).buf.spillPages = d.buf.spillPages := by
  unfold reviewAll; dsimp only; (repeat' split) <;> (refine (foldl_keeps (fun d : Device => d.buf.spillPages) _ (by intro d i; simp) _ _).trans ?_; first | rfl | simp)
@[simp] theorem reviewAll_buf_cellsWithdrawn (d : Device) : (reviewAll d).buf.cellsWithdrawn = d.buf.cellsWithdrawn := by
  unfold reviewAll; dsimp only; (repeat' split) <;> (refine (foldl_keeps (fun d : Device => d.buf.cellsWithdrawn) _ (by intro d i; simp) _ _).trans ?_; first | rfl | simp)
@[simp] theorem reviewAll_buf_frames (d : Device) : (reviewAll d).buf.frames = d.buf.frames := by
  unfold reviewAll; dsimp only; (repeat' split) <;> (refine (foldl_keeps (fun d : Device => d.buf.frames) _ (by intro d i; simp) _ _).trans ?_; first | rfl | simp)
@[simp] theorem reviewAll_buf_queues (d : Device) : (reviewAll d).buf.queues = d.buf.queues := by
  unfold reviewAll; dsimp only; (repeat' split) <;> (refine (foldl_keeps (fun d : Device => d.buf.queues) _ (by intro d i; simp) _ _).trans ?_; first | rfl | simp)
@[simp] theorem reviewAll_buf_headroom (d : Device) : (reviewAll d).buf.headroom = d.buf.headroom := by
  unfold reviewAll; dsimp only; (repeat' split) <;> (refine (foldl_keeps (fun d : Device => d.buf.headroom) _ (by intro d i; simp) _ _).trans ?_; first | rfl | simp)
@[simp] theorem addCharge_buf_descLow (ch : Charge) (n : Nat) (d : Device) : (addCharge ch n d).buf.descLow = d.buf.descLow := by
  unfold addCharge; split <;> rfl
@[simp] theorem subCharge_buf_descLow (ch : Charge) (n : Nat) (d : Device) : (subCharge ch n d).buf.descLow = d.buf.descLow := by
  unfold subCharge; split <;> rfl
@[simp] theorem addCharge_buf_ageClock (ch : Charge) (n : Nat) (d : Device) : (addCharge ch n d).buf.ageClock = d.buf.ageClock := by
  unfold addCharge; split <;> rfl
@[simp] theorem subCharge_buf_ageClock (ch : Charge) (n : Nat) (d : Device) : (subCharge ch n d).buf.ageClock = d.buf.ageClock := by
  unfold subCharge; split <;> rfl
@[simp] theorem addCharge_buf_spillReady (ch : Charge) (n : Nat) (d : Device) : (addCharge ch n d).buf.spillReady = d.buf.spillReady := by
  unfold addCharge; split <;> rfl
@[simp] theorem subCharge_buf_spillReady (ch : Charge) (n : Nat) (d : Device) : (subCharge ch n d).buf.spillReady = d.buf.spillReady := by
  unfold subCharge; split <;> rfl
@[simp] theorem addCharge_buf_spillFull (ch : Charge) (n : Nat) (d : Device) : (addCharge ch n d).buf.spillFull = d.buf.spillFull := by
  unfold addCharge; split <;> rfl
@[simp] theorem subCharge_buf_spillFull (ch : Charge) (n : Nat) (d : Device) : (subCharge ch n d).buf.spillFull = d.buf.spillFull := by
  unfold subCharge; split <;> rfl
@[simp] theorem addCharge_buf_spillCopies (ch : Charge) (n : Nat) (d : Device) : (addCharge ch n d).buf.spillCopies = d.buf.spillCopies := by
  unfold addCharge; split <;> rfl
@[simp] theorem subCharge_buf_spillCopies (ch : Charge) (n : Nat) (d : Device) : (subCharge ch n d).buf.spillCopies = d.buf.spillCopies := by
  unfold subCharge; split <;> rfl
@[simp] theorem addCharge_buf_spillPages (ch : Charge) (n : Nat) (d : Device) : (addCharge ch n d).buf.spillPages = d.buf.spillPages := by
  unfold addCharge; split <;> rfl
@[simp] theorem subCharge_buf_spillPages (ch : Charge) (n : Nat) (d : Device) : (subCharge ch n d).buf.spillPages = d.buf.spillPages := by
  unfold subCharge; split <;> rfl
@[simp] theorem addCharge_buf_cellsWithdrawn (ch : Charge) (n : Nat) (d : Device) : (addCharge ch n d).buf.cellsWithdrawn = d.buf.cellsWithdrawn := by
  unfold addCharge; split <;> rfl
@[simp] theorem subCharge_buf_cellsWithdrawn (ch : Charge) (n : Nat) (d : Device) : (subCharge ch n d).buf.cellsWithdrawn = d.buf.cellsWithdrawn := by
  unfold subCharge; split <;> rfl
@[simp] theorem addCharge_buf_frames (ch : Charge) (n : Nat) (d : Device) : (addCharge ch n d).buf.frames = d.buf.frames := by
  unfold addCharge; split <;> rfl
@[simp] theorem subCharge_buf_frames (ch : Charge) (n : Nat) (d : Device) : (subCharge ch n d).buf.frames = d.buf.frames := by
  unfold subCharge; split <;> rfl
@[simp] theorem addCharge_buf_queues (ch : Charge) (n : Nat) (d : Device) : (addCharge ch n d).buf.queues = d.buf.queues := by
  unfold addCharge; split <;> rfl
@[simp] theorem subCharge_buf_queues (ch : Charge) (n : Nat) (d : Device) : (subCharge ch n d).buf.queues = d.buf.queues := by
  unfold subCharge; split <;> rfl

@[simp] theorem frameOf_setFrame (id : Nat) (f : Frame) (d : Device) : frameOf (setFrame id f d) id = some f := by
  simp [frameOf, setFrame]

theorem frameOf_setFrame_ne {id k : Nat} (f : Frame) (d : Device) (h : k ≠ id) : frameOf (setFrame id f d) k = frameOf d k := by
  simp [frameOf, setFrame, lookup?_insertAt_ne _ _ h]

@[simp] theorem queueOf_setQueue (q : Nat) (x : Queue) (d : Device) : queueOf (setQueue q x d) q = x := by
  simp [queueOf, setQueue]

theorem queueOf_setQueue_ne {q k : Nat} (x : Queue) (d : Device) (h : k ≠ q) : queueOf (setQueue q x d) k = queueOf d k := by
  simp [queueOf, setQueue, lookupD_insertAt_ne _ _ _ h]

@[simp] theorem portSt_modPort (p : Nat) (f : PortState → PortState) (d : Device) : portSt (modPort p f d) p = f (portSt d p) := by
  simp [portSt, modPort]

theorem portSt_modPort_ne {p k : Nat} (f : PortState → PortState) (d : Device) (h : k ≠ p) : portSt (modPort p f d) k = portSt d k := by
  simp [portSt, modPort, lookupD_insertAt_ne _ _ _ h]

@[simp] theorem counter_setCounter (a : Nat) (v : BitVec 64) (d : Device) : counter a (setCounter a v d) = v := by
  simp [counter, setCounter]

theorem counter_setCounter_ne {a b : Nat} (v : BitVec 64) (d : Device) (h : b ≠ a) : counter b (setCounter a v d) = counter b d := by
  simp [counter, setCounter, lookupD_insertAt_ne _ _ _ h]

@[simp] theorem counter_bump (a : Nat) (d : Device) : counter a (bump a d) = counter a d + 1 := by
  simp [bump, bumpBy]

@[simp] theorem sqOf_setSq (r b : Nat) (d : Device) :
    sqOf r (setSq r b d) = { seq := (sqOf r d).seq + 1, bits := (sqOf r d).bits ||| ((1 : BitVec 24) <<< b) } := by
  simp [sqOf, setSq]

theorem sqOf_setSq_ne {r k : Nat} (b : Nat) (d : Device) (h : k ≠ r) : sqOf k (setSq r b d) = sqOf k d := by
  simp [sqOf, setSq, lookupD_insertAt_ne _ _ _ h]

@[simp] theorem raise_sq (r b : Nat) (c : BitVec 16) (n : Nat) (d : Device) : (raise r b c n d).sq = (setSq r b d).sq := by
  simp [raise]

@[simp] theorem raiseBit_sq (r b : Nat) (d : Device) : (raiseBit r b d).sq = (setSq r b d).sq := by
  simp [raiseBit]

/-- Outputs are only added at the end. -/
theorem fireFor_out (r b : Nat) (d : Device) : ∃ l, (fireFor r b d).out = d.out ++ l := by
  unfold fireFor; dsimp only; split; exact ⟨_, rfl⟩; split; exact ⟨[], by simp⟩; split
  · exact ⟨_, rfl⟩
  · exact ⟨[], by simp⟩

theorem foldl_out {α : Type} (f : Device → α → Device) (h : ∀ d a, ∃ l, (f d a).out = d.out ++ l) (xs : List α) (d : Device) :
    ∃ l, (xs.foldl f d).out = d.out ++ l := by
  induction xs generalizing d with
  | nil => exact ⟨[], by simp⟩
  | cons a xs ih =>
    obtain ⟨l1, h1⟩ := h d a
    obtain ⟨l2, h2⟩ := ih (f d a)
    exact ⟨l1 ++ l2, by simp [h2, h1]⟩

theorem notices_out (c : BitVec 16) (n : Nat) (d : Device) : ∃ l, (notices c n d).out = d.out ++ l := by
  unfold notices
  refine foldl_out _ ?_ _ _
  intro d x
  dsimp only
  (repeat' split) <;> first | exact ⟨_, rfl⟩ | exact ⟨[], by simp⟩

/-- An event stands among the outputs after it was raised. -/
theorem event_mem_raise (r b : Nat) (c : BitVec 16) (n : Nat) (d : Device) : Output.event c n ∈ (raise r b c n d).out := by
  unfold raise event
  obtain ⟨l, h⟩ := notices_out c n (emit (.event c n) (fireFor r b (setSq r b d)))
  rw [h]; simp [emit]

/-- Nothing put out before is taken back by an event. -/
theorem mem_raise_out {o : Output} (r b : Nat) (c : BitVec 16) (n : Nat) (d : Device) (h : o ∈ d.out) : o ∈ (raise r b c n d).out := by
  unfold raise event
  obtain ⟨l, h1⟩ := notices_out c n (emit (.event c n) (fireFor r b (setSq r b d)))
  obtain ⟨l2, h2⟩ := fireFor_out r b (setSq r b d)
  rw [h1]
  simp [emit, h2]
  exact .inl h

end Sys2Proof.Machine
end

