-- ==== Sys2Proof/Laws/Effects.lean ====
section
/-! SUPPORT. What the shared operations do to the field they write: outputs stay and are added at the end, a raised event is put out and sets its
status bit, a counter counts its own address only. -/

namespace Sys2Proof.Machine

theorem emit_out (o : Output) (d : Device) : (emit o d).out = d.out ++ [o] := rfl

theorem emitAll_out (os : List Output) (d : Device) : (emitAll os d).out = d.out ++ os := rfl

/-- Outputs put out earlier stay. -/
theorem mem_emit {x : Output} (o : Output) {d : Device} (h : x ∈ d.out) : x ∈ (emit o d).out := by simp [emit_out, h]

theorem mem_fireFor {x : Output} (reg bit : Nat) {d : Device} (h : x ∈ d.out) : x ∈ (fireFor reg bit d).out := by
  unfold fireFor
  dsimp only
  split
  · exact mem_emit _ h
  · split
    · exact h
    · split
      · exact mem_emit _ h
      · exact h

/-- What every step of a fold keeps about the device holds after the fold. -/
theorem foldl_inv {α β : Type} (P : β → Prop) (f : β → α → β) (hf : ∀ b a, P b → P (f b a)) (l : List α) (b : β) (h : P b) : P (l.foldl f b) := by
  induction l generalizing b with
  | nil => exact h
  | cons a l ih => exact ih _ (hf _ _ h)

theorem mem_notices {x : Output} (code : BitVec 16) (chan : Nat) {d : Device} (h : x ∈ d.out) : x ∈ (notices code chan d).out := by
  unfold notices
  apply foldl_inv (fun d : Device => x ∈ d.out) _ _ _ _ h
  intro b a hb
  dsimp only
  repeat' split
  all_goals first | exact mem_emit _ hb | exact hb

theorem mem_event {x : Output} (code : BitVec 16) (chan : Nat) {d : Device} (h : x ∈ d.out) : x ∈ (event code chan d).out :=
  mem_notices code chan (mem_emit _ h)

/-- An event is put out. -/
theorem event_put (code : BitVec 16) (chan : Nat) (d : Device) : Output.event code chan ∈ (event code chan d).out :=
  mem_notices code chan (by simp [emit_out])

theorem mem_raise {x : Output} (reg bit : Nat) (code : BitVec 16) (chan : Nat) {d : Device} (h : x ∈ d.out) : x ∈ (raise reg bit code chan d).out := by
  unfold raise
  exact mem_event _ _ (mem_fireFor _ _ h)

theorem raise_put (reg bit : Nat) (code : BitVec 16) (chan : Nat) (d : Device) : Output.event code chan ∈ (raise reg bit code chan d).out :=
  event_put _ _ _

/-- A raised event advances SEQ and sets its bit (18 R519). -/
theorem raise_sqOf_self (reg bit : Nat) (code : BitVec 16) (chan : Nat) (d : Device) :
    sqOf reg (raise reg bit code chan d) = { seq := (sqOf reg d).seq + 1, bits := (sqOf reg d).bits ||| ((1 : BitVec 24) <<< bit) } := by
  unfold sqOf
  rw [raise_sq]
  simp [setSq, sqOf]

/-- It leaves every other status register alone. -/
theorem raise_sqOf_ne {reg r : Nat} (bit : Nat) (code : BitVec 16) (chan : Nat) (d : Device) (h : r ≠ reg) :
    sqOf r (raise reg bit code chan d) = sqOf r d := by
  unfold sqOf
  rw [raise_sq]
  unfold setSq
  exact lookupD_insertAt_ne _ _ _ h

theorem counter_bumpBy_self (a n : Nat) (d : Device) : counter a (bumpBy a n d) = counter a d + BitVec.ofNat 64 n := by
  simp [counter, bumpBy, setCounter]

theorem counter_bumpBy_ne {a b : Nat} (n : Nat) (d : Device) (h : b ≠ a) : counter b (bumpBy a n d) = counter b d := by
  simp [counter, bumpBy, setCounter, lookupD_insertAt_ne _ _ _ h]

/-- A clearing write with the current SEQ clears every bit and leaves SEQ (18 R520). -/
theorem clearSq_match {reg : Nat} {w : Word} {d : Device} (h : w.extractLsb' 24 8 = (sqOf reg d).seq) :
    sqOf reg (clearSq reg w d) = { seq := (sqOf reg d).seq, bits := 0 } := by
  unfold clearSq
  dsimp only
  rw [if_pos h]
  simp [sqOf]

/-- One with another SEQ changes nothing. -/
theorem clearSq_stale {reg : Nat} {w : Word} {d : Device} (h : w.extractLsb' 24 8 ≠ (sqOf reg d).seq) : clearSq reg w d = d := by
  unfold clearSq
  dsimp only
  rw [if_neg h]

end Sys2Proof.Machine
end

