-- ==== Sys2Proof/Laws/State.lean ====
section
/-! SUPPORT. The fields of State under each update, the fields right after reset, and what a command's frame `run` does. -/

namespace Sys2Proof.Machine

@[simp] theorem state_dev_withDev (s : State) (d : Device) : ({ s with dev := d } : State).dev = d := rfl
@[simp] theorem state_pending_withDev (s : State) (d : Device) : ({ s with dev := d } : State).pending = s.pending := rfl
@[simp] theorem state_dev_withPending (s : State) (l : List Instr) : ({ s with pending := l } : State).dev = s.dev := rfl
@[simp] theorem state_pending_withPending (s : State) (l : List Instr) : ({ s with pending := l } : State).pending = l := rfl
@[simp] theorem reset_dev : State.reset.dev = {} := rfl
@[simp] theorem reset_pending : State.reset.pending = [] := rfl

/-- A command with well-formed operands answers a next state. -/
@[simp] theorem run_true (s : State) (f : Device → Device) : run true s f = .next { s with dev := f s.dev } := rfl

/-- One with ill-formed operands faults. -/
@[simp] theorem run_false (s : State) (f : Device → Device) : run false s f = .fault .illFormed := rfl

/-- Everything a command's frame can do. -/
theorem run_cases (ok : Bool) (s : State) (f : Device → Device) :
    (ok = true ∧ run ok s f = .next { s with dev := f s.dev }) ∨ (ok = false ∧ run ok s f = .fault .illFormed) := by
  cases ok <;> simp

theorem run_next_iff (ok : Bool) (s t : State) (f : Device → Device) :
    run ok s f = .next t ↔ ok = true ∧ t = { s with dev := f s.dev } := by
  cases ok <;> simp [eq_comm]

/-- No command touches the queue. -/
theorem run_pending {ok : Bool} {s t : State} {f : Device → Device} (h : run ok s f = .next t) : t.pending = s.pending := by
  rw [run_next_iff] at h
  rw [h.2]

/-- No command refuses. -/
theorem run_not_refused (ok : Bool) (s : State) (f : Device → Device) (r : Refusal) : run ok s f ≠ .refused r := by
  cases ok <;> simp

theorem onMain_powered {f : Device → Device} {d : Device} (h : powered d = true) : onMain f d = f d := by simp [onMain, h]
theorem onMain_off {f : Device → Device} {d : Device} (h : powered d = false) : onMain f d = d := by simp [onMain, h]

theorem onBus_up {f : Device → Device} {d : Device} (h : powered d = true) (h2 : d.boot.inReset = false) : onBus f d = f d := by
  simp [onBus, h, h2]

theorem onBus_off {f : Device → Device} {d : Device} (h : powered d = false ∨ d.boot.inReset = true) : onBus f d = d := by
  unfold onBus
  cases h with
  | inl h => simp [h]
  | inr h => simp [h]

end Sys2Proof.Machine
end

