-- ==== Sys2Proof/Tests/Slice0.lean ====
section
/-! SUPPORT. Tests: an ill-formed command for every check of `wellFormed`, small steps with the results the manual states, and for every statement with hypotheses (clause by
clause) a state and operands that meet them all. -/

set_option Elab.async false

namespace Sys2Proof.Tests
open Sys2Proof Sys2Proof.Machine

/-! ### Small states -/

/-- A device in Summer. -/
def up (d : Device) : State := { dev := { d with ssn := { d.ssn with season := .summer } } }

def zeros (n : Nat) : Bytes := List.replicate n 0
def tFrame : Frame := { port := 36, bytes := zeros 60, ended := true, chain := [0] }
def tLldp : Frame := { port := 30, bytes := [0x01, 0x80, 0xC2, 0, 0, 0x0E, 2, 0, 0, 0, 0, 1, 0x88, 0xCC] ++ zeros 46, ended := true, chain := [0], phase := .inPipe }
def tPipe : Frame := { port := 24, bytes := zeros 60, phase := .inPipe, chain := [0] }
def tPend : Frame := { port := 3, bytes := zeros 60, mac := .pending 5 1 7, phase := .decided, chain := [0] }
def tArr : Frame := { port := 3, bytes := zeros 60, phase := .decided, chain := [0] }
def tStream : StreamCfg := { ident := .null 1 (some 1), cls := .scheduled, ingress := 2, egress := [3], tc := 7 }
def tGcl : Gcl := { baseSec := 0, baseNs := 0, cycleNs := 1000, entries := [⟨0, 1, 0, 500⟩, ⟨1, 2, 0, 500⟩] }
def tRtag : Frame := { port := 3, bytes := zeros 12 ++ [0xF1, 0xC1, 0, 0, 0xFF, 0xFF, 0x88, 0xB5] ++ zeros 44, ended := true, chain := [0], phase := .decided, stream := some 5 }
def tAsd (device : Bool) : StreamCfg := { tStream with cls := .assured, asd := { device := device } }
def tRec : JRec := { no := 7, kind := .frame, slot := 2, seq := 65535, frame := 1, copy0 := true, copy1 := true }
def tSlot : AsdSlot := { handle := 5, mode := .run, next := 65535 }
def tCt : Ct := { key := [1, 2], kind := .udp, state := .oneWay }
def tKey : Bytes := (frameCtKey {} (parse [] (zeros 60)) 1 2).1
def tCak : KeySlot := { st := .written, desc := { type_ := 1, use := 255, masters := 15, internal := true, client := true, lc := 255 }, key := 5 }
def tNode : TopNode := { id := 4, devA := some 1, devB := some 2 }
def tGwS : State := up { gw := { running := true }, buf := { frames := [(1, { port := 36, bytes := gwFrame 0 0 36 35 5 .route 0 0 0 [1, 2], ended := true, chain := [0], phase := .decided, refs := 1 })], queues := [(287, { copies := [{ frame := 1 }] })] }, cfg := { gw := { outputs := [(5, { eth := false, kind := .mvb, dstPort := 35, len := 2, sub := 1, ident := 7 })] } } }
def tGwD : Device := (popHead 287 tGwS.dev).2
def tGwF : Frame := (frameOf tGwD 1).getD { port := 0 }
def tRoute : GwRoute := { src := none, kind := .trdp, sub := 0, ident := 100, output := 5 }
def tOut : GwOutput := { eth := false, kind := .mvb, dstPort := 35, sub := 1, ident := 7, len := 4 }
def tAcfRoute : GwRoute := { src := none, kind := .acf, sub := 7936 + 3, ident := acfIdent { busId := 31, ident := 9, payload := [] }, output := 5 }
def tRing : TopState := { count := 5, list := [{ id := 4, devA := some 1, devB := some 2 }, { id := 6, devA := some 3 }] }
def eqxSigned (d : Device) (k : EqxType) (f : EqxFrame) : EqxFrame := { f with mac := eqxMac d k f }
def keyed (d : Device) : Device := { d with ssn := { d.ssn with params := { d.ssn.params with eqxSlot := some 63 } }, sec := { d.sec with slots := [(63, tCak)] } }
def tEqx : EqxFrame := { origin := 1, sender := 1, topo := 5, round := 9 }
def image (kind : Nat) (content : ImageContent) : Image :=
  { bytes := toBe 4 0x4E56494D ++ toBe 1 kind ++ [1, 0, 0] ++ toBe 4 192 ++ toBe 4 7 ++ zeros 8 ++ [0x80, 1, 0, 0] ++ zeros 164, signer := 5, content := content }
def tOtp : Otp := { entries := [(0, { digest := 5, role := 1, mask := 255 }), (1, { digest := 5, role := 2, mask := 255 })] }
def tBadCfg : Cfg := { ports := [(3, { configured := true, rate := 7 })] }
def tRej : Reject × Bytes := match prepare tBadCfg false (up { pair := { role := .standbyReady, wyUp := true } }).dev with | .refused x b => (x, b) | _ => ({ status := 0 }, [])
def tPkt : Packet := commandPacket 2 7 .sysInfo
def tOpen (recs : Tbl NcpRec) : Session := { open_ := true, transport := some .ethernet, next := 7, recs := recs }
def tInfo (stage : NcpStage) : NcpRec := { packet := tPkt, stage := stage }
def ncp (d : Device) : State := up { d with ssn := { d.ssn with renioft := true } }
def tPkg : Bytes := toBe 4 0x4E565550 ++ [2, 1, 0, 0] ++ toBe 4 (64 + 12 + 192) ++ toBe 4 192 ++ toBe 4 1 ++ zeros 32 ++ zeros 12 ++ ([2, 0, 0, 0] ++ toBe 4 192 ++ toBe 4 76) ++ (image 2 .opaqueCode).bytes
def tUpd : Update := { blocks := [(0, tPkg)] }
def tVerify : ExecEnv := { verify := { signer := 5 } }
def tBlob : KeyBlob := { body := .slot 63 { type_ := 1, use := 1, masters := 1, internal := true, client := false, lc := 2 }, wrap := .plain, uid := Config.uid, key := 77 }
def tRx : HostView := { rx := [{ bytes := [0, 16, 0, 0, 0, 0, 0, 0, 0, 8, 0, 0] ++ zeros 20 }] }
def tRxS : State := up { hif := { linkUp := true, bme := true, spaces := [(63, { mode := 1 })], pages := [(63, { rx := { st := .running }, rxSize := 6, rxPi := 1 })] }, buf := { frames := [(1, tFrame)], queues := [(367, { copies := [{ frame := 1 }] })] } }
def st (d : Device) : State := { dev := d }
def blobImg : Image := image 5 (.blob {})
def tLoad : State := ncp { otp := tOtp, flash := [(4, { a := { state := .good, image := some blobImg } })] }
def tSpring : SpringImage := { cfg := {}, digest := Config.sha256 [] }
def tHead (b1 : Byte) : Bytes := let h : Bytes := [7, b1 + 7, 0, 2, 0, 5]; h ++ toBe 2 (crc16 h).toNat
def tTxn (k n : Nat) : CcrTxn := { kind := k, dest := 0, data := zeros n }

/-- A blob slot holds at least 20 MiB (20 R555). -/
theorem blob_slot_bytes (k : Nat) (hk : 4 ≤ k) : 192 ≤ slotBytes k := by
  have h : 20 ≤ (max 64 (min 512 Config.flashMiB) - 24) / 2 := by omega
  unfold slotBytes
  rw [if_neg (by omega), if_neg (by omega), if_neg (by omega)]
  exact Nat.le_trans (by decide : 192 ≤ 20 * 1048576) (Nat.mul_le_mul_right _ h)

theorem blob_passes (d : Device) (h : d.otp = tOtp) : checkImage 4 blobImg d = none := by
  have h1 : blobImg.length = 192 := by decide +kernel
  have h3 : entryOk 2 blobImg.signer tOtp = true := by decide +kernel
  have h4 : blobImg.uid = 0 := by decide +kernel
  have h6 : blobImg.bytes.length = 192 := by decide +kernel
  have h7 : beAt blobImg.bytes 0 4 = 0x4E56494D := by decide +kernel
  have h8 : beAt blobImg.bytes 4 1 = 5 := by decide +kernel
  have h9 : beAt blobImg.bytes 5 1 = 1 := by decide +kernel
  have h10 : beAt blobImg.bytes 6 2 = 0 := by decide +kernel
  have h11 : beAt blobImg.bytes 26 2 = 0 := by decide +kernel
  have h12 : blobImg.content = .blob {} := rfl
  have h13 : blobImg.sigOk = true := rfl
  have h14 : blobImg.digestOk = true := rfl
  have h15 := blob_slot_bytes 4 (Nat.le_refl 4)
  unfold checkImage
  generalize slotBytes 4 = n at h15
  simp [h, h1, h3, h4, h6, h7, h8, h9, h10, h11, h12, h13, h14, h15]

theorem load_planned (d : Device) (c : Cfg) (i : Image) (h2 : (slotAtB (imageKind d 4) false).image = some i) (h3 : checkImage 4 i d = none)
    (h4 : i.devIdWord.getLsbD 15 = true) (h5 : blobOf (some i) = some c) (h6 : c.sch.lists = d.cfg.sch.lists) :
    planOp (.configLoad false) d = planOf c false d := by
  unfold planOp
  simp only [h2, checkLoad, h3, h4, h5, h6, if_true]

theorem load_plan_goes : ∃ c bs, planOf {} false tLoad.dev = .go c bs := by
  have h : (match planOf {} false tLoad.dev with | .go _ _ => true | _ => false) = true := by decide +kernel
  generalize planOf {} false tLoad.dev = x at h
  cases x with
  | go c bs => exact ⟨c, bs, rfl⟩
  | refuse => cases h

theorem blob_load_passes (t : Option Transport) : checkOp true t 0 (.configLoad false) tLoad.dev = (none, tLoad.dev) := by
  have h1 : stateRes true (.configLoad false) tLoad.dev = none := by decide +kernel
  have h7 : (NcpOp.configLoad false).cls = .config := rfl
  have h9 : namesNoPort (.configLoad false) = false := rfl
  obtain ⟨c, bs, h8⟩ := load_plan_goes
  have h6 := (load_planned tLoad.dev {} blobImg rfl (blob_passes tLoad.dev rfl) rfl rfl rfl).trans h8
  generalize tLoad.dev = d at *
  unfold checkOp
  simp [lockRes, h1, paramRes, h9, h7, h6]

/-- A frame signed under the key of EQX_SLOT is good where that key and TOPO_COUNT are the device's (13 R388). -/
theorem eqx_signed {k : EqxType} {f : EqxFrame} {d d0 : Device} (hv : f.version = 1) (ht : f.target = none) (hk : (eqxKey d).isSome = true)
    (hm : eqxKey d0 = eqxKey d) (hc : f.topo = d.top.count) : eqxGood k (eqxSigned d0 k f) d = true := by
  have hb : ∀ m, eqxBytes k { f with mac := m } = eqxBytes k f := fun m => by simp only [eqxBytes]
  have hs : ∀ m, eqxMac d k { f with mac := m } = eqxMac d k f := fun m => by simp only [eqxMac, hb]
  have hd : eqxMac d0 k f = eqxMac d k f := by simp only [eqxMac, hm]
  unfold eqxSigned eqxGood eqxMine
  rw [hs, hd]
  simp [hv, ht, hk, hc]

/-- The spill area holds at least the pages of one 2 GiB channel (01 R24). -/
theorem spill_page_limit (d : Device) (h : d.boot.update = none) : 221184 ≤ spillPageLimit d := by
  unfold spillPageLimit spillRegion
  generalize Config.dramSize = g
  cases g <;> cases bothDram d <;> simp [h]

theorem spring_admitted : admittedOk tSpring = true := by simp [admittedOk, tSpring]

theorem blob_unwraps (m : Nat) (d : Device) (h : d.otp.lc = 1) : wrapCheck m tBlob d = none := by simp [wrapCheck, tBlob, h]

/-! ### Ill-formed commands: every check of `wellFormed`, each refused -/

theorem smoke_1 : ∀ i ∈ ([
    .cellAllocate 38 0 [] false none 0 none,
    .pfcRefresh 25,
    .fdbAgeOut 4096 0,
    .fdbAgeOut 0 281474976710656,
    .linkDown 38,
    .linkUp 38,
    .flowletMove 64 0,
    .flowletMove 0 256,
    .schedulerSelect 38,
    .transmitComplete 38 0,
    .pfcReceived 25 (.pause 0),
    .pfcReceived 0 (.pfc [(8, 0)]),
    .pfcReceived 0 (.pfc [(0, 65536)]),
    .pfcReceived 0 (.pause 65536),
    .spillWriteDone 368,
    .spillRefill 368 none,
    .spillRefill 0 (some 2),
    .syncReceived false 25 {} 0,
    .announceReceived false 25 0 [],
    .pdelayMeasurement 25 0] : List Instr), wellFormed i = false := by decide +kernel

theorem smoke_2 : ∀ i ∈ ([
    .pdelayFail 25,
    .txtsPop 25 0,
    .txtsPop 0 128,
    .gateEvent 25,
    .preemptVerify 25 false,
    .holdExpiry 2048,
    .recovReset 2048,
    .memberSilent 2048 0,
    .memberSilent 0 38,
    .missLookupDone 0 (some 2),
    .ctScan 8388608,
    .setupRequest 38 [] 0 0 0,
    .setupRequest 0 [] 16 0 0,
    .setupRequest 0 [] 0 16 0,
    .setupRequest 0 [] 0 0 4096,
    .pnCkptWriteDone false 1024 0,
    .mkaPdu 64 [],
    .helloReceived 25 0 0,
    .helloSend 2,
    .topologySend 2] : List Instr), wellFormed i = false := by decide +kernel

theorem smoke_3 : ∀ i ∈ ([
    .neighbourLost 2,
    .cxTxreq 8 0,
    .cxTxcancel 8 0,
    .cxTxack 8 0,
    .cxRxack 8 0,
    .canFrameReceived 8 {},
    .canAttemptStart 8,
    .canAttemptEnd 8 .sent none,
    .busOffEnd 8,
    .canWakeDetect 8,
    .mvbSlaveFrame 2 0 [] {},
    .mvbSlaveFrame 0 4096 [] {},
    .mvbSourceWrite 2 0 [],
    .mvbSourceWrite 0 4096 [],
    .mvbAgeTick 2,
    .mvbBasicPeriod 2,
    .mvbReplyTimeout 2 0,
    .mvbReplyTimeout 0 4096,
    .mvbForeignMaster 2,
    .masterSilenceExpiry 2] : List Instr), wellFormed i = false := by decide +kernel

theorem smoke_4 : ∀ i ∈ ([
    .mastershipOffer 2 false,
    .mvbOfferReceived 2,
    .deviceScan 2 0 none,
    .deviceScan 0 4096 none,
    .gwEgressArrival 25,
    .gwEgressArrival 36,
    .trdpReceived 38 0 { srcIp := 0, comId := 0, counter := 0, payload := [] },
    .trdpReceived 0 38 { srcIp := 0, comId := 0, counter := 0, payload := [] },
    .acfReceived 38 0 0 [],
    .acfReceived 0 38 0 [],
    .wyusinSegment { header := tHead 0, data := zeros 4 },
    .wyusinSegment { header := zeros 7 },
    .wyusinSegment { header := zeros 8, data := zeros 257 },
    .wyusinSegment { header := [], data := [], lane := 4 },
    .creditLimit 8 0,
    .checkerWindowClose .time [] [] false 0,
    .checkerWindowClose .time [tTxn 0 4] [] false 0,
    .checkerWindowClose .count [tTxn 1 4] [] false 0,
    .checkerWindowClose .time (List.replicate 257 (tTxn 1 4)) [] false 0,
    .checkerWindowClose .time [tTxn 1 4] [tTxn 7 4] false 0] : List Instr), wellFormed i = false := by decide +kernel

theorem smoke_5 : ∀ i ∈ ([
    .checkerWindowClose .time [tTxn 1 4] [] false 4097,
    .checkerWindowClose .time [tTxn 1 4] (List.replicate 257 (tTxn 1 4)) false 0,
    .checkerTimeout [tTxn 1 65],
    .checkerTimeout (List.replicate 513 (tTxn 1 4)),
    .tcmError false false [tTxn 1 0],
    .tcmError false false (List.replicate 513 (tTxn 1 4)),
    .commandAccepted 4,
    .commandExecute 4 {},
    .interimReply 4,
    .gapTimeExpiry 4,
    .commandTimeout 4,
    .cmdDoorbell 4 0 {},
    .cmdDoorbell 0 256 {},
    .rplCiWrite 4 0 {},
    .rplCiWrite 0 256 {},
    .mailboxBaseWrite 4 false false 0,
    .sessionOpen 4 .pcie 0 {},
    .sessionClose 4,
    .sessionAttach 4 .pcie,
    .txDoorbell 64 0] : List Instr), wellFormed i = false := by decide +kernel

theorem smoke_6 : ∀ i ∈ ([
    .txDoorbell 0 4096,
    .rxDoorbell 64 0,
    .rxDoorbell 0 4096,
    .queueStart 68 false false {},
    .queueStop 68 false false {},
    .queueResume 68 false false {},
    .queueSkip 68 false false {},
    .invCmd 128 0,
    .invCmd 0 4,
    .completionError (.read 4 0 .txDesc false 0 0 0),
    .completionError (.read 0 68 .txDesc false 0 0 0),
    .completionError (.read 0 0 .txDesc false 4096 0 0),
    .completionError (.unit 30 0 false []),
    .completionError (.unit 108 0 true []),
    .completionError (.corrected 2),
    .hifLinkChange false 8 0 false,
    .hifLinkChange false 0 5 false,
    .irqDelayExpiry 64,
    .statusClear 0x3FFFFF0 0,
    .aliasWrite .pcie 38 0 0 0] : List Instr), wellFormed i = false := by decide +kernel

theorem smoke_7 : ∀ i ∈ ([
    .aliasWrite .pcie 0 4096 0 0,
    .aliasWrite .pcie 0 2 0 0,
    .aliasWrite .pcie 0 0 32 0,
    .hashKeyWrite 10 0,
    .latePop 512,
    .restoreTestDone 9999 false,
    .journalCopyDone 2,
    .pfcHoldExpiry 25 none,
    .canRxError 8 0 false,
    .canRxError 0 16 false,
    .masterFrameReceived 2 0 0 {},
    .masterFrameReceived 0 16 0 {},
    .masterFrameReceived 0 0 4096 {},
    .holdRequest 25,
    .pdelayReqSend 25,
    .pdelayReqReceived 25,
    .syncSend false 25,
    .announceSend false 25] : List Instr), wellFormed i = false := by decide +kernel

/-! ### Figures of the manual -/

/-- Outcome of a command as a device (a fault answers the reset device, which no test expects). -/
def after (o : Host.Outcome State Fault Refusal) : Device := match o with | .next s => s.dev | _ => {}

/-- Table FWD-8, the rows of equal rates (02 R61). -/
def k6Ports (rate : Nat) : Cfg := { ports := [(0, { rate := rate }), (1, { rate := rate })] }

theorem test_latency_25g : [(false, false), (true, false), (false, true), (true, true)].map (fun x => pairLatency (k6Ports 25000) 0 1 x.1 x.2) =
    [189440, 215040, 207360, 232960] := by decide

/-- Two access ports of one rate. -/
def k6Low (rate : Nat) : Cfg := { ports := [(8, { rate := rate }), (9, { rate := rate })] }

theorem test_latency_low : [10000, 5000, 2500, 1000].map (fun r =>
      [(false, false), (true, false), (false, true), (true, true)].map (fun x => pairLatency (k6Low r) 8 9 x.1 x.2)) =
    [[262400, 300800, 281600, 320000], [313600, 364800, 332800, 384000], [416000, 492800, 435200, 512000], [723200, 876800, 742400, 896000]] := by
  decide +kernel

/-- Table BUF-1: a frame of 1,518 bytes takes 7 cells. -/
theorem test_cells : [64, 224, 225, 1518, 9216].map cellsFor = [1, 1, 2, 7, 37] := by decide

/-- Table BUF-7, green: 0 below MIN_TH, 26/256 × 1/2 halfway (3,328 of 65,536), 1 from MAX_TH. -/
theorem test_early_drop : [8191, 12288, 16384].map (fun a => dropP { minTh := 8192, maxTh := 16384, maxP := 25 } (a * 65536)) =
    [0, 3328, 65536] := by decide

/-- The check value of CRC-32C over the digits 1 to 9 (02 R52 names the polynomial). -/
theorem test_crc32c : crc32c [0x31, 0x32, 0x33, 0x34, 0x35, 0x36, 0x37, 0x38, 0x39] = 0xE3069283 := by decide +kernel

/-- The example after 04 R105: TS32 at 5.123456789 s. -/
theorem test_ts32 : ts32 { tim := { sec := 5, ns := 123456789 } } = 828489493 := by decide +kernel

/-- The streams of Table SCH-10 under the list of Table SCH-9. -/
def k6S (sdu frames lo hi budget : Nat) : StreamCfg :=
  { ident := .null 1 (some 1), cls := .scheduled, ingress := 0, egress := [1], tc := 7, maxSdu := sdu, frames := frames, departLo := lo, departHi := hi,
    budgetPs := budget }

def k6 (hold : Nat) : Cfg :=
  { ports := [(0, { configured := true, rate := 25000, linkBoundNs := 800 }),
      (1, { configured := true, rate := 25000, preempt := { enabled := true, preemptable := 0x7F }, holdAdvanceNs := hold })]
    buf := { queues := [(15, { cls := .scheduled })] }
    msc := { secys := [(0, { port := 0 }), (1, { port := 1 })] }
    sch := { lists := [(1, { baseSec := 0, baseNs := 0, cycleNs := 500000, entries :=
        [⟨2, 0x7F, 0, 1000⟩, ⟨1, 0x80, 0, 10000⟩, ⟨2, 0x7F, 0, 489000⟩] })]
             streams := [(0x101, k6S 128 1 0 500 3000000), (0x102, k6S 256 1 0 500 3000000), (0x103, k6S 512 2 200 1000 2350000),
               (0x104, k6S 1024 1 1100 2000 3000000), (0x105, k6S 1518 1 0 500 2400000)] } }

/-- Table SCH-11: the bounds in ps. -/
theorem test_k6_bounds : (schedPort (k6 0) {} 1 ((lookup? (k6 0).sch.lists 1).getD { baseSec := 0, baseNs := 0, cycleNs := 1, entries := [] })).1.map
    (fun b => (b.h, b.bound, b.window)) = [(0x101, 2447040, 1), (0x102, 2447040, 1), (0x103, 2396000, 1), (0x104, 2396000, 1), (0x105, 2447040, 1)] := by
  decide +kernel

/-- The refusal after Table SCH-11, and the excess of S5 with HOLD_ADVANCE 48 ns. -/
theorem test_k6_refusal : (checkAll (k6 0) (k6 0) {}).2.map (fun r => ((r.status.toNat, r.reason.toNat), (r.handle, r.port, r.window), (r.value, r.bound))) =
    [((0x0201, 0x0521), (0x103, 1, 1), (46000, 2396000)), ((0x0201, 0x0521), (0x105, 1, 1), (47040, 2447040))] := by decide +kernel

theorem test_k6_hold_advance : (checkAll (k6 48) (k6 48) {}).2.map (fun r => (r.handle, r.value)) = [(0x103, 46000), (0x105, 960)] := by decide +kernel

/-- Table ASD-5 at car 2: 12,388 again is a copy, 12,800 jumps by 411. -/
def car2 : Device :=
  { cfg := { sch := { streams := [(0x210, tAsd false)] } }
    asd := { slots := [(5, { handle := 0x210, mode := .run, next := 12389, hist := [12388] })] }
    buf := { frames := [(1, tRtag)] } }

theorem test_k6_replica : (windowTest 5 12388 1 car2.cfg (tAsd false) tRtag car2).out.contains (.event 0x0603 5) = false ∧
    (lookup? (windowTest 5 12388 1 car2.cfg (tAsd false) tRtag car2).buf.frames 1) = none := by decide +kernel

theorem test_k6_jump : Output.event 0x0603 5 ∈ (windowTest 5 12800 1 car2.cfg (tAsd false) tRtag car2).out ∧
    (windowTest 5 12800 1 car2.cfg (tAsd false) tRtag car2).asd.journal.map (·.seq) = [12800] := by decide +kernel

/-- Table ASD-5 at car 3: M = 12,288 and no frame beyond, so the counter goes on at 12,800. -/
def car3 : Device :=
  { cfg := { sch := { streams := [(0x210, tAsd true)] } }
    asd := { slots := [(5, { handle := 0x210 })]
             journal := [{ no := 1, kind := .mirror, slot := 5, seq := 12288, complete := true, copy0 := true, copy1 := true },
               { no := 2, kind := .mark, slot := 0, seq := 0, marks := [(5, 12387)], complete := true, copy0 := true, copy1 := true },
               { no := 3, kind := .frame, slot := 5, seq := 12388, complete := true, copy0 := true, copy1 := true, device := true }] } }

theorem test_k6_counter : (slotAt (rebuildSlot 5 car3) 5).map (fun s => (s.counter, s.next)) = some (12800, 12389) := by decide +kernel

/-- The worked example after 07 R246: keys of the inside and the public side, and the candidate port. -/
theorem test_k6_napt : ctKeyOf { ver := 4, proto := 6, src := 0x0A280311, dst := 0xC6336414, w36 := 51514, w38 := 443, zsrc := 3, zdst := 8, moves := true } =
      ([4, 6, 3, 8] ++ toBe 16 0x0A280311 ++ toBe 16 0xC6336414 ++ toBe 2 51514 ++ toBe 2 443, false) ∧
    (ctKeyOf { ver := 4, proto := 6, src := 0xCB007109, dst := 0xC6336414, w36 := 51514, w38 := 443, zsrc := 3, zdst := 8, moves := true }).2 = true ∧
    ctKeyOf { ver := 4, proto := 6, src := 0xC6336414, dst := 0xCB007109, w36 := 443, w38 := 51514, zsrc := 8, zdst := 3, moves := true } =
      ([4, 6, 8, 3] ++ toBe 16 0xC6336414 ++ toBe 16 0xCB007109 ++ toBe 2 443 ++ toBe 2 51514, false) ∧ naptCand 51514 0 = 51514 := by decide +kernel

/-- The example of 18 R520: LINK_DOWN and LINK_UP of port 12 between a read and its clearing write. -/
def port12 : Device := { sq := [(0x80C040, { seq := 7, bits := 2 })] }
def port12Up : Device := raise (sqPRT 12) 0 0x0220 12 port12

theorem test_status_read : readReg port12 0x80C040 = some 0x07000002 ∧ readReg port12Up 0x80C040 = some 0x08000003 := by decide +kernel

theorem test_status_stale : (after (exec (.statusClear 0x80C040 0x07000000) (up port12Up))).sq = (up port12Up).dev.sq := by decide +kernel

theorem test_status_clear : readReg (after (exec (.statusClear 0x80C040 0x08000000) (up port12Up))) 0x80C040 = some 0x08000000 := by decide +kernel

/-- A masked write of 0x0038_0030 sets bits 4 and 5, clears bit 3 and leaves the rest (18 R516). -/
theorem test_masked : (after (exec (.evtEnWrite false 0x00380030) (up { glb := { evtLo := 0x0108 } }))).glb.evtLo = 0x0130 := by decide +kernel

/-- Table FLT-4: the 16th transient within 1 s retires entry 33. -/
def ch1 (n : Nat) : Device := { now := 710000000000, flt := { ledger := [(33, { times := List.replicate n 1000000 })] } }

theorem test_ledger : (ledgerOf (transient 33 0x060A id (ch1 14)) 33).state = .inService ∧ (ledgerOf (transient 33 0x060A id (ch1 15)) 33).state = .retired := by
  decide +kernel

/-- The worked example of 19: BOOT of the 2,620th start of epoch 1, and a context of 52 bytes before the nonces. -/
theorem test_boot_counter : bootCounter { otp := { epochFuses := 1 }, keeper := { bootCount := 2620 } } = 0x0001000000000A3C := by decide +kernel

/-! ### Witnesses of the statements -/

theorem witness_FramesEnterPipeline_0 : ∃ (s : State) (p : Nat) (id : Nat) (chunk : Bytes), Up s ∧ p < 38 ∧ frameOf s.dev id = none ∧ chunk.length + 4 ≤ 9216 ∧ (p < 25 → lookupD s.dev.buf.headroom p 0 + ceilDiv (chunk.length + 32) 256 ≤ headroomOf s.dev.cfg p) ∧ (p = 36 → cpBusy chunk s.dev = false) :=
  ⟨up {}, 37, 9, zeros 9212, by decide +kernel⟩

theorem witness_FramesEnterPipeline_1 : ∃ (s : State) (id : Nat) (chunk : Bytes), Up s ∧ frameOf s.dev id = none ∧ cpBusy chunk s.dev = true :=
  ⟨up { buf := { allots := [(288, { exhausted := true })] } }, 9, zeros 64, by decide +kernel⟩

theorem witness_FramesEnterPipeline_2 : ∃ (s : State) (id : Nat) (f : Frame), Up s ∧ s.dev.fwd.arrivals = [id] ∧ frameOf s.dev id = some f ∧ 24 < f.port ∧ f.port < 37 ∧ s.dev.fwd.recirc = [] :=
  ⟨up { fwd := { arrivals := [1], calSlot := 127 }, buf := { frames := [(1, tFrame)] } }, 1, tFrame, by decide +kernel⟩

theorem witness_FramesEnterPipeline_3 : ∃ (s : State) (id : Nat) (key : Bytes) (rest : List (Nat × Bytes)), Up s ∧ s.dev.fwd.arrivals = [] ∧ s.dev.fwd.recirc = (id, key) :: rest ∧ (rest.any (fun x => x.2 = key)) = true ∧ 92 ≤ s.dev.fwd.calSlot ∧ s.dev.fwd.calSlot < 105 :=
  ⟨up { fwd := { recirc := [(1, [7]), (2, [7])], calSlot := 104 } }, 1, [7], [(2, [7])], by decide +kernel⟩

theorem witness_DecisionDiscardsOrQueues_0 : ∃ (s : State) (id : Nat) (rest : List Nat) (f : Frame), Up s ∧ s.dev.fwd.pipe = id :: rest ∧ frameOf s.dev id = some f ∧ f.dec = none ∧ f.port < 25 ∧ (cfgPort (cfgAt s.dev f.epoch) f.port).configured = false ∧ f.ended = false ∧ s.dev.cfg.pair.compare = [] ∧ (∀ x ∈ s.dev.buf.allots, x.1 < 304) ∧ (∀ i, f.charge = .allot i → i < 304) :=
  ⟨up { fwd := { pipe := [1, 4] }, buf := { frames := [(1, tPipe)] } }, 1, [4], tPipe, by and_intros <;> first | decide +kernel | (intro i h; cases h; decide) | rfl⟩

theorem witness_DecisionDiscardsOrQueues_1 : ∃ (s : State) (id : Nat) (rest : List Nat) (f : Frame) (q : Nat), Up s ∧ s.dev.fwd.pipe = id :: rest ∧ frameOf s.dev id = some f ∧ f.dec = none ∧ (f.port < 25 → (cfgPort (cfgAt s.dev f.epoch) f.port).configured = true ∧ (portSt s.dev f.port).ready = true) ∧ isLinkLocal (parse (cfgAt s.dev f.epoch).fwd.userTypes f.bytes) = true ∧ s.dev.cfg.pair.compare = [] ∧ portOff s.dev 36 = false ∧ q = queueFor (cfgAt s.dev f.epoch) 36 (f.hostTc.getD (framePrio (cfgAt s.dev f.epoch) f.port (parse (cfgAt s.dev f.epoch).fwd.userTypes f.bytes))) none ∧ q / 8 = 36 ∧ (queueCfg (cfgAt s.dev f.epoch) q).cls = .assured ∧ (queueOf s.dev q).inSpill = false :=
  ⟨up { fwd := { pipe := [1, 4] }, buf := { frames := [(1, tLldp)] }, cfg := { ports := [(36, { enabled := true })], buf := { queues := (List.range 8).map fun t => (288 + t, { cls := .assured }) } } }, 1, [4], tLldp, 288, by decide +kernel⟩

theorem witness_FrameEndAndVerdict_0 : ∃ (s : State) (id : Nat) (f : Frame), Up s ∧ frameOf s.dev id = some f ∧ f.ended = false ∧ f.phase = .decided ∧ f.stream = none ∧ f.late = [] ∧ 64 ≤ storedLen f ∧ storedLen f ≤ 9216 ∧ cellsFor (storedLen f) ≤ f.cells ∧ (f.express = true ∨ 25 ≤ f.port) ∧ (∀ r ∈ s.dev.pair.recs, r.frame ≠ id) :=
  ⟨up { buf := { frames := [(1, tArr)] } }, 1, tArr, by and_intros <;> first | decide +kernel | rfl | (intros; rfl) | (intros; intro h; cases h; done) | (intros; exact ⟨rfl, rfl⟩) | (intro i h; cases h; decide)⟩

theorem witness_FrameEndAndVerdict_1 : ∃ (s : State) (id : Nat) (n : Nat) (f : Frame), Up s ∧ frameOf s.dev id = some f ∧ f.ended = false ∧ f.phase = .decided ∧ f.stream = none ∧ f.late = [] ∧ 64 ≤ storedLen f ∧ storedLen f ≤ 9216 ∧ cellsFor (storedLen f) ≤ f.cells ∧ f.express = false ∧ f.port < 25 ∧ 0 < n ∧ (∀ r ∈ s.dev.pair.recs, r.frame ≠ id) :=
  ⟨up { buf := { frames := [(1, { tArr with express := false })] } }, 1, 3, { tArr with express := false }, by and_intros <;> first | decide +kernel | rfl | (intros; rfl) | (intros; intro h; cases h; done) | (intros; exact ⟨rfl, rfl⟩) | (intro i h; cases h; decide)⟩

theorem witness_FrameEndAndVerdict_2 : ∃ (s : State) (id : Nat) (f : Frame), Up s ∧ frameOf s.dev id = some f ∧ f.ended = false ∧ f.phase = .decided ∧ f.late = [] ∧ f.port < 25 ∧ f.express = true ∧ f.refs = 0 ∧ inTransmission id s.dev = false ∧ (∀ q, (queueOf s.dev q).copies = [] ∧ (queueOf s.dev q).spill = []) ∧ (∀ x ∈ s.dev.buf.allots, x.1 < 304) ∧ (∀ i, f.charge = .allot i → i < 304) ∧ s.dev.fwd.recirc = [] ∧ s.dev.fwl.missQ = [] :=
  ⟨up { buf := { frames := [(1, tArr)] } }, 1, tArr, by and_intros <;> first | decide +kernel | rfl | (intros; rfl) | (intros; intro h; cases h; done) | (intros; exact ⟨rfl, rfl⟩) | (intro i h; cases h; decide)⟩

theorem witness_FrameEndAndVerdict_3 : ∃ (s : State) (id : Nat) (sc : Nat) (pn : Nat) (an : BitVec 2) (f : Frame) (sa : RxSa) (rc : RxScCfg) (sy : SecyCfg), Up s ∧ frameOf s.dev id = some f ∧ f.mac = .pending sc an pn ∧ f.deferred = [] ∧ (∀ t, f.tag = some t → badTag t f.bytes.length true = false) ∧ rxSaOf s.dev sc an = some sa ∧ sa.lowest ≤ pn ∧ lookup? (cfgAt s.dev f.epoch).msc.rxScs sc = some rc ∧ lookup? (cfgAt s.dev f.epoch).msc.secys rc.secy = some sy ∧ sy.validate ≠ .disabled :=
  ⟨up { buf := { frames := [(1, tPend)] }, cfg := { msc := { rxScs := [(5, { secy := 2, sci := 9 })], secys := [(2, { port := 3 })] } }, msc := { rx := [(5, [{ an := 1, lowest := 7 }])] } }, 1, 5, 7, 1, tPend, { an := 1, lowest := 7 }, { secy := 2, sci := 9 }, { port := 3 }, by and_intros <;> first | decide +kernel | rfl | (intros; rfl) | (intros; intro h; cases h; done) | (intros; exact ⟨rfl, rfl⟩) | (intro i h; cases h; decide)⟩

theorem witness_FlowControlHolds_0 : ∃ (s : State) (p : Nat) (t : Nat), Up s ∧ p < 25 ∧ t < 8 ∧ (allotOf s.dev (p * 8 + t)).exhausted = true ∧ (portCfg s.dev p).pfc = false :=
  ⟨up { buf := { allots := [(199, { exhausted := true })] } }, 24, 7, by decide +kernel⟩

theorem witness_FlowControlHolds_1 : ∃ (s : State) (p : Nat) (t : Nat), Up s ∧ p < 25 ∧ t < 8 ∧ (∀ u, u < 8 → ((allotOf s.dev (p * 8 + u)).exhausted = true ↔ u = t)) ∧ (portCfg s.dev p).pfc = true :=
  ⟨up { buf := { allots := [(199, { exhausted := true })] }, cfg := { ports := [(24, { pfc := true })] } }, 24, 7, by and_intros <;> first | decide +kernel | rfl | (intros; rfl) | (intros; intro h; cases h; done) | (intros; exact ⟨rfl, rfl⟩) | (intro i h; cases h; decide)⟩

theorem witness_FlowControlHolds_2 : ∃ (s : State) (p : Nat) (l : List (Nat × Nat)), Up s ∧ p < 25 ∧ (∀ y ∈ l, y.1 < 8 ∧ y.2 < 65536) ∧ (∀ y ∈ l, y.2 ≠ 0 → schedQueue s.dev p (tcOf s.dev.cfg p y.1) = false) :=
  ⟨up {}, 24, [(7, 65535), (0, 0)], by and_intros <;> first | decide +kernel | rfl | (intros; rfl) | (intros; intro h; cases h; done) | (intros; exact ⟨rfl, rfl⟩) | (intro i h; cases h; decide)⟩

theorem witness_FlowControlHolds_3 : ∃ (s : State) (p : Nat) (quanta : Nat) (tc : Nat), Up s ∧ p < 25 ∧ quanta ≠ 0 ∧ quanta < 65536 ∧ tc < 8 ∧ schedQueue s.dev p tc = true :=
  ⟨up { cfg := { buf := { queues := [(199, { cls := .scheduled })] } } }, 24, 1, 7, by decide +kernel⟩

theorem witness_FlowControlHolds_4 : ∃ (s : State) (p : Nat) (quanta : Nat), Up s ∧ p < 25 ∧ quanta ≠ 0 ∧ quanta < 65536 ∧ (∀ tc, tc < 8 → schedQueue s.dev p tc = false) :=
  ⟨up {}, 24, 65535, by and_intros <;> first | decide +kernel | rfl | (intros; rfl) | (intros; intro h; cases h; done) | (intros; exact ⟨rfl, rfl⟩) | (intro i h; cases h; decide)⟩

theorem witness_FlowControlHolds_5 : ∃ (s : State) (p : Nat), Up s ∧ p < 25 :=
  ⟨up {}, 24, by decide +kernel⟩

theorem witness_FlowControlHolds_6 : ∃ (s : State) (p : Nat) (k : Nat) (t : Nat), Up s ∧ p < 25 ∧ lookup? (portSt s.dev p).hold.prios k = some t ∧ t ≤ s.dev.now :=
  ⟨up { now := 10, ports := [(24, { hold := { prios := [(3, 10)] } })] }, 24, 3, 10, by decide +kernel⟩

theorem witness_FlowControlHolds_7 : ∃ (s : State) (p : Nat) (t : Nat), Up s ∧ p < 25 ∧ (portSt s.dev p).hold.pause = some t ∧ t ≤ s.dev.now :=
  ⟨up { now := 10, ports := [(24, { hold := { pause := some 10 } })] }, 24, 10, by decide +kernel⟩

theorem witness_LinkChanges_0 : ∃ (s : State) (p : Nat), Up s ∧ 2 ≤ p ∧ p < 25 ∧ (portSt s.dev p).linkUp = false :=
  ⟨up {}, 24, by decide +kernel⟩

theorem witness_LinkChanges_1 : ∃ (s : State) (p : Nat), Up s ∧ 2 ≤ p ∧ p < 25 ∧ (portSt s.dev p).linkUp = true :=
  ⟨up { ports := [(24, { linkUp := true })] }, 24, by decide +kernel⟩

theorem witness_LinkChanges_2 : ∃ (s : State) (p : Nat), Up s ∧ (p < 2 ∨ p = 37) ∧ (portSt s.dev p).linkUp = false :=
  ⟨up {}, 37, by decide +kernel⟩

theorem witness_LinkChanges_3 : ∃ (s : State) (p : Nat), Up s ∧ (p < 2 ∨ p = 37) ∧ (portSt s.dev p).linkUp = true :=
  ⟨up { ports := [(37, { linkUp := true })] }, 37, by decide +kernel⟩

theorem witness_LinkChanges_4 : ∃ (s : State) (p : Nat), Up s ∧ 2 ≤ p ∧ p < 25 ∧ (portSt s.dev p).linkUp = true :=
  ⟨up { ports := [(2, { linkUp := true })] }, 2, by decide +kernel⟩

theorem witness_LinkChanges_5 : ∃ (s : State) (p : Nat), Up s ∧ 2 ≤ p ∧ p < 25 ∧ (portSt s.dev p).linkUp = false :=
  ⟨up {}, 2, by decide +kernel⟩

theorem witness_SelectAndComplete_0 : ∃ (s : State) (p : Nat) (c : Copy) (rest : List Copy) (f : Frame), Up s ∧ (p < 25 ∨ p = 36) ∧ (p < 25 → (portSt s.dev p).linkUp = true ∧ (portSt s.dev p).txOn = true ∧ (secysOn s.dev.cfg p).isEmpty = true) ∧ (portSt s.dev p).cur = none ∧ (portSt s.dev p).preempted = none ∧ (portSt s.dev p).preemptActive = false ∧ (portSt s.dev p).hold = {} ∧ (gateSt s.dev p).running = false ∧ (queueCfg s.dev.cfg (p * 8 + 7)).cls ≠ .reserved ∧ (queueOf s.dev (p * 8 + 7)).copies = c :: rest ∧ frameOf s.dev c.frame = some f ∧ f.ended = true ∧ f.mac = .clear ∧ copyAge s.dev c ≤ limitTicks s.dev.cfg (p * 8 + 7) :=
  ⟨up { ports := [(24, { linkUp := true, txOn := true })], buf := { frames := [(1, tFrame)], queues := [(199, { copies := [{ frame := 1 }, { frame := 1 }] })] } }, 24, { frame := 1 }, [{ frame := 1 }], tFrame, by decide +kernel⟩

theorem witness_SelectAndComplete_1 : ∃ (s : State) (p : Nat) (t : TxCur) (f : Frame), Up s ∧ p < 38 ∧ (portSt s.dev p).cur = some t ∧ frameOf s.dev t.copy.frame = some f ∧ f.ended = true ∧ reservedQueue s.dev t.q = false :=
  ⟨up { buf := { frames := [(1, tFrame)] }, ports := [(37, { cur := some { q := 303, copy := { frame := 1 }, len := 64 } })] }, 37, { q := 303, copy := { frame := 1 }, len := 64 }, tFrame, by decide +kernel⟩

theorem witness_SelectAndComplete_2 : ∃ (s : State) (p : Nat) (t : TxCur) (f : Frame), Up s ∧ p < 38 ∧ (portSt s.dev p).cur = some t ∧ frameOf s.dev t.copy.frame = some f ∧ f.ended = false :=
  ⟨up { buf := { frames := [(1, tArr)] }, ports := [(37, { cur := some { q := 303, copy := { frame := 1 }, len := 64 } })] }, 37, { q := 303, copy := { frame := 1 }, len := 64 }, tArr, by decide +kernel⟩

theorem witness_AgeingAveragesAndFlowlets_0 : ∃ (s : State), Up s :=
  ⟨up { buf := { queues := [(8, { copies := [{ frame := 1 }], avg := some 100 }), (300, {})] } }, by decide +kernel⟩

theorem witness_AgeingAveragesAndFlowlets_1 : ∃ (s : State) (fid : Nat) (mac : Nat) (e : FdbEntry), Up s ∧ fid < 4096 ∧ mac < 2 ^ 48 ∧ lookup? s.dev.fwd.fdb (fdbKey fid mac) = some e :=
  ⟨up { now := 300000000000000, fwd := { fdb := [(fdbKey 4095 281474976710655, { port := 1 })] } }, 4095, 281474976710655, { port := 1 }, by decide +kernel⟩

theorem witness_AgeingAveragesAndFlowlets_2 : ∃ (s : State) (g : Nat) (e : Nat) (target : Nat) (asked : Nat), Up s ∧ g < 64 ∧ e < 256 ∧ lookup? s.dev.fwd.moves (g * 256 + e) = some (target, asked) ∧ max asked (lookupD s.dev.fwd.lastSel (g * 256 + e) 0) + s.dev.cfg.fwd.flowletUs * 1000000 ≤ s.dev.now :=
  ⟨up { now := 256000000, fwd := { moves := [(16383, (5, 0))] } }, 63, 255, 5, 0, by decide +kernel⟩

theorem witness_AgeingAveragesAndFlowlets_3 : ∃ (s : State) (g : Nat) (e : Nat) (target : Nat) (asked : Nat), Up s ∧ g < 64 ∧ e < 256 ∧ lookup? s.dev.fwd.moves (g * 256 + e) = some (target, asked) ∧ s.dev.now < max asked (lookupD s.dev.fwd.lastSel (g * 256 + e) 0) + s.dev.cfg.fwd.flowletUs * 1000000 :=
  ⟨up { now := 256000000, fwd := { moves := [(16383, (5, 1))] } }, 63, 255, 5, 1, by decide +kernel⟩

theorem witness_AgeingAveragesAndFlowlets_4 : ∃ (s : State) (g : Nat) (e : Nat), Up s ∧ g < 64 ∧ e < 256 ∧ lookup? s.dev.fwd.moves (g * 256 + e) = none :=
  ⟨up {}, 63, 255, by decide +kernel⟩

theorem witness_ScrubAndSpill_0 : ∃ (s : State) (q : Nat) (x : Queue) (c : Copy) (rest : List Copy), Up s ∧ s.dev.buf.queues = [(q, x)] ∧ x.copies = c :: rest ∧ limitTicks s.dev.cfg q < copyAge s.dev c ∧ (∀ c2 ∈ rest, copyAge s.dev c2 ≤ limitTicks s.dev.cfg q) ∧ x.spill = [] :=
  ⟨up { buf := { ageClock := 2147483647, frames := [(1, tFrame)], queues := [(8, { copies := [{ frame := 1 }, { frame := 1, age := 2147483647 }] })] } }, 8, { copies := [{ frame := 1 }, { frame := 1, age := 2147483647 }] }, { frame := 1 }, [{ frame := 1, age := 2147483647 }], by and_intros <;> first | decide +kernel | rfl | (intros; rfl) | (intros; intro h; cases h; done) | (intros; exact ⟨rfl, rfl⟩) | (intro i h; cases h; decide)⟩

theorem witness_ScrubAndSpill_1 : ∃ (s : State), Up s ∧ (s.dev.buf.queues.all (fun x => decide (x.2.copies = []) && decide (x.2.spill = []))) = true :=
  ⟨up { buf := { queues := [(8, {})] } }, by decide +kernel⟩

theorem witness_ScrubAndSpill_2 : ∃ (s : State) (q : Nat) (c : Copy) (f : Frame), Up s ∧ q < 368 ∧ (queueOf s.dev q).spill = [c] ∧ c.image = none ∧ frameOf s.dev c.frame = some f ∧ f.ended = true ∧ f.mac = .clear ∧ f.chip = 1 ∧ s.dev.buf.spillFull = false ∧ s.dev.buf.spillPages + (ceilDiv ((queueOf s.dev q).wpos + spillRecBytes f) pageData - ceilDiv (queueOf s.dev q).wpos pageData) ≤ spillPageLimit s.dev :=
  ⟨up { asd := { copiesIn := 3 }, buf := { frames := [(1, { tFrame with chip := 1 })], queues := [(303, { inSpill := true, spill := [{ frame := 1 }] })] } }, 303, { frame := 1 }, { tFrame with chip := 1 }, by and_intros <;> first | decide +kernel | exact Nat.le_trans (by decide +kernel) (spill_page_limit _ rfl) | rfl⟩

theorem witness_ScrubAndSpill_3 : ∃ (s : State) (q : Nat) (c : Copy) (f : Frame), Up s ∧ q < 368 ∧ (queueOf s.dev q).inSpill = true ∧ (queueOf s.dev q).copies = [] ∧ (queueOf s.dev q).spill = [c] ∧ c.image.isSome = true ∧ c.page ≤ (queueOf s.dev q).rpage ∧ copyAge s.dev c ≤ limitTicks s.dev.cfg q ∧ frameOf s.dev c.frame = some f :=
  ⟨up { buf := { spillCopies := 4, frames := [(1, tFrame)], queues := [(367, { inSpill := true, spill := [{ frame := 1, image := some 5 }] })] } }, 367, { frame := 1, image := some 5 }, tFrame, by decide +kernel⟩

theorem witness_ScrubAndSpill_4 : ∃ (s : State) (q : Nat) (ch : Nat) (c : Copy) (f : Frame), Up s ∧ q < 368 ∧ ch < 2 ∧ (queueOf s.dev q).inSpill = true ∧ (queueOf s.dev q).copies = [] ∧ (queueOf s.dev q).spill = [c] ∧ c.image.isSome = true ∧ frameOf s.dev c.frame = some f ∧ (ledgerOf s.dev (32 + ch)).times = [] ∧ 1 < (ledgerCfg s.dev (32 + ch)).limit :=
  ⟨up { buf := { spillCopies := 4, frames := [(1, tFrame)], queues := [(367, { inSpill := true, spill := [{ frame := 1, image := some 5 }] })] } }, 367, 1, { frame := 1, image := some 5 }, tFrame, by decide +kernel⟩

theorem witness_ScrubAndSpill_5 : ∃ (s : State), Up s ∧ s.dev.ssn.blobDone = false :=
  ⟨up {}, by decide +kernel⟩

theorem witness_ClockRegisters_0 : ∃ (s : State), TimeUp s ∧ s.dev.tim.mode = .locked :=
  ⟨ncp { tim := { mode := .locked, sec := 7, ns := 999999999 } }, by decide +kernel⟩

theorem witness_ClockRegisters_1 : ∃ (s : State), Up s ∧ s.dev.tim.mode ≠ .locked :=
  ⟨up {}, by decide +kernel⟩

theorem witness_ClockRegisters_2 : ∃ (s : State), BusUp s :=
  ⟨up {}, by decide +kernel⟩

theorem witness_SyncMeasuresAndLocks_0 : ∃ (s : State) (b : Bool) (p : Nat) (origin : Nat) (corr : Int) (off : Int), TimeUp s ∧ (p < 25 ∨ p = 37) ∧ portRole s.dev b p = .slave ∧ s.dev.tim.mode ≠ .freeRun ∧ off = ((origin : Int) * 65536 + (corr + linkDelayFine s.dev p) - stampFine (ingressStamp p 0 s.dev)) / 65536 :=
  ⟨ncp { tim := { mode := .locked, domB := { gmValid := true, slavePort := some 24 } }, ports := [(24, { linkUp := true, asCapable := true })] }, true, 24, 0, 0, 0, by decide +kernel⟩

theorem witness_SyncMeasuresAndLocks_1 : ∃ (s : State) (b : Bool) (p : Nat) (origin : Nat) (corr : Int) (off : Int), TimeUp s ∧ (p < 25 ∨ p = 37) ∧ portRole s.dev b p = .slave ∧ s.dev.tim.mode = .freeRun ∧ off = ((origin : Int) * 65536 + (corr + linkDelayFine s.dev p) - stampFine (ingressStamp p 0 s.dev)) / 65536 ∧ s.dev.cfg.tim.preferredB = b ∧ (domOf s.dev b).gmValid = true ∧ (domOf s.dev b).gmIsSelf = false ∧ 0 < syncTimeoutPs s.dev b ∧ (domOf s.dev b).gmSince + (domCfg s.dev b).gmHoldMs * 1000000000 ≤ s.dev.now ∧ (domOf s.dev b).vec.getD 1 255 ≤ (domCfg s.dev b).classMax ∧ off.natAbs ≤ s.dev.cfg.tim.slewWindowNs :=
  ⟨ncp { now := 2000000000000, ports := [(24, { linkUp := true, asCapable := true })], cfg := { tim := { preferredB := true }, ports := [(24, { ptp := { b := { } } })] }, tim := { domB := { gmValid := true, vec := [1, 248], slavePort := some 24 } } }, true, 24, 0, 0, 0, by decide +kernel⟩

theorem witness_SyncMeasuresAndLocks_2 : ∃ (s : State) (b : Bool) (p : Nat), TimeUp s ∧ (p < 25 ∨ p = 37) ∧ portRole s.dev b p ≠ .slave :=
  ⟨ncp {}, true, 37, by decide +kernel⟩

theorem witness_GrandmasterAndRevert_0 : ∃ (s : State) (b : Bool) (p : Nat), TimeUp s ∧ (p < 25 ∨ p = 37) ∧ ptpLive s.dev b p = true ∧ extSlave s.dev b = false ∧ (portDom s.dev b p).ext = none ∧ (domCfg s.dev b).gmCapable = false ∧ (domOf s.dev b).gmValid = false ∧ (domOf s.dev b).heard = [] :=
  ⟨ncp { ports := [(37, { linkUp := true, asCapable := true })], pair := { wyUp := true } }, false, 37, by decide +kernel⟩

theorem witness_GrandmasterAndRevert_1 : ∃ (s : State) (b : Bool) (t : Nat) (p : Nat) (v : List Nat × Nat), TimeUp s ∧ (domOf s.dev b).lastAnnounce = some t ∧ (domOf s.dev b).slavePort = some p ∧ (domOf s.dev b).heard = [(p, v)] ∧ (domOf s.dev b).gmIsSelf = false ∧ t + announceTimeoutPs s.dev b ≤ s.dev.now ∧ (domCfg s.dev b).gmCapable = false :=
  ⟨ncp { now := 100000000000000, tim := { domA := { lastAnnounce := some 0, gmValid := true, vec := [3], slavePort := some 24, heard := [(24, ([3], 0))] } } }, false, 0, 24, ([3], 0), by decide +kernel⟩

theorem witness_GrandmasterAndRevert_2 : ∃ (s : State) (b : Bool) (t : Nat) (p : Nat) (v : List Nat × Nat), TimeUp s ∧ (domOf s.dev b).lastAnnounce = some t ∧ (domOf s.dev b).slavePort = some p ∧ (domOf s.dev b).heard = [(p, v)] ∧ (domOf s.dev b).gmIsSelf = false ∧ t + announceTimeoutPs s.dev b ≤ s.dev.now ∧ canBeGm s.dev b = true ∧ extSlave s.dev b = false :=
  ⟨ncp { now := 100000000000000, glb := { deviceId := some 5 }, cfg := { tim := { domA := { number := 0, gmCapable := true } } }, tim := { domA := { lastAnnounce := some 0, gmValid := true, vec := [3], slavePort := some 24, heard := [(24, ([3], 0))] } } }, false, 0, 24, ([3], 0), by decide +kernel⟩

theorem witness_GrandmasterAndRevert_3 : ∃ (s : State) (b : Bool) (t : Nat), TimeUp s ∧ (domOf s.dev b).lastSync = some t ∧ t + syncTimeoutPs s.dev b ≤ s.dev.now :=
  ⟨ncp { now := 100000000000000, tim := { domA := { lastSync := some 0 } } }, false, 0, by decide +kernel⟩

theorem witness_GrandmasterAndRevert_4 : ∃ (s : State) (b : Bool), TimeUp s ∧ usable s.dev b = true :=
  ⟨ncp { now := 2000000000000, tim := { domA := { gmValid := true, vec := [1, 248], lastSync := some 2000000000000 } } }, false, by decide +kernel⟩

theorem witness_GrandmasterAndRevert_5 : ∃ (s : State) (t : Nat), TimeUp s ∧ s.dev.cfg.tim.revert = true ∧ sameProfile s.dev = true ∧ s.dev.tim.mode ≠ .freeRun ∧ s.dev.tim.unselected = false ∧ s.dev.tim.selB ≠ s.dev.cfg.tim.preferredB ∧ usable s.dev s.dev.cfg.tim.preferredB = true ∧ (domOf s.dev s.dev.cfg.tim.preferredB).usableSince = some t ∧ t + secPs s.dev.cfg.tim.revertHoldS ≤ s.dev.now :=
  ⟨ncp { now := 10000000000000, cfg := { tim := { revert := true, preferredB := true } }, tim := { mode := .locked, domB := { gmValid := true, vec := [1, 248], lastSync := some 10000000000000, usableSince := some 0 } } }, 0, by decide +kernel⟩

theorem witness_GrandmasterAndRevert_6 : ∃ (s : State) (t : Nat), TimeUp s ∧ (domOf s.dev s.dev.cfg.tim.preferredB).usableSince = some t ∧ s.dev.now < t + secPs s.dev.cfg.tim.revertHoldS :=
  ⟨ncp { now := 9999999999999, tim := { domA := { usableSince := some 0 } } }, 0, by decide +kernel⟩

theorem witness_PtpMessages_0 : ∃ (s : State) (p : Nat), TimeUp s ∧ (p < 25 ∨ p = 37) ∧ portDown s.dev p = false :=
  ⟨ncp { ports := [(24, { linkUp := true })] }, 24, by decide +kernel⟩

theorem witness_PtpMessages_1 : ∃ (s : State) (p : Nat), TimeUp s ∧ (p < 25 ∨ p = 37) ∧ portDown s.dev p = false :=
  ⟨ncp { ports := [(24, { linkUp := true })] }, 24, by decide +kernel⟩

theorem witness_PtpMessages_2 : ∃ (s : State) (p : Nat), TimeUp s ∧ (p < 25 ∨ p = 37) ∧ portDown s.dev p = false :=
  ⟨ncp { ports := [(24, { linkUp := true })], cfg := { ports := [(24, { configured := true })] } }, 24, by decide +kernel⟩

theorem witness_PtpMessages_3 : ∃ (s : State) (p : Nat), TimeUp s ∧ (p < 25 ∨ p = 37) ∧ (portCfg s.dev p).ptp.allowedLost < (portSt s.dev p).pdelayLost ∧ (portSt s.dev p).asCapable = true :=
  ⟨ncp { ports := [(24, { asCapable := true, pdelayLost := 10 })] }, 24, by decide +kernel⟩

theorem witness_PtpMessages_4 : ∃ (s : State) (b : Bool) (p : Nat) (r : Relay), TimeUp s ∧ (p < 25 ∨ p = 37) ∧ portRole s.dev b p = .master ∧ (domOf s.dev b).gmIsSelf = false ∧ (domCfg s.dev b).profile = .gptp ∧ (domOf s.dev b).relay = some r ∧ r.step = (egressStamp p 0 s.dev).step ∧ r.sent.contains p = false :=
  ⟨ncp { ports := [(24, { linkUp := true, asCapable := true })], tim := { domA := { lastSync := some 0, gmValid := true, vec := [200], slavePort := some 3, relay := some { at_ := 0, step := 0, origin := 0, corr := 0 } } } }, false, 24, { at_ := 0, step := 0, origin := 0, corr := 0 }, by decide +kernel⟩

theorem witness_PtpMessages_5 : ∃ (s : State) (b : Bool) (p : Nat), TimeUp s ∧ (p < 25 ∨ p = 37) ∧ portRole s.dev b p = .master ∧ (domOf s.dev b).gmIsSelf = true ∧ canBeGm s.dev b = true :=
  ⟨ncp { glb := { deviceId := some 5 }, cfg := { tim := { domB := { number := 1, gmCapable := true } } }, ports := [(24, { linkUp := true, asCapable := true })], tim := { domB := { gmValid := true, gmIsSelf := true } } }, true, 24, by decide +kernel⟩

theorem witness_PtpMessages_6 : ∃ (s : State) (b : Bool) (p : Nat), TimeUp s ∧ (p < 25 ∨ p = 37) ∧ ptpLive s.dev b p = false :=
  ⟨ncp {}, false, 24, by decide +kernel⟩

theorem witness_PtpMessages_7 : ∃ (s : State) (b : Bool) (p : Nat), TimeUp s ∧ (p < 25 ∨ p = 37) ∧ portRole s.dev b p = .master ∧ (domOf s.dev b).gmValid = false ∧ (domCfg s.dev b).gmCapable = false :=
  ⟨ncp { ports := [(24, { linkUp := true, asCapable := true })] }, false, 24, by decide +kernel⟩

theorem witness_PtpMessages_8 : ∃ (s : State) (b : Bool) (p : Nat), TimeUp s ∧ (p < 25 ∨ p = 37) ∧ ptpLive s.dev b p = false ∧ (domOf s.dev b).gmValid = true :=
  ⟨ncp { tim := { domA := { gmValid := true } } }, false, 24, by decide +kernel⟩

theorem witness_GatesAndPreemption_0 : ∃ (s : State) (p : Nat) (g : Gcl), Up s ∧ p < 25 ∧ opList s.dev p = some g ∧ ((listEntry g (localNs s.dev)).1 ≠ (gateSt s.dev p).entry ∨ gatesOf g (listEntry g (localNs s.dev)).1 ≠ (gateSt s.dev p).gates ∨ cycleIdx g (localNs s.dev) ≠ (gateSt s.dev p).cycleNo) ∧ (portSt s.dev p).preemptActive = false :=
  ⟨up { tim := { mode := .locked, ns := 500 }, cfg := { sch := { lists := [(24, tGcl)] } }, sch := { gates := [(24, { running := true })] } }, 24, tGcl, by decide +kernel⟩

theorem witness_GatesAndPreemption_1 : ∃ (s : State) (p : Nat), Up s ∧ p < 25 ∧ opList s.dev p = none :=
  ⟨up {}, 24, by decide +kernel⟩

theorem witness_GatesAndPreemption_2 : ∃ (s : State) (g : Nat) (x : StreamGate), Up s ∧ g < 1024 ∧ lookup? s.dev.cfg.sch.gates g = some x ∧ ((listEntry (gateList x) (localNs s.dev)).1 ≠ (lookupD s.dev.sch.psfp g {}).entry ∨ cycleIdx (gateList x) (localNs s.dev) ≠ (lookupD s.dev.sch.psfp g {}).cycleNo) :=
  ⟨up { cfg := { sch := { gates := [(6, { entries := [(true, none, 500), (false, none, 500)] })] } }, sch := { psfp := [(6, { entry := 1, octets := 9 })] } }, 6, { entries := [(true, none, 500), (false, none, 500)] }, by decide +kernel⟩

theorem witness_GatesAndPreemption_3 : ∃ (s : State) (p : Nat) (g : Gcl), Up s ∧ p < 25 ∧ opList s.dev p = some g ∧ holdSpan g (localNs s.dev) (portCfg s.dev p).holdAdvanceNs = true ∧ (portSt s.dev p).preemptActive = true ∧ (portSt s.dev p).macHold = false ∧ (portSt s.dev p).cur = none :=
  ⟨up { tim := { mode := .locked, ns := 499 }, cfg := { sch := { lists := [(24, { tGcl with entries := [⟨0, 1, 0, 500⟩, ⟨1, 2, 0, 500⟩] })] }, ports := [(24, { holdAdvanceNs := 1 })] }, sch := { gates := [(24, { running := true })] }, ports := [(24, { preemptActive := true })] }, 24, tGcl, by decide +kernel⟩

theorem witness_GatesAndPreemption_4 : ∃ (s : State) (p : Nat), Up s ∧ p < 25 ∧ (portCfg s.dev p).preempt.enabled = true ∧ (portCfg s.dev p).preempt.verifyOff = false ∧ opList s.dev p = none ∧ (portSt s.dev p).macHold = false :=
  ⟨up { cfg := { ports := [(24, { preempt := { enabled := true } })] } }, 24, by decide +kernel⟩

theorem witness_GatesAndPreemption_5 : ∃ (s : State) (p : Nat), Up s ∧ p < 25 ∧ (portCfg s.dev p).preempt.enabled = true ∧ (portCfg s.dev p).preempt.verifyOff = false :=
  ⟨up { cfg := { ports := [(24, { preempt := { enabled := true } })] } }, 24, by decide +kernel⟩

theorem witness_GatesAndPreemption_6 : ∃ (s : State) (p : Nat), Up s ∧ p < 25 ∧ (portCfg s.dev p).preempt.enabled = false :=
  ⟨up {}, 24, by decide +kernel⟩

theorem witness_SwitchTimeAndRecheck_0 : ∃ (s : State) (x : PendingCommit), Up s ∧ s.dev.switching = some x ∧ x.sec * 1000000000 + x.ns ≤ localNs s.dev :=
  ⟨up { tim := { mode := .locked, sec := 3 }, switching := some { sec := 3, ns := 0, cfg := { sch := { lists := [(24, tGcl)] } } } }, { sec := 3, ns := 0, cfg := { sch := { lists := [(24, tGcl)] } } }, by decide +kernel⟩

theorem witness_SwitchTimeAndRecheck_1 : ∃ (s : State) (x : PendingCommit), Up s ∧ s.dev.switching = some x ∧ localNs s.dev < x.sec * 1000000000 + x.ns :=
  ⟨up { tim := { mode := .locked, sec := 3 }, switching := some { sec := 3, ns := 1, cfg := {} } }, { sec := 3, ns := 1, cfg := {} }, by decide +kernel⟩

theorem witness_SwitchTimeAndRecheck_2 : ∃ (s : State), Up s ∧ s.dev.switching = none :=
  ⟨up {}, by decide +kernel⟩

theorem witness_SwitchTimeAndRecheck_3 : ∃ (s : State), Up s ∧ s.dev.sch.recheck = true ∧ (∀ y ∈ standingChecks s.dev.cfg ++ (checkAll s.dev.cfg s.dev.cfg s.dev).2, ∀ x ∈ s.dev.cfg.sch.streams, isAdmitted x.2 = true → y.handle ≠ x.1) :=
  ⟨up { sch := { recheck := true } }, by and_intros <;> first | decide +kernel | rfl | (intros; rfl) | (intros; intro h; cases h; done) | (intros; exact ⟨rfl, rfl⟩) | (intro i h; cases h; decide)⟩

theorem witness_SwitchTimeAndRecheck_4 : ∃ (s : State) (h : Nat) (sc : StreamCfg) (y : Reject), Up s ∧ s.dev.sch.recheck = true ∧ s.dev.cfg.sch.streams = [(h, sc)] ∧ isAdmitted sc = true ∧ (standingChecks s.dev.cfg ++ (checkAll s.dev.cfg s.dev.cfg s.dev).2).find? (fun y => decide (y.handle = h)) = some y ∧ s.dev.flt.late.length < 256 :=
  ⟨up { sch := { recheck := true }, cfg := { sch := { streams := [(5, tStream)] } } }, 5, tStream, { status := 0x0105, reason := 0x0529, handle := 5, port := 3, value := 3 }, by decide +kernel⟩

theorem witness_SwitchTimeAndRecheck_5 : ∃ (s : State), Up s ∧ s.dev.sch.recheck = false :=
  ⟨up {}, by decide +kernel⟩

theorem witness_RecordsOfFrames_0 : ∃ (s : State) (id : Nat) (n : Nat) (seq : Nat) (f : Frame) (h : Nat) (sc : StreamCfg) (x : AsdSlot), Up s ∧ s.dev.glb.stopAccept = false ∧ s.dev.asd.replayDue = false ∧ nextForTest s.dev = some id ∧ frameOf s.dev id = some f ∧ f.stream = some h ∧ lookup? (cfgAt s.dev f.epoch).sch.streams h = some sc ∧ slotOf s.dev h = some (n, x) ∧ slotAt s.dev n = some x ∧ sc.asd.device = false ∧ isStandby s.dev = false ∧ (parse (cfgAt s.dev f.epoch).fwd.userTypes f.bytes).rtag = some seq ∧ seq < 65536 ∧ journalRoom (1 + ceilDiv ((withRtag (cfgAt s.dev f.epoch) 0 f.bytes).length + 4) 64) s.dev = true ∧ (∀ b, f.mac ≠ .passed b) ∧ (asdMeter n sc.asd ((64 + 64 * ceilDiv ((withRtag (cfgAt s.dev f.epoch) 0 f.bytes).length + 4) 64) * 8) s.dev).1 = false ∧ x.mode = .run ∧ seqDist x.next seq < 64 ∧ lookup? x.win seq = none :=
  ⟨up { cfg := { sch := { streams := [(5, tAsd false)] } }, buf := { frames := [(1, tRtag)] }, asd := { waiting := [1], slots := [(2, { handle := 5, mode := .run, next := 65535 - 10 })] } }, 1, 2, 65535, tRtag, 5, tAsd false, { handle := 5, mode := .run, next := 65535 - 10 }, by and_intros <;> first | decide +kernel | rfl | (intros; rfl) | (intros; intro h; cases h; done) | (intros; exact ⟨rfl, rfl⟩) | (intro i h; cases h; decide)⟩

theorem witness_RecordsOfFrames_1 : ∃ (s : State) (id : Nat) (n : Nat) (f : Frame) (h : Nat) (sc : StreamCfg) (x : AsdSlot), Up s ∧ s.dev.glb.stopAccept = false ∧ s.dev.asd.replayDue = false ∧ nextForTest s.dev = some id ∧ frameOf s.dev id = some f ∧ f.stream = some h ∧ lookup? (cfgAt s.dev f.epoch).sch.streams h = some sc ∧ slotOf s.dev h = some (n, x) ∧ sc.asd.device = true ∧ isStandby s.dev = false ∧ (∀ b, f.mac ≠ .passed b) ∧ x.counter = (x.mirror + 512) % 65536 :=
  ⟨up { cfg := { sch := { streams := [(5, tAsd true)] } }, buf := { frames := [(1, tRtag)] }, asd := { waiting := [1], slots := [(2, { handle := 5, counter := 511, mirror := 65535 })] } }, 1, 2, tRtag, 5, tAsd true, { handle := 5, counter := 511, mirror := 65535 }, by and_intros <;> first | decide +kernel | rfl | (intros; rfl) | (intros; intro h; cases h; done) | (intros; exact ⟨rfl, rfl⟩) | (intro i h; cases h; decide)⟩

theorem witness_RecordsOfFrames_2 : ∃ (s : State) (no : Nat) (id : Nat) (t0 : Nat) (r : JRec) (x : AsdSlot) (b : Bool), Up s ∧ recOf s.dev no = some r ∧ r.kind = .frame ∧ r.complete = false ∧ r.replica = false ∧ (r.acked = true ∨ s.dev.asd.replicating = false) ∧ slotAt s.dev r.slot = some x ∧ lookup? x.win x.next = none ∧ lookup? x.win r.seq = some (id, b, t0) :=
  ⟨up { asd := { journal := [{ tRec with seq := 0 }], slots := [(2, { tSlot with win := [(0, (1, false, 0))] })] } }, 7, 1, 0, { tRec with seq := 0 }, { tSlot with win := [(0, (1, false, 0))] }, false, by decide +kernel⟩

theorem witness_RecordsOfFrames_3 : ∃ (s : State) (no : Nat) (id : Nat) (t0 : Nat) (r : JRec) (x : AsdSlot) (b : Bool), Up s ∧ recOf s.dev no = some r ∧ r.kind = .frame ∧ r.complete = false ∧ r.replica = false ∧ (r.acked = true ∨ s.dev.asd.replicating = false) ∧ slotAt s.dev r.slot = some x ∧ r.seq = x.next ∧ x.win = [(x.next, (id, b, t0))] :=
  ⟨up { asd := { journal := [tRec], slots := [(2, { tSlot with win := [(65535, (1, false, 0))] })] } }, 7, 1, 0, tRec, { tSlot with win := [(65535, (1, false, 0))] }, false, by decide +kernel⟩

theorem witness_MirrorsAcksAndMarks_0 : ∃ (s : State) (no : Nat) (r : JRec) (x : AsdSlot), Up s ∧ recOf s.dev no = some r ∧ r.kind = .mirror ∧ r.complete = false ∧ (r.acked = true ∨ s.dev.asd.replicating = false) ∧ slotAt s.dev r.slot = some x :=
  ⟨up { asd := { journal := [{ tRec with kind := .mirror, acked := true }], slots := [(2, { tSlot with stalled := true, counter := 9 })] } }, 7, { tRec with kind := .mirror, acked := true }, { tSlot with stalled := true, counter := 9 }, by decide +kernel⟩

theorem witness_MirrorsAcksAndMarks_1 : ∃ (s : State) (no : Nat) (r : JRec), Up s ∧ recOf s.dev no = some r ∧ r.copy0 = false :=
  ⟨up { asd := { journal := [{ tRec with copy0 := false }] } }, 7, { tRec with copy0 := false }, by decide +kernel⟩

theorem witness_MirrorsAcksAndMarks_2 : ∃ (s : State) (no : Nat) (r : JRec), Up s ∧ recOf s.dev no = some r ∧ r.copy0 = true ∧ r.copy1 = true ∧ r.complete = false ∧ r.kind = .mirror :=
  ⟨up { asd := { replicating := true, journal := [{ tRec with kind := .mirror }] } }, 7, { tRec with kind := .mirror }, by decide +kernel⟩

theorem witness_MirrorsAcksAndMarks_3 : ∃ (s : State) (r : JRec), Up s ∧ s.dev.asd.replicating = true ∧ s.dev.asd.journal = [r] ∧ r.acked = false ∧ r.replica = false ∧ r.copy0 = false ∧ max r.wrote s.dev.asd.lastAck + 1000000000 ≤ s.dev.now :=
  ⟨up { now := 1000000000, asd := { replicating := true, journal := [{ tRec with copy0 := false }] } }, { tRec with copy0 := false }, by decide +kernel⟩

theorem witness_MirrorsAcksAndMarks_4 : ∃ (s : State), Up s ∧ (∀ r ∈ s.dev.asd.journal, r.acked = true ∨ s.dev.now < max r.wrote s.dev.asd.lastAck + 1000000000) :=
  ⟨up { now := 999999999, asd := { replicating := true, journal := [{ tRec with copy0 := false }] } }, by and_intros <;> first | decide +kernel | rfl | (intros; rfl) | (intros; intro h; cases h; done) | (intros; exact ⟨rfl, rfl⟩) | (intro i h; cases h; decide)⟩

theorem witness_MirrorsAcksAndMarks_5 : ∃ (s : State), Up s ∧ s.dev.asd.replicating = false ∧ journalRoom (1 + ceilDiv (4 * s.dev.asd.slots.length) 64) s.dev = true :=
  ⟨up {}, by decide +kernel⟩

theorem witness_AssuredTimers_0 : ∃ (s : State) (n : Nat) (seq : Nat) (id : Nat) (t : Nat) (x : AsdSlot) (a : AsdCfg), Up s ∧ n < 2048 ∧ streamOfSlot s.dev n = some (x, a) ∧ x.win = [(seq, (id, true, t))] ∧ x.next < 65536 ∧ seq < 65536 ∧ seq ≠ x.next ∧ t + a.holdUs * 1000000 ≤ s.dev.now :=
  ⟨up { now := 1000000000, cfg := { sch := { streams := [(5, tAsd false)] } }, asd := { slots := [(2047, { tSlot with win := [(3, (1, true, 0))] })] } }, 2047, 3, 1, 0, { tSlot with win := [(3, (1, true, 0))] }, (tAsd false).asd, by decide +kernel⟩

theorem witness_AssuredTimers_1 : ∃ (s : State) (n : Nat) (x : AsdSlot) (a : AsdCfg), Up s ∧ n < 2048 ∧ streamOfSlot s.dev n = some (x, a) ∧ x.mode = .run ∧ x.win = [] ∧ x.lastAccept + a.resetMs * 1000000000 ≤ s.dev.now :=
  ⟨up { now := 1000000000000, cfg := { sch := { streams := [(5, tAsd false)] } }, asd := { slots := [(2047, tSlot)] } }, 2047, tSlot, (tAsd false).asd, by decide +kernel⟩

theorem witness_AssuredTimers_2 : ∃ (s : State) (n : Nat) (x : AsdSlot) (a : AsdCfg), Up s ∧ n < 2048 ∧ streamOfSlot s.dev n = some (x, a) ∧ s.dev.now < x.lastAccept + a.resetMs * 1000000000 :=
  ⟨up { now := 999999999999, cfg := { sch := { streams := [(5, tAsd false)] } }, asd := { slots := [(2047, tSlot)] } }, 2047, tSlot, (tAsd false).asd, by decide +kernel⟩

theorem witness_AssuredTimers_3 : ∃ (s : State) (n : Nat) (p : Nat) (q : Nat) (t : Nat) (u : Nat) (x : AsdSlot) (a : AsdCfg), Up s ∧ n < 2048 ∧ p < 38 ∧ streamOfSlot s.dev n = some (x, a) ∧ lookup? x.members p = some t ∧ (q, u) ∈ x.accepted ∧ q ≠ p ∧ t + a.latentMs * 1000000000 ≤ s.dev.now ∧ s.dev.now < u + a.latentMs * 1000000000 ∧ x.silent.contains p = false :=
  ⟨up { now := 2000000000000, cfg := { sch := { streams := [(5, tAsd false)] } }, asd := { slots := [(2047, { tSlot with members := [(3, 0)], accepted := [(37, 1)] })] } }, 2047, 3, 37, 0, 1, { tSlot with members := [(3, 0)], accepted := [(37, 1)] }, (tAsd false).asd, by decide +kernel⟩

theorem witness_AssuredTimers_4 : ∃ (s : State) (n : Nat) (p : Nat) (x : AsdSlot) (a : AsdCfg), Up s ∧ n < 2048 ∧ p < 38 ∧ streamOfSlot s.dev n = some (x, a) ∧ x.silent.contains p = true :=
  ⟨up { now := 2000000000000, cfg := { sch := { streams := [(5, tAsd false)] } }, asd := { slots := [(2047, { tSlot with members := [(3, 0)], accepted := [(37, 1)], silent := [3] })] } }, 2047, 3, { tSlot with members := [(3, 0)], accepted := [(37, 1)], silent := [3] }, (tAsd false).asd, by decide +kernel⟩

theorem witness_ReplayAndReplica_0 : ∃ (s : State), Up s ∧ s.dev.asd.replayDue = true :=
  ⟨up { asd := { replayDue := true, journal := [tRec] } }, by decide +kernel⟩

theorem witness_ReplayAndReplica_1 : ∃ (s : State), Up s ∧ s.dev.asd.replayDue = false :=
  ⟨up {}, by decide +kernel⟩

theorem witness_ReplayAndReplica_2 : ∃ (s : State) (r : JRec), Up s ∧ isStandby s.dev = true ∧ r.kind = .frame ∧ journalRoom (recUnits r) s.dev = true ∧ ChannelRoom 3 s :=
  ⟨up { pair := { role := .standbyReady, wyUp := true } }, tRec, by decide +kernel⟩

theorem witness_ReplayAndReplica_3 : ∃ (s : State), Up s ∧ isStandby s.dev = false :=
  ⟨up {}, by decide +kernel⟩

theorem witness_MissLookupReleases_0 : ∃ (s : State) (id : Nat) (ix : Nat) (key : Bytes) (f : Frame) (x : Decision) (e : Ct), Up s ∧ (id, key) ∈ s.dev.fwl.missQ ∧ s.dev.fwl.missQ.find? (fun y => y.1 = id) = some (id, key) ∧ s.dev.fwl.missQ.find? (fun y => y.2 = key) = some (id, key) ∧ frameOf s.dev id = some f ∧ f.dec = some x ∧ ctFind s.dev key = some (ix, e) ∧ e.kind ≠ .tcp :=
  ⟨up { buf := { frames := [(1, { tRtag with stream := none, dec := some {} })] }, fwl := { missQ := [(1, [1, 2]), (4, [1, 2]), (6, [8])], ct := [(9, tCt)] } }, 1, 9, [1, 2], { tRtag with stream := none, dec := some {} }, {}, tCt, by decide +kernel⟩

theorem witness_MissLookupReleases_1 : ∃ (s : State) (id : Nat) (key : Bytes) (f : Frame) (x : Decision), Up s ∧ (id, key) ∈ s.dev.fwl.missQ ∧ s.dev.fwl.missQ.find? (fun y => y.1 = id) = some (id, key) ∧ s.dev.fwl.missQ.find? (fun y => y.2 = key) = some (id, key) ∧ frameOf s.dev id = some f ∧ f.dec = some x ∧ ctFind s.dev key = none ∧ (∀ ip, (viewOf (cfgAt s.dev f.epoch) f x).h.ip = some ip → isIcmpError ip = false) ∧ (∀ a b c, f.mac ≠ .pending a b c) ∧ isStandby s.dev = false :=
  ⟨up { buf := { frames := [(1, { tRtag with stream := none, dec := some {} })] }, fwl := { missQ := [(1, [1, 2]), (4, [1, 2]), (6, [8])] } }, 1, [1, 2], { tRtag with stream := none, dec := some {} }, {}, by and_intros <;> first | decide +kernel | rfl | (intros; rfl) | (intros; intro h; cases h; done) | (intros; exact ⟨rfl, rfl⟩) | (intro i h; cases h; decide)⟩

theorem witness_ScanAndRevalidate_0 : ∃ (s : State) (ix : Nat) (e : Ct), Up s ∧ ix < 8388608 ∧ ctAt s.dev ix = some e ∧ e.alias_ = false ∧ e.link = none ∧ e.next = none ∧ e.prev = none ∧ isStandby s.dev = false ∧ s.dev.asd.replicating = false ∧ s.dev.fwl.missQ = [] ∧ s.dev.fwd.recirc = [] ∧ wayOf s.dev e.key = none ∧ timeoutOf s.dev.cfg e < s.dev.fwl.fwSec.toNat - max e.seen.toNat s.dev.fwl.restartSec.toNat :=
  ⟨up { fwl := { fwSec := 31, ct := [(8388607, tCt)] } }, 8388607, tCt, by decide +kernel⟩

theorem witness_ScanAndRevalidate_1 : ∃ (s : State) (ix : Nat) (e : Ct), Up s ∧ ix < 8388608 ∧ ctAt s.dev ix = some e ∧ e.link = none ∧ wayOf s.dev e.key = none ∧ s.dev.fwl.fwSec.toNat - max e.seen.toNat s.dev.fwl.restartSec.toNat ≤ timeoutOf s.dev.cfg e :=
  ⟨up { fwl := { fwSec := 30, ct := [(8388607, tCt)] } }, 8388607, tCt, by decide +kernel⟩

theorem witness_ScanAndRevalidate_2 : ∃ (s : State) (pos : Nat), Up s ∧ s.dev.fwl.revalPos = some pos ∧ s.dev.fwl.ct.find? (fun x => pos ≤ x.1) = none :=
  ⟨up { fwl := { revalPos := some 10, ct := [(9, tCt)] } }, 10, by decide +kernel⟩

theorem witness_ScanAndRevalidate_3 : ∃ (s : State) (pos : Nat) (ix : Nat) (e : Ct) (r : Rule), Up s ∧ s.dev.fwl.revalPos = some pos ∧ s.dev.fwl.ct.find? (fun x => pos ≤ x.1) = some (ix, e) ∧ e.alias_ = false ∧ e.napt = false ∧ firstRule s.dev.cfg.fwl.bank.rules (entryView s.dev.cfg e) = some r ∧ r.action = .permit :=
  ⟨up { cfg := { fwl := { bank := { rules := [{ priority := 0, ruleId := 1, family := .v4, action := .permit }, { priority := 1, ruleId := 2, family := .v6, action := .permit }, { priority := 2, ruleId := 3, family := .l2, action := .permit }] } } }, fwl := { revalPos := some 9, ct := [(9, tCt)] } }, 9, 9, tCt, { priority := 0, ruleId := 1, family := .v4, action := .permit }, by decide +kernel⟩

theorem witness_ScanAndRevalidate_4 : ∃ (s : State) (pos : Nat) (ix : Nat) (e : Ct), Up s ∧ s.dev.fwl.revalPos = some pos ∧ s.dev.fwl.ct.find? (fun x => pos ≤ x.1) = some (ix, e) ∧ ctAt s.dev ix = some e ∧ e.alias_ = false ∧ e.link = none ∧ e.next = none ∧ e.prev = none ∧ s.dev.asd.replicating = false ∧ isStandby s.dev = false ∧ firstRule s.dev.cfg.fwl.bank.rules (entryView s.dev.cfg e) = none :=
  ⟨up { fwl := { revalPos := some 3, ct := [(9, tCt)] } }, 3, 9, tCt, by decide +kernel⟩

theorem witness_FirewallRestarts_0 : ∃ (s : State), Up s :=
  ⟨up { now := 2000000000000, fwl := { frags := [{ key := [] }, { key := [1], last := 1 }] } }, by decide +kernel⟩

theorem witness_FirewallRestarts_1 : ∃ (s : State), Up s ∧ s.dev.fwl.spring = true ∧ s.dev.buf.spillReady = true ∧ s.dev.fwl.reload = false :=
  ⟨up { buf := { spillReady := true } }, by decide +kernel⟩

theorem witness_FirewallRestarts_2 : ∃ (s : State), Up s ∧ s.dev.buf.spillReady = false :=
  ⟨up {}, by decide +kernel⟩

theorem witness_FirewallRestarts_3 : ∃ (s : State) (t : Nat), Up s ∧ s.dev.fwl.graceEnd = some t :=
  ⟨up { now := 5, fwl := { graceEnd := some 5 } }, 5, by decide +kernel⟩

theorem witness_FirewallRestarts_4 : ∃ (s : State), Up s ∧ s.dev.fwl.spring = true :=
  ⟨up {}, by decide +kernel⟩

theorem witness_FirewallRestarts_5 : ∃ (s : State), Up s ∧ s.dev.fwl.spring = true ∧ s.dev.buf.spillReady = true ∧ s.dev.fwl.reload = false :=
  ⟨up { buf := { spillReady := true } }, by decide +kernel⟩

theorem witness_MirrorsApply_0 : ∃ (s : State) (e : Ct), Up s ∧ isStandby s.dev = true ∧ ctFind s.dev e.key = none ∧ ctAt s.dev (homeOf s.dev.fwl.seed e.key) = none ∧ e.napt = false ∧ s.dev.pair.setups = [] :=
  ⟨up { pair := { role := .standbyReady } }, tCt, by decide +kernel⟩

theorem witness_MirrorsApply_1 : ∃ (s : State) (e : Ct) (o : Ct) (ix : Nat), Up s ∧ isStandby s.dev = true ∧ ctFind s.dev e.key = some (ix, o) :=
  ⟨up { pair := { role := .standbySyncing }, fwl := { ct := [(9, { tCt with next := some 3 })] } }, { tCt with state := .bothWays }, { tCt with next := some 3 }, 9, by decide +kernel⟩

theorem witness_MirrorsApply_2 : ∃ (s : State) (e : Ct) (o : Ct) (ix : Nat), Up s ∧ isStandby s.dev = true ∧ ctFind s.dev e.key = some (ix, o) ∧ ctAt s.dev ix = some o ∧ o.next = none ∧ o.prev = none :=
  ⟨up { pair := { role := .standbySyncing }, fwl := { ct := [(9, tCt)] } }, { tCt with state := .bothWays }, tCt, 9, by decide +kernel⟩

theorem witness_MirrorsApply_3 : ∃ (s : State) (op : MirrorOp), Up s ∧ isStandby s.dev = false ∧ s.dev.fwl.spring = false ∧ op ≠ .failed :=
  ⟨up { fwl := { spring := false } }, .delete, by decide +kernel⟩

theorem witness_MirrorsApply_4 : ∃ (s : State), Up s ∧ s.dev.pair.role = .active :=
  ⟨up { pair := { role := .active } }, by decide +kernel⟩

theorem witness_MirrorsApply_5 : ∃ (s : State), Up s ∧ s.dev.pair.role = .active ∧ s.dev.pair.partnerReady = true ∧ s.dev.asd.replicating = true ∧ s.dev.fwl.reload = false :=
  ⟨up { pair := { role := .active, partnerReady := true }, asd := { replicating := true } }, by decide +kernel⟩

theorem witness_SetupsForThePartner_0 : ∃ (s : State) (p : Nat) (zin : Nat) (zout : Nat) (vid : Nat) (ix : Nat) (hdr : Bytes) (e : Ct), Up s ∧ p < 38 ∧ zin < 16 ∧ zout < 16 ∧ vid < 4096 ∧ s.dev.pair.role = .active ∧ ctFind s.dev (frameCtKey s.dev.cfg (wholeHdr (parse s.dev.cfg.fwd.userTypes hdr)) zin zout).1 = some (ix, e) ∧ ctAt s.dev ix = some e ∧ e.kind ≠ .tcp ∧ s.dev.asd.replicating = true ∧ ChannelRoom 4 s :=
  ⟨up { pair := { role := .active, wyUp := true }, asd := { replicating := true }, fwl := { ct := [(9, { tCt with key := tKey })] } }, 37, 1, 2, 4095, 9, zeros 60, { tCt with key := tKey }, by decide +kernel⟩

theorem witness_SetupsForThePartner_1 : ∃ (s : State) (p : Nat) (zin : Nat) (zout : Nat) (vid : Nat) (code : Nat) (hdr : Bytes), Up s ∧ p < 38 ∧ zin < 16 ∧ zout < 16 ∧ vid < 4096 ∧ s.dev.pair.role = .active ∧ ChannelRoom 4 s ∧ ctFind s.dev (frameCtKey s.dev.cfg (wholeHdr (parse s.dev.cfg.fwd.userTypes hdr)) zin zout).1 = none ∧ (setupFlow s.dev.cfg p hdr ⟨wholeHdr (parse s.dev.cfg.fwd.userTypes hdr), zin, zout, vid, (zoneCfg s.dev.cfg zin).naptInside⟩ s.dev).1 = some code :=
  ⟨up { pair := { role := .active, wyUp := true } }, 37, 1, 2, 4095, 0x0710, zeros 60, by decide +kernel⟩

theorem witness_SetupsForThePartner_2 : ∃ (s : State) (p : Nat) (zin : Nat) (zout : Nat) (vid : Nat) (hdr : Bytes), Up s ∧ p < 38 ∧ zin < 16 ∧ zout < 16 ∧ vid < 4096 ∧ s.dev.pair.role = .active ∧ ctFind s.dev (frameCtKey s.dev.cfg (wholeHdr (parse s.dev.cfg.fwd.userTypes hdr)) zin zout).1 = none ∧ (setupFlow s.dev.cfg p hdr ⟨wholeHdr (parse s.dev.cfg.fwd.userTypes hdr), zin, zout, vid, (zoneCfg s.dev.cfg zin).naptInside⟩ s.dev).1 = none :=
  ⟨up { pair := { role := .active, wyUp := true }, cfg := { fwl := { bank := { rules := [{ priority := 0, ruleId := 1, family := .l2, action := .permit }] } } } }, 37, 1, 2, 4095, zeros 60, by decide +kernel⟩

theorem witness_SetupsForThePartner_3 : ∃ (s : State) (p : Nat) (zin : Nat) (zout : Nat) (vid : Nat), Up s ∧ p < 38 ∧ zin < 16 ∧ zout < 16 ∧ vid < 4096 ∧ s.dev.pair.role ≠ .active :=
  ⟨up {}, 37, 0, 0, 0, by decide +kernel⟩

theorem witness_SetupsForThePartner_4 : ∃ (s : State) (id : Nat) (due : Nat) (key : Bytes), Up s ∧ s.dev.pair.setups = [(id, key, due)] ∧ due ≤ s.dev.now :=
  ⟨up { now := 4, pair := { setups := [(9, [1], 4)] } }, 9, 4, [1], by decide +kernel⟩

theorem witness_SetupsForThePartner_5 : ∃ (s : State) (id : Nat) (due : Nat) (key : Bytes), Up s ∧ s.dev.pair.setups = [(id, key, due)] ∧ s.dev.now < due :=
  ⟨up { now := 3, pair := { setups := [(9, [1], 4)] } }, 9, 4, [1], by decide +kernel⟩

theorem witness_SetupsForThePartner_6 : ∃ (s : State) (key : Bytes) (ix : Nat) (e : Ct), Up s ∧ s.dev.pair.role = .active ∧ ctFind s.dev key = some (ix, e) :=
  ⟨up { pair := { role := .active }, fwl := { ct := [(9, tCt)] } }, [1, 2], 9, tCt, by decide +kernel⟩

theorem witness_SetupsForThePartner_7 : ∃ (s : State), Up s ∧ s.dev.pair.role ≠ .active :=
  ⟨up {}, by decide +kernel⟩

theorem witness_CheckpointEraseAndMka_0 : ∃ (s : State) (sc : Nat) (v : Nat) (an : BitVec 2) (a : TxSa), Up s ∧ sc < 1024 ∧ (txScOf s.dev sc).sas = [a] ∧ a.an = an ∧ a.ckptPend = some v :=
  ⟨up { msc := { tx := [(1023, { sas := [{ an := 3, pn := 9, ckptPend := some 50 }], stalled := true })] } }, 1023, 50, 3, { an := 3, pn := 9, ckptPend := some 50 }, by decide +kernel⟩

theorem witness_CheckpointEraseAndMka_1 : ∃ (s : State) (sc : Nat) (v : Nat) (an : BitVec 2) (a : RxSa), Up s ∧ sc < 1024 ∧ rxSas s.dev sc = [a] ∧ a.an = an ∧ a.ckptPend = some v :=
  ⟨up { msc := { rx := [(1023, [{ an := 3, lowest := 9, ckptPend := some 50 }])] } }, 1023, 50, 3, { an := 3, lowest := 9, ckptPend := some 50 }, by decide +kernel⟩

theorem witness_CheckpointEraseAndMka_2 : ∃ (s : State) (sc : Nat), Up s ∧ sc < 1024 ∧ (txScOf s.dev sc).sas = [] :=
  ⟨up {}, 1023, by decide +kernel⟩

theorem witness_CheckpointEraseAndMka_3 : ∃ (s : State) (e : Bool × Nat × BitVec 2 × Nat), Up s ∧ s.dev.msc.erasing = [e] ∧ e.2.2.2 + 1000000000 ≤ s.dev.now ∧ s.dev.ncp.pend = [] ∧ s.dev.buf.frames = [] :=
  ⟨up { now := 1000000000, ports := [(24, { linkUp := true, cur := some { q := 199, copy := { frame := 1 }, len := 64, sec := some { n := 3, pn := 1, an := 1 } } })], msc := { erasing := [(true, 3, 1, 0)] } }, (true, 3, 1, 0), by decide +kernel⟩

theorem witness_CheckpointEraseAndMka_4 : ∃ (s : State) (e : Bool × Nat × BitVec 2 × Nat), Up s ∧ s.dev.msc.erasing = [e] ∧ s.dev.now < e.2.2.2 + 1000000000 ∧ s.dev.ncp.pend = [] :=
  ⟨up { now := 999999999, msc := { erasing := [(true, 3, 1, 0)] } }, (true, 3, 1, 0), by decide +kernel⟩

theorem witness_CheckpointEraseAndMka_5 : ∃ (s : State) (cak : Nat) (sc : Nat) (an : BitVec 2), Up s ∧ cak < 64 ∧ secRefusal s.dev = none ∧ slotUse 0 false 3 cak s.dev = none ∧ ((txScOf s.dev sc).sas.any (fun a => decide (a.an = an))) = true :=
  ⟨up { msc := { entropyOk := true, tx := [(8, { sas := [{ an := 2, pn := 9 }], stopped := true })] }, sec := { slots := [(63, tCak)] } }, 63, 8, 2, by decide +kernel⟩

theorem witness_CheckpointEraseAndMka_6 : ∃ (s : State) (cak : Nat) (sc : Nat) (l : List RxSa), Up s ∧ cak < 64 ∧ secRefusal s.dev = none ∧ slotUse 0 false 3 cak s.dev = none ∧ s.dev.msc.rx = [(sc, l)] :=
  ⟨up { msc := { entropyOk := true, rx := [(8, [{ an := 2, lowest := 9 }])] }, sec := { slots := [(63, tCak)] } }, 63, 8, [{ an := 2, lowest := 9 }], by decide +kernel⟩

theorem witness_CheckpointEraseAndMka_7 : ∃ (s : State) (cak : Nat), Up s ∧ cak < 64 ∧ ((secRefusal s.dev).isSome = true ∨ (slotUse 0 false 3 cak s.dev).isSome = true) :=
  ⟨up { sec := { tampered := true, slots := [(63, tCak)] } }, 63, by decide +kernel⟩

theorem witness_EntropySource_0 : ∃ (s : State), Up s ∧ s.dev.msc.entropyDone = false ∧ s.dev.sec.rootDue = false ∧ s.dev.sec.loadDue = false ∧ s.dev.ncp.pend = [] :=
  ⟨up {}, by decide +kernel⟩

theorem witness_EntropySource_1 : ∃ (s : State), Up s ∧ s.dev.msc.entropyDone = false ∧ s.dev.msc.entropyTries = 0 ∧ s.dev.ncp.pend = [] :=
  ⟨up {}, by decide +kernel⟩

theorem witness_EntropySource_2 : ∃ (s : State), Up s ∧ s.dev.msc.entropyOk = true ∧ s.dev.msc.drbgDegraded = false :=
  ⟨up { msc := { entropyOk := true, drbg := 1 } }, by decide +kernel⟩

theorem witness_EntropySource_3 : ∃ (s : State), Up s ∧ s.dev.msc.entropyOk = false :=
  ⟨up {}, by decide +kernel⟩

theorem witness_EntropySource_4 : ∃ (s : State), Up s ∧ s.dev.msc.entropyDone = true ∧ s.dev.msc.entropyOk = true :=
  ⟨up { msc := { entropyOk := true, entropyDone := true } }, by decide +kernel⟩

theorem witness_TamperZeroes_0 : ∃ (s : State) (x : TamperSrc), watched x s.dev = true ∧ s.dev.ncp.pend = [] :=
  ⟨st { ssn := { season := .winter }, otp := { tamperEn := 2 }, keeper := { valid := true, root := some 4, bootCount := 9, ckptTx := [(4, 5)], timeOk := true } }, .lid, by decide +kernel⟩

theorem witness_TamperZeroes_1 : ∃ (s : State) (x : TamperSrc), watched x s.dev = true ∧ s.dev.ncp.pend = [] ∧ (s.dev.ssn.season = .summer ∨ s.dev.ssn.season = .spring) :=
  ⟨up { otp := { tamperEn := 2 }, sec := { slots := [(63, tCak)] }, keeper := { valid := true, root := some 4 }, msc := { rx := [(8, [{ an := 2, lowest := 9 }])] } }, .lid, by decide +kernel⟩

theorem witness_TamperZeroes_2 : ∃ (s : State) (x : TamperSrc), watched x s.dev = false ∧ s.dev.ncp.pend = [] :=
  ⟨up { otp := { tamperEn := 1 }, keeper := { valid := true } }, .lid, by decide +kernel⟩

theorem witness_NeighboursAndTtdp_0 : ∃ (s : State) (p : Nat), Up s ∧ p < 2 ∧ lookup? s.dev.top.neighbours p = none :=
  ⟨up {}, 1, by decide +kernel⟩

theorem witness_NeighboursAndTtdp_1 : ∃ (s : State) (p : Nat) (n : Neighbour), Up s ∧ p < 2 ∧ lookup? s.dev.top.neighbours p = some n :=
  ⟨up { now := 9, top := { neighbours := [(1, { id := 7, lastHello := 1 })] } }, 1, { id := 7, lastHello := 1 }, by decide +kernel⟩

theorem witness_NeighboursAndTtdp_2 : ∃ (s : State) (p : Nat), Up s ∧ 2 ≤ p ∧ p < 25 ∧ (portSt s.dev p).loopBlock = false :=
  ⟨up {}, 2, by decide +kernel⟩

theorem witness_NeighboursAndTtdp_3 : ∃ (s : State) (p : Nat) (n : Neighbour), Up s ∧ p < 2 ∧ lookup? s.dev.top.neighbours p = some n ∧ n.lastHello + msPs (s.dev.cfg.top.helloMs + 5 + s.dev.cfg.top.helloLoss * s.dev.cfg.top.helloFastMs) ≤ s.dev.now :=
  ⟨up { now := 150000000000, top := { neighbours := [(1, { id := 7, lastHello := 0 })] } }, 1, { id := 7, lastHello := 0 }, by decide +kernel⟩

theorem witness_NeighboursAndTtdp_4 : ∃ (s : State) (p : Nat) (n : Neighbour), Up s ∧ p < 2 ∧ lookup? s.dev.top.neighbours p = some n ∧ s.dev.now < n.lastHello + msPs (s.dev.cfg.top.helloMs + 5 + s.dev.cfg.top.helloLoss * s.dev.cfg.top.helloFastMs) :=
  ⟨up { now := 149999999999, top := { neighbours := [(1, { id := 7, lastHello := 0 })] } }, 1, { id := 7, lastHello := 0 }, by decide +kernel⟩

theorem witness_NeighboursAndTtdp_5 : ∃ (s : State) (p : Nat), Up s ∧ p < 2 ∧ s.dev.top.line ≠ .bypassed ∧ renioftRuns s.dev = true ∧ periodOver (lookup? s.dev.top.helloAt p) (helloPeriodMs p s.dev) s.dev = true :=
  ⟨up { now := 5, top := { line := .discovering }, ssn := { renioft := true } }, 1, by decide +kernel⟩

theorem witness_NeighboursAndTtdp_6 : ∃ (s : State) (p : Nat), Up s ∧ p < 2 ∧ s.dev.top.line ≠ .bypassed ∧ s.dev.top.line ≠ .inserting ∧ renioftRuns s.dev = true ∧ periodOver (lookup? s.dev.top.topoAt p) s.dev.cfg.top.topoMs s.dev = true :=
  ⟨up { now := 5, top := { line := .discovering }, ssn := { renioft := true } }, 1, by decide +kernel⟩

theorem witness_NeighboursAndTtdp_7 : ∃ (s : State) (p : Nat), Up s ∧ p < 2 :=
  ⟨ncp { top := { helloAt := [(1, 0)], topoAt := [(1, 0)] } }, 1, by decide +kernel⟩

theorem witness_NeighboursAndTtdp_8 : ∃ (s : State) (p : Nat), Up s ∧ p < 2 ∧ s.dev.top.line = .bypassed :=
  ⟨up {}, 1, by decide +kernel⟩

theorem witness_InaugurationAndRoutes_0 : ∃ (s : State), Up s :=
  ⟨up {}, by decide +kernel⟩

theorem witness_InaugurationAndRoutes_1 : ∃ (s : State), Up s ∧ s.dev.top.line = .discovering ∧ s.dev.top.viewB = none :=
  ⟨up { top := { line := .discovering } }, by decide +kernel⟩

theorem witness_InaugurationAndRoutes_2 : ∃ (s : State), Up s ∧ s.dev.top.line = .stableWait ∧ s.dev.top.since + msPs s.dev.cfg.top.stableMs ≤ s.dev.now ∧ (mergedView s.dev).length ≤ 63 :=
  ⟨up { now := 300000000000, top := { line := .stableWait, viewA := some [tNode] } }, by decide +kernel⟩

theorem witness_InaugurationAndRoutes_3 : ∃ (s : State), Up s ∧ s.dev.now < s.dev.top.since + msPs s.dev.cfg.top.stableMs :=
  ⟨up { now := 299999999999, top := { line := .stableWait, viewA := some [tNode] } }, by decide +kernel⟩

theorem witness_InaugurationAndRoutes_4 : ∃ (s : State) (routes : List Route) (hops : Tbl NextHop) (bs : List PortBound), Up s ∧ s.dev.top.routeQueued = true ∧ inTransition s.dev = false ∧ s.dev.switching = none ∧ configBusy s.dev = false ∧ isOwner s.dev = true ∧ exchanges s.dev = false ∧ prepare (routedCfg routes hops s.dev.cfg) false { s.dev with top := { s.dev.top with routeQueued := false } } = .ok bs :=
  ⟨up { top := { routeQueued := true } }, [{ inst := 1, v6 := false, pfx := 0, bits := 0, ecmp := false, target := 3 }], [(3, { port := 2, mac := 1, vid := 1 })], [], by decide +kernel⟩

theorem witness_InaugurationAndRoutes_5 : ∃ (s : State) (routes : List Route) (hops : Tbl NextHop) (x : Reject) (b : Bytes), Up s ∧ s.dev.top.routeQueued = true ∧ inTransition s.dev = false ∧ s.dev.switching = none ∧ configBusy s.dev = false ∧ isOwner s.dev = true ∧ prepare (routedCfg routes hops s.dev.cfg) false { s.dev with top := { s.dev.top with routeQueued := false } } = .refused x b :=
  ⟨up { top := { routeQueued := true }, cfg := tBadCfg }, [], [], tRej.1, tRej.2, by decide +kernel⟩

theorem witness_InaugurationAndRoutes_6 : ∃ (s : State), Up s ∧ s.dev.top.routeQueued = true ∧ inTransition s.dev = false ∧ s.dev.switching = none ∧ configBusy s.dev = false ∧ isOwner s.dev = true ∧ exchanges s.dev = true :=
  ⟨up { top := { routeQueued := true }, pair := { role := .active, wyUp := true, partnerReady := true } }, by decide +kernel⟩

theorem witness_InaugurationAndRoutes_7 : ∃ (s : State), Up s ∧ s.dev.top.routeQueued = false :=
  ⟨up {}, by decide +kernel⟩

theorem witness_BypassAndInhibit_0 : ∃ (s : State), Up s ∧ s.dev.top.line = .inserting ∧ s.dev.top.since + msPs s.dev.cfg.top.settleMs ≤ s.dev.now ∧ (portSt s.dev 0).linkUp = true ∧ s.dev.top.viewA = none ∧ s.dev.top.viewB = none :=
  ⟨up { now := 20000000000, top := { line := .inserting }, ports := [(0, { linkUp := true })] }, by decide +kernel⟩

theorem witness_BypassAndInhibit_1 : ∃ (s : State), Up s ∧ (portSt s.dev 0).linkUp = false ∧ (portSt s.dev 1).linkUp = false :=
  ⟨up {}, by decide +kernel⟩

theorem witness_BypassAndInhibit_2 : ∃ (s : State), Up s ∧ s.dev.top.bypassEn = true ∧ renioftRuns s.dev = false ∧ s.dev.top.lastRefresh + msPs s.dev.cfg.top.wdMs ≤ s.dev.now :=
  ⟨up { now := 300000000000, top := { line := .discovering, bypassEn := true } }, by decide +kernel⟩

theorem witness_BypassAndInhibit_3 : ∃ (s : State), Up s ∧ renioftRuns s.dev = true :=
  ⟨up { ssn := { renioft := true } }, by decide +kernel⟩

theorem witness_BypassAndInhibit_4 : ∃ (s : State), Up s :=
  ⟨up { top := { line := .inaugurated, bypassEn := true } }, by decide +kernel⟩

theorem witness_BypassAndInhibit_5 : ∃ (s : State), Up s ∧ s.dev.top.line = .bypassed ∧ s.dev.cfg.top.configured = true ∧ s.dev.top.wdReleased = false ∧ (portCfg s.dev 0).configured = true ∧ (portCfg s.dev 1).configured = true :=
  ⟨up { now := 6, cfg := { top := { configured := true }, ports := [(0, { configured := true }), (1, { configured := true })] }, top := { bypassCmd := true } }, by decide +kernel⟩

theorem witness_BypassAndInhibit_6 : ∃ (s : State), Up s ∧ s.dev.top.line ≠ .inhibited :=
  ⟨up {}, by decide +kernel⟩

theorem witness_BypassAndInhibit_7 : ∃ (s : State), Up s ∧ s.dev.top.line = .inhibited ∧ (mergedView s.dev).any (fun x => x.inhibit && x.present) = false :=
  ⟨up { now := 6, top := { line := .inhibited, inhibit := true } }, by decide +kernel⟩

theorem witness_CanEntries_0 : ∃ (s : State) (n : Nat) (mask : BitVec 64), Up s ∧ n < 8 ∧ (canSt s.dev n).on = true ∧ (canSt s.dev n).closing = false ∧ (∀ e, mask.getLsbD e = true → (txOf (canSt s.dev n) e).phase = .free ∧ txInvalid (canCfg s.dev.cfg n) (txOf (canSt s.dev n) e) = false) :=
  ⟨up { can := [(7, { on := true, tx := [(2, { phase := .pending })] })] }, 7, 0x8000000000000001, by and_intros <;> first | decide +kernel | (intro e h; have he := BitVec.lt_of_getLsbD h; revert h; revert he; revert e; decide +kernel) | rfl⟩

theorem witness_CanEntries_1 : ∃ (s : State) (n : Nat) (e : Nat) (mask : BitVec 64), Up s ∧ n < 8 ∧ maskBits mask = [e] ∧ (txOf (canSt s.dev n) e).phase ≠ .free :=
  ⟨up { can := [(7, { on := true, tx := [(63, { phase := .pending })] })] }, 7, 63, 0x8000000000000000, by decide +kernel⟩

theorem witness_CanEntries_2 : ∃ (s : State) (n : Nat) (e : Nat) (mask : BitVec 64), Up s ∧ n < 8 ∧ maskBits mask = [e] ∧ (txOf (canSt s.dev n) e).phase = .pending ∧ lookup? s.dev.gw.entries (n * 64 + e) = none :=
  ⟨up { can := [(7, { on := true, tx := [(63, { phase := .pending })] })] }, 7, 63, 0x8000000000000000, by decide +kernel⟩

theorem witness_CanEntries_3 : ∃ (s : State) (n : Nat) (e : Nat) (mask : BitVec 64), Up s ∧ n < 8 ∧ maskBits mask = [e] ∧ (txOf (canSt s.dev n) e).phase = .attempt :=
  ⟨up { can := [(7, { on := true, tx := [(63, { phase := .attempt })] })] }, 7, 63, 0x8000000000000000, by decide +kernel⟩

theorem witness_CanEntries_4 : ∃ (s : State) (n : Nat) (e : Nat) (mask : BitVec 64), Up s ∧ n < 8 ∧ maskBits mask = [e] ∧ (txOf (canSt s.dev n) e).phase = .done ∧ waitList s.dev n = [] :=
  ⟨up { can := [(7, { on := true, tx := [(63, { phase := .done })] })] }, 7, 63, 0x8000000000000000, by decide +kernel⟩

theorem witness_CanEntries_5 : ∃ (s : State) (n : Nat), Up s ∧ n < 8 ∧ (∀ r ∈ (canSt s.dev n).rx, r.cells = 0) :=
  ⟨up { can := [(7, { on := true, rxHead := 255, rx := [{ frame := {}, filter := 0, rseq := 1 }, { frame := {}, filter := 0, rseq := 2 }] })] }, 7, by and_intros <;> first | decide +kernel | rfl | (intros; rfl) | (intros; intro h; cases h; done) | (intros; exact ⟨rfl, rfl⟩) | (intro i h; cases h; decide)⟩

theorem witness_CanEntries_6 : ∃ (s : State) (n : Nat) (e : Nat), Up s ∧ n < 8 ∧ (canSt s.dev n).on = true ∧ (canSt s.dev n).closing = false ∧ (canSt s.dev n).busOff = false ∧ (canCfg s.dev.cfg n).mode = .normal ∧ inPhase (canSt s.dev n) .attempt = [] ∧ offered (canCfg s.dev.cfg n).fifo (canSt s.dev n) = some e :=
  ⟨up { can := [(7, { on := true, tx := [(3, { phase := .pending, frame := { ident := 9 } }), (63, { phase := .pending, frame := { ident := 8 } })] })] }, 7, 63, by decide +kernel⟩

theorem witness_CanEntries_7 : ∃ (s : State) (n : Nat) (e : Nat) (t : TxEntry) (rest : List (Nat × TxEntry)), Up s ∧ n < 8 ∧ inPhase (canSt s.dev n) .attempt = (e, t) :: rest ∧ (canSt s.dev n).closing = false ∧ (canSt s.dev n).alone = false ∧ t.cancel = false ∧ lookup? s.dev.gw.entries (n * 64 + e) = none :=
  ⟨up { can := [(7, { on := true, txErr := 0, tx := [(63, { phase := .attempt })] })] }, 7, 63, { phase := .attempt }, [], by decide +kernel⟩

theorem witness_CanEntries_8 : ∃ (s : State) (n : Nat) (e : Nat) (lec : Nat) (t : TxEntry) (rest : List (Nat × TxEntry)), Up s ∧ n < 8 ∧ lec < 16 ∧ lec ≠ 3 ∧ inPhase (canSt s.dev n) .attempt = (e, t) :: rest ∧ (canSt s.dev n).closing = false ∧ t.cancel = false ∧ t.retry = 255 ∧ (canSt s.dev n).txErr + 8 ≤ 255 :=
  ⟨up { can := [(7, { on := true, txErr := 247, tx := [(63, { phase := .attempt, retry := 255 })] })] }, 7, 63, 15, { phase := .attempt, retry := 255 }, [], by decide +kernel⟩

theorem witness_CanReception_0 : ∃ (s : State) (n : Nat) (i : Nat) (f : CanFrame), Up s ∧ n < 8 ∧ (canSt s.dev n).on = true ∧ (canSt s.dev n).busOff = false ∧ hasFormat (canCfg s.dev.cfg n) f.fmt = true ∧ (canSt s.dev n).rxErr ≤ 127 ∧ (canFilters s.dev.cfg n).findIdx? (fun k => decide (k = canKey f)) = some i ∧ (canSt s.dev n).rx.length < 256 ∧ canCells f = 0 ∧ GwQuiet s :=
  ⟨up { can := [(7, { on := true, rxErr := 127, rseq := 4294967295 })], cfg := { gw := { routes := [{ src := some 33, kind := .canBase, sub := 0, ident := 5, output := 1 }] } } }, 7, 0, { ident := 5 }, by decide +kernel⟩

theorem witness_CanReception_1 : ∃ (s : State) (n : Nat), Up s ∧ n < 8 ∧ (canSt s.dev n).on = false :=
  ⟨up {}, 7, by decide +kernel⟩

theorem witness_CanReception_2 : ∃ (s : State) (n : Nat) (lec : Nat), Up s ∧ n < 8 ∧ lec < 16 ∧ (canSt s.dev n).on = true ∧ (canSt s.dev n).busOff = false :=
  ⟨up { can := [(7, { on := true, rxErr := 250 })] }, 7, 15, by decide +kernel⟩

theorem witness_CanReception_3 : ∃ (s : State) (n : Nat), Up s ∧ n < 8 ∧ (canSt s.dev n).busOff = true ∧ (canSt s.dev n).recovering = true ∧ GwQuiet s :=
  ⟨up { can := [(7, { on := true, busOff := true, recovering := true, txErr := 255 })] }, 7, by decide +kernel⟩

theorem witness_CanReception_4 : ∃ (s : State) (n : Nat), Up s ∧ n < 8 ∧ (canSt s.dev n).recovering = false :=
  ⟨up { can := [(7, { busOff := true })] }, 7, by decide +kernel⟩

theorem witness_CanReception_5 : ∃ (s : State) (n : Nat), n < 8 ∧ detectorOn s.dev n = true ∧ s.dev.ssn.season = .autumn ∧ GwQuiet s :=
  ⟨st { ssn := { season := .autumn, canWakeCfg := [(7, { wakeSrc := .pattern })] } }, 7, by decide +kernel⟩

theorem witness_CanReception_6 : ∃ (s : State) (n : Nat), n < 8 ∧ detectorOn s.dev n = false :=
  ⟨up {}, 7, by decide +kernel⟩

theorem witness_MvbTrafficStore_0 : ∃ (s : State) (n : Nat) (a : Nat) (p : MvbPort) (data : Bytes) (l : MvbLines), Up s ∧ n < 2 ∧ a < 4096 ∧ (mvbSt s.dev n).role ≠ .off ∧ MvbLinesGood n s l ∧ lookup? (mvbCfg s.dev.cfg n).ports a = some p ∧ p.source = false ∧ p.route = false ∧ data.length = mvbBytes p.size :=
  ⟨up { mvb := [(1, { role := .slave })], cfg := { mvb := [(1, { ports := [(4095, { source := false, size := 0 })] })] } }, 1, 4095, { source := false, size := 0 }, [1, 2], {}, by decide +kernel⟩

theorem witness_MvbTrafficStore_1 : ∃ (s : State) (n : Nat) (a : Nat) (p : MvbPort) (data : Bytes), Up s ∧ n < 2 ∧ a < 4096 ∧ lookup? (mvbCfg s.dev.cfg n).ports a = some p ∧ p.source = true ∧ data.length = mvbBytes p.size :=
  ⟨up { mvb := [(1, { role := .slave, entries := [(4095, { age := 7, mark := true })] })], cfg := { mvb := [(1, { ports := [(4095, { source := true, size := 0 })] })] } }, 1, 4095, { source := true, size := 0 }, [1, 2], by decide +kernel⟩

theorem witness_MvbTrafficStore_2 : ∃ (s : State) (n : Nat) (a : Nat) (p : MvbPort), Up s ∧ n < 2 ∧ (mvbCfg s.dev.cfg n).ports = [(a, p)] ∧ p.limit = 0 :=
  ⟨up { mvb := [(1, { entries := [(4095, { age := 65535 })] })], cfg := { mvb := [(1, { ports := [(4095, { source := false, size := 0 })] })] } }, 1, 4095, { source := false, size := 0 }, by decide +kernel⟩

theorem witness_MvbTrafficStore_3 : ∃ (s : State) (n : Nat) (a : Nat) (p : MvbPort), Up s ∧ n < 2 ∧ (mvbCfg s.dev.cfg n).ports = [(a, p)] ∧ p.source = false ∧ p.limit ≠ 0 ∧ p.limit < 65535 ∧ (mvbEntry s.dev n a).age = p.limit ∧ (mvbEntry s.dev n a).mark = false ∧ GwQuiet s :=
  ⟨up { mvb := [(1, { entries := [(4095, { age := 5 })] })], cfg := { mvb := [(1, { ports := [(4095, { source := false, size := 0, limit := 5 })] })] } }, 1, 4095, { source := false, size := 0, limit := 5 }, by decide +kernel⟩

theorem witness_MvbTrafficStore_4 : ∃ (s : State) (n : Nat) (a : Nat) (fcode : Nat) (p : MvbPort) (l : MvbLines), Up s ∧ n < 2 ∧ a < 4096 ∧ fcode ≤ 4 ∧ (mvbSt s.dev n).role = .slave ∧ MvbLinesGood n s l ∧ lookup? (mvbCfg s.dev.cfg n).ports a = some p ∧ p.source = true ∧ p.size = fcode ∧ (mvbEntry s.dev n a).mark = false ∧ isOwner s.dev = true ∧ s.dev.gw.pages = [] :=
  ⟨up { mvb := [(1, { role := .slave, entries := [(4095, { page0 := [7, 8], page1 := [1, 2] })] })], cfg := { mvb := [(1, { ports := [(4095, { source := true, size := 0 })] })] } }, 1, 4095, 0, { source := true, size := 0 }, {}, by decide +kernel⟩

theorem witness_MvbTrafficStore_5 : ∃ (s : State) (n : Nat) (l : MvbLines), Up s ∧ n < 2 ∧ (mvbCfg s.dev.cfg n).devAddr < 4096 ∧ (mvbSt s.dev n).role = .slave ∧ MvbLinesGood n s l :=
  ⟨up { mvb := [(1, { role := .slave })], cfg := { mvb := [(1, { devAddr := 4095 })] } }, 1, {}, by decide +kernel⟩

theorem witness_MvbAdministration_0 : ∃ (s : State) (n : Nat), Up s ∧ n < 2 ∧ (mvbSt s.dev n).role = .master ∧ (mvbSt s.dev n).devices = [] ∧ (mvbCfg s.dev.cfg n).known = [] ∧ (∀ p ∈ (mvbCfg s.dev.cfg n).periodic, answersPoll s.dev n p.addr p.size = false) :=
  ⟨up { mvb := [(1, { role := .master, period := 255 })], cfg := { mvb := [(1, { periodic := [{ addr := 9, every := 2, first := 1, size := 0 }, { addr := 10, every := 2, size := 0 }] })] } }, 1, by and_intros <;> first | decide +kernel | rfl | (intros; rfl) | (intros; intro h; cases h; done) | (intros; exact ⟨rfl, rfl⟩) | (intro i h; cases h; decide)⟩

theorem witness_MvbAdministration_1 : ∃ (s : State) (n : Nat) (a : Nat), Up s ∧ n < 2 ∧ a < 4096 ∧ (mvbSt s.dev n).role = .master ∧ a ∈ (mvbSt s.dev n).waiting :=
  ⟨up { mvb := [(1, { role := .master, waiting := [4095, 3] })] }, 1, 4095, by decide +kernel⟩

theorem witness_MvbAdministration_2 : ∃ (s : State) (n : Nat), Up s ∧ n < 2 ∧ (mvbSt s.dev n).role = .master ∧ GwQuiet s :=
  ⟨up { mvb := [(1, { role := .master })] }, 1, by decide +kernel⟩

theorem witness_MvbAdministration_3 : ∃ (s : State) (n : Nat), Up s ∧ n < 2 ∧ (mvbSt s.dev n).role = .standby ∧ GwQuiet s ∧ (mvbSt s.dev n).lastFrame + ((mvbCfg s.dev.cfg n).silenceMs + (mvbCfg s.dev.cfg n).baRank) * 1000000000 ≤ s.dev.now :=
  ⟨up { now := 4000000000, mvb := [(1, { role := .standby })] }, 1, by decide +kernel⟩

theorem witness_MvbAdministration_4 : ∃ (s : State) (n : Nat), Up s ∧ n < 2 ∧ s.dev.now < (mvbSt s.dev n).lastFrame + ((mvbCfg s.dev.cfg n).silenceMs + (mvbCfg s.dev.cfg n).baRank) * 1000000000 :=
  ⟨up { now := 3999999999, mvb := [(1, { role := .standby })] }, 1, by decide +kernel⟩

theorem witness_MvbAdministration_5 : ∃ (s : State) (n : Nat) (a : Nat), Up s ∧ n < 2 ∧ (mvbSt s.dev n).role = .master ∧ (mvbCfg s.dev.cfg n).turn ≠ 0 ∧ (mvbCfg s.dev.cfg n).turn ≤ (mvbSt s.dev n).macros ∧ nextAdmin (mvbCfg s.dev.cfg n) = some a ∧ GwQuiet s :=
  ⟨up { mvb := [(1, { role := .master, macros := 2 })], cfg := { mvb := [(1, { turn := 2, admins := [1, 6] })] } }, 1, 6, by decide +kernel⟩

theorem witness_MvbAdministration_6 : ∃ (s : State) (n : Nat), Up s ∧ n < 2 ∧ (mvbSt s.dev n).role = .standby ∧ GwQuiet s :=
  ⟨up { mvb := [(1, { role := .standby })] }, 1, by decide +kernel⟩

theorem witness_MvbAdministration_7 : ∃ (s : State) (n : Nat), Up s ∧ n < 2 ∧ (mvbSt s.dev n).role = .slave :=
  ⟨up { mvb := [(1, { role := .slave })] }, 1, by decide +kernel⟩

theorem witness_MvbAdministration_8 : ∃ (s : State) (n : Nat) (a : Nat), Up s ∧ n < 2 ∧ a < 4096 ∧ (mvbSt s.dev n).role = .master ∧ lookup? (mvbSt s.dev n).devices a = none ∧ GwQuiet s :=
  ⟨up { mvb := [(1, { role := .master })] }, 1, 4095, by decide +kernel⟩

theorem witness_MvbAdministration_9 : ∃ (s : State) (n : Nat) (a : Nat) (k : Nat), Up s ∧ n < 2 ∧ a < 4096 ∧ (mvbSt s.dev n).role = .master ∧ lookup? (mvbSt s.dev n).devices a = some k ∧ (mvbCfg s.dev.cfg n).devLoss ≤ k + 1 ∧ GwQuiet s :=
  ⟨up { mvb := [(1, { role := .master, devices := [(4095, 2)] })] }, 1, 4095, 2, by decide +kernel⟩

theorem witness_GatewayMessages_0 : ∃ (s : State), Up s ∧ s.dev.cfg.gw.loaded = true ∧ s.dev.buf.spillReady = true ∧ s.dev.gw.running = false ∧ s.dev.gw.held = [] :=
  ⟨up { cfg := { gw := { loaded := true } }, buf := { spillReady := true } }, by decide +kernel⟩

theorem witness_GatewayMessages_1 : ∃ (s : State), Up s ∧ s.dev.gw.running = true :=
  ⟨up { gw := { running := true } }, by decide +kernel⟩

theorem witness_GatewayMessages_2 : ∃ (s : State) (p : Nat) (c : Copy) (d1 : Device) (f : Frame) (x : Bytes), Up s ∧ 26 ≤ p ∧ p < 36 ∧ s.dev.gw.stopped = false ∧ s.dev.gw.running = true ∧ popPort p classOrder s.dev = (some c, d1) ∧ frameOf d1 c.frame = some f ∧ (parse d1.cfg.fwd.userTypes (copyBytes d1 f c)).etherType = 0x88B6 ∧ x = (copyBytes d1 f c).drop (parse d1.cfg.fwd.userTypes (copyBytes d1 f c)).payOff ∧ byteAt x 0 = 16 ∧ beAt x 20 2 = 0 :=
  ⟨tGwS, 35, { frame := 1 }, tGwD, tGwF, (copyBytes tGwD tGwF { frame := 1 }).drop (parse tGwD.cfg.fwd.userTypes (copyBytes tGwD tGwF { frame := 1 })).payOff, by decide +kernel⟩

theorem witness_GatewayMessages_3 : ∃ (s : State) (p : Nat), Up s ∧ 26 ≤ p ∧ p < 36 ∧ s.dev.gw.stopped = true :=
  ⟨up { gw := { stopped := true } }, 26, by decide +kernel⟩

theorem witness_GatewayMessages_4 : ∃ (s : State) (p : Nat) (ingress : Nat) (t : Telegram) (r : GwRoute) (o : GwOutput), Up s ∧ p < 38 ∧ ingress < 38 ∧ s.dev.gw.running = true ∧ s.dev.gw.stopped = false ∧ t.formOk = true ∧ t.topo = 0 ∧ (routesFor s.dev.cfg ingress .trdp 0 t.comId.toNat).filter (outputHere s.dev.cfg p) = [r] ∧ lookup? s.dev.cfg.gw.outputs r.output = some o ∧ acceptsSeq (gwOut s.dev r.output) t.srcIp.toNat t.counter s.dev.now = true ∧ r.sigCount = 0 ∧ t.payload.length ≤ o.len ∧ t.payload.length ≤ formatMax o ∧ o.onUpdate = false ∧ o.onChange = false :=
  ⟨up { now := 6, gw := { running := true }, cfg := { gw := { routes := [tRoute], outputs := [(5, tOut)] } } }, 35, 37, { srcIp := 7, comId := 100, counter := 0, payload := [1, 2, 3, 4] }, tRoute, tOut, by decide +kernel⟩

theorem witness_GatewayMessages_5 : ∃ (s : State) (p : Nat) (ingress : Nat) (t : Telegram) (r : GwRoute), Up s ∧ p < 38 ∧ ingress < 38 ∧ s.dev.gw.running = true ∧ s.dev.gw.stopped = false ∧ t.formOk = true ∧ t.topo = 0 ∧ (routesFor s.dev.cfg ingress .trdp 0 t.comId.toNat).filter (outputHere s.dev.cfg p) = [r] ∧ acceptsSeq (gwOut s.dev r.output) t.srcIp.toNat t.counter s.dev.now = false :=
  ⟨up { gw := { running := true, outs := [(5, { fed := true, last := [(7, (3, 0))] })] }, cfg := { gw := { routes := [tRoute], outputs := [(5, tOut)] } } }, 35, 37, { srcIp := 7, comId := 100, counter := 3, payload := [1, 2, 3, 4] }, tRoute, by decide +kernel⟩

theorem witness_GatewayMessages_6 : ∃ (s : State) (p : Nat) (ingress : Nat) (stream : BitVec 64) (i : Nat) (m : AcfMsg) (r : GwRoute) (o : GwOutput), Up s ∧ p < 38 ∧ ingress < 38 ∧ s.dev.gw.running = true ∧ s.dev.gw.stopped = false ∧ s.dev.cfg.gw.streams.find? (fun x => decide (x.2 = stream)) = some (i, stream) ∧ (routesFor s.dev.cfg ingress .acf (m.busId % 32 * 256 + i) (acfIdent m)).filter (outputHere s.dev.cfg p) = [r] ∧ lookup? s.dev.cfg.gw.outputs r.output = some o ∧ r.sigCount = 0 ∧ m.payload.length ≤ o.len ∧ m.payload.length ≤ formatMax o ∧ o.onUpdate = false ∧ o.onChange = false :=
  ⟨up { gw := { running := true }, cfg := { gw := { streams := [(3, 77)], routes := [tAcfRoute], outputs := [(5, tOut)] } } }, 35, 37, 77, 3, { busId := 31, ident := 9, payload := [1, 2] }, tAcfRoute, tOut, by decide +kernel⟩

theorem witness_GatewayMessages_7 : ∃ (s : State) (p : Nat) (ingress : Nat) (stream : BitVec 64), Up s ∧ p < 38 ∧ ingress < 38 ∧ s.dev.gw.running = true ∧ s.dev.gw.stopped = false ∧ s.dev.cfg.gw.streams.find? (fun x => decide (x.2 = stream)) = none :=
  ⟨up { gw := { running := true } }, 35, 37, 0, by decide +kernel⟩

theorem witness_GatewayMessages_8 : ∃ (s : State) (n : Nat) (o : GwOutput), Up s ∧ lookup? s.dev.cfg.gw.outputs n = some o ∧ o.cyclic = true ∧ 0 < o.periodMs ∧ o.eth = false ∧ (gwOut s.dev n).cycled + o.periodMs * 1000000000 ≤ s.dev.now ∧ (gwOut s.dev n).emitted = none ∧ gwEmits s.dev = true ∧ o.dstPort ≠ ownSource s.dev.cfg n o ∧ s.dev.gw.queue = [] ∧ (allotOf s.dev (gwAllot s.dev (ownSource s.dev.cfg n o))).exhausted = true :=
  ⟨up { now := 5000000000, gw := { running := true }, cfg := { gw := { routes := [{ tRoute with src := some 34 }], outputs := [(5, { tOut with cyclic := true, periodMs := 5 })] } }, buf := { allots := [(gwAllot (up {}).dev 34, { exhausted := true })] } }, 5, { tOut with cyclic := true, periodMs := 5 }, by decide +kernel⟩

theorem witness_GatewayMessages_9 : ∃ (s : State) (n : Nat) (o : GwOutput), Up s ∧ lookup? s.dev.cfg.gw.outputs n = some o ∧ s.dev.now < (gwOut s.dev n).cycled + o.periodMs * 1000000000 :=
  ⟨up { now := 4999999999, cfg := { gw := { outputs := [(5, { tOut with cyclic := true, periodMs := 5 })] } } }, 5, { tOut with cyclic := true, periodMs := 5 }, by decide +kernel⟩

theorem witness_GatewayMessages_10 : ∃ (s : State) (n : Nat) (o : GwOutput), Up s ∧ lookup? s.dev.cfg.gw.outputs n = some o ∧ o.timeoutMs ≠ 0 ∧ (gwOut s.dev n).heard + o.timeoutMs * 1000000000 ≤ s.dev.now ∧ (gwOut s.dev n).stale = false ∧ s.dev.gw.running = true ∧ s.dev.gw.stopped = false ∧ isOwner s.dev = false ∧ s.dev.cfg.gw.routes = [] :=
  ⟨up { now := 5000000000, gw := { running := true }, pair := { role := .standbyReady }, cfg := { gw := { outputs := [(5, { tOut with timeoutMs := 5 })] } } }, 5, { tOut with timeoutMs := 5 }, by decide +kernel⟩

theorem witness_GatewayMessages_11 : ∃ (s : State) (n : Nat) (k : Nat) (t : Nat) (m : GwMsg), Up s ∧ (waitList s.dev n)[k]? = some m ∧ m.deadline = some t ∧ t ≤ s.dev.now ∧ m.origin = .route :=
  ⟨up { now := 9, gw := { waits := [(2, [{ output := 5 }, { output := 6, deadline := some 9 }])] } }, 2, 1, 9, { output := 6, deadline := some 9 }, by decide +kernel⟩

theorem witness_GatewayMessages_12 : ∃ (s : State) (n : Nat) (a : Nat) (t : Nat) (m : GwMsg), Up s ∧ s.dev.gw.pages = [(n * 4096 + a, m)] ∧ m.deadline = some t ∧ t ≤ s.dev.now ∧ m.origin = .route :=
  ⟨up { now := 9, gw := { pages := [(8191, { output := 6, deadline := some 9 })] } }, 1, 4095, 9, { output := 6, deadline := some 9 }, by decide +kernel⟩

theorem witness_GatewayMessages_13 : ∃ (s : State) (n : Nat) (v : Word) (rest : List Word), Up s ∧ (gwOut s.dev n).mirrors = v :: rest ∧ (gwOut s.dev n).held = false ∧ s.dev.gw.sends = [] :=
  ⟨up { gw := { outs := [(5, { mirrors := [77, 78] })] } }, 5, 77, [78], by decide +kernel⟩

theorem witness_GatewayMessages_14 : ∃ (s : State) (n : Nat), Up s ∧ (gwOut s.dev n).mirrors = [] ∧ s.dev.gw.sends = [] :=
  ⟨up {}, 5, by decide +kernel⟩

theorem witness_EquinoxTokens_0 : ∃ (s : State) (dest : BitVec 12), Up s ∧ isOrigin s.dev = true ∧ isReady s.dev = true ∧ s.dev.ssn.pass = none ∧ s.dev.ssn.roundEnd = none ∧ s.dev.ssn.consent = none ∧ configBusy s.dev = false ∧ s.dev.ssn.fallback = false ∧ s.dev.ssn.season = .summer ∧ s.dev.ssn.leaving = none ∧ nextInRing s.dev (ownId s.dev) = some dest ∧ dest ≠ ownId s.dev :=
  ⟨up { glb := { deviceId := some 1 }, top := tRing, ssn := { sleepReady := true, round := 65535 } }, 2, by and_intros <;> first | decide +kernel | exact eqx_signed rfl rfl rfl rfl rfl | rfl⟩

theorem witness_EquinoxTokens_1 : ∃ (s : State), Up s ∧ isReady s.dev = false :=
  ⟨up {}, by and_intros <;> first | decide +kernel | exact eqx_signed rfl rfl rfl rfl rfl | rfl⟩

theorem witness_EquinoxTokens_2 : ∃ (s : State) (f : EqxFrame) (dest : BitVec 12), Up s ∧ s.dev.glb.deviceId.isSome = true ∧ eqxGood .consent f s.dev = true ∧ s.dev.glb.deviceId ≠ some f.origin ∧ f.fallback = false ∧ refusal (nsOf (addMs (localSecNs s.dev) s.dev.ssn.params.commitDelayMs)) s.dev = none ∧ nextInRing s.dev (ownId s.dev) = some dest ∧ dest ≠ ownId s.dev :=
  ⟨up (keyed { glb := { deviceId := some 2 }, top := tRing, tim := { mode := .locked }, ssn := { sleepReady := true } }), eqxSigned (keyed {}) .consent tEqx, 3, by and_intros <;> first | decide +kernel | exact eqx_signed rfl rfl rfl rfl rfl | rfl⟩

theorem witness_EquinoxTokens_3 : ∃ (s : State) (f : EqxFrame) (r : BitVec 16), Up s ∧ s.dev.glb.deviceId.isSome = true ∧ eqxGood .consent f s.dev = true ∧ s.dev.glb.deviceId ≠ some f.origin ∧ f.fallback = false ∧ refusal (nsOf (addMs (localSecNs s.dev) s.dev.ssn.params.commitDelayMs)) s.dev = some r :=
  ⟨up (keyed { glb := { deviceId := some 2 }, top := tRing }), eqxSigned (keyed {}) .consent tEqx, 0x0D20, by and_intros <;> first | decide +kernel | exact eqx_signed rfl rfl rfl rfl rfl | rfl⟩

theorem witness_EquinoxTokens_4 : ∃ (s : State) (f : EqxFrame) (dest : BitVec 12), Up s ∧ s.dev.glb.deviceId.isSome = true ∧ eqxGood .commit f s.dev = true ∧ s.dev.glb.deviceId ≠ some f.origin ∧ f.fallback = false ∧ s.dev.ssn.consent.isSome = true ∧ s.dev.ssn.round = f.round ∧ nextInRing s.dev (ownId s.dev) = some dest ∧ dest ≠ ownId s.dev :=
  ⟨up (keyed { glb := { deviceId := some 3 }, top := tRing, ssn := { consent := some 0, round := 9 } }), eqxSigned (keyed {}) .commit { tEqx with commitSec := 7 }, 1, by and_intros <;> first | decide +kernel | exact eqx_signed rfl rfl rfl rfl rfl | rfl⟩

theorem witness_EquinoxTokens_5 : ∃ (s : State) (f : EqxFrame) (t : Nat), Up s ∧ s.dev.glb.deviceId.isSome = true ∧ eqxGood .commit f s.dev = true ∧ s.dev.glb.deviceId = some f.origin ∧ f.fallback = false ∧ s.dev.ssn.pass = some (t, true) ∧ f.round = s.dev.ssn.round :=
  ⟨up (keyed { now := 8, glb := { deviceId := some 1 }, top := tRing, ssn := { pass := some (3, true), round := 9, commit := some (4, 5) } }), eqxSigned (keyed {}) .commit tEqx, 3, by and_intros <;> first | decide +kernel | exact eqx_signed rfl rfl rfl rfl rfl | rfl⟩

theorem witness_EquinoxTokens_6 : ∃ (s : State) (f : EqxFrame) (w : EqxWait), Up s ∧ s.dev.glb.deviceId.isSome = true ∧ eqxGood .ack f s.dev = true ∧ f.fallback = false ∧ s.dev.ssn.wait = some w ∧ w.target = f.sender ∧ w.frame.round = f.round :=
  ⟨up (keyed { glb := { deviceId := some 2 }, top := tRing, ssn := { wait := some { type_ := .consent, frame := tEqx, target := 3, sentAt := 0 } } }), eqxSigned (keyed {}) .ack { tEqx with sender := 3 }, { type_ := .consent, frame := tEqx, target := 3, sentAt := 0 }, by and_intros <;> first | decide +kernel | exact eqx_signed rfl rfl rfl rfl rfl | rfl⟩

theorem witness_EquinoxTokens_7 : ∃ (s : State) (f : EqxFrame), Up s ∧ s.dev.glb.deviceId.isSome = true ∧ f.topo = s.dev.top.count :=
  ⟨up { glb := { deviceId := some 2 }, top := tRing, ssn := { consent := some 0, round := 9 } }, { tEqx with version := 2 }, by and_intros <;> first | decide +kernel | exact eqx_signed rfl rfl rfl rfl rfl | rfl⟩

theorem witness_EquinoxEnds_0 : ∃ (s : State) (f : EqxFrame), Up s ∧ s.dev.glb.deviceId.isSome = true ∧ eqxGood .refuse f s.dev = true ∧ f.fallback = false ∧ s.dev.ssn.pass.isSome = true ∧ f.round = s.dev.ssn.round ∧ f.reason ≠ 0x0D21 :=
  ⟨up (keyed { glb := { deviceId := some 1, stopAccept := true }, top := tRing, ssn := { pass := some (0, false), consent := some 0, round := 9 } }), eqxSigned (keyed {}) .refuse { tEqx with reason := 0x0D20 }, by and_intros <;> first | decide +kernel | exact eqx_signed rfl rfl rfl rfl rfl | rfl⟩

theorem witness_EquinoxEnds_1 : ∃ (s : State) (f : EqxFrame), Up s ∧ s.dev.glb.deviceId.isSome = true ∧ eqxGood .abort f s.dev = true ∧ f.fallback = false ∧ s.dev.ssn.fallback = false ∧ s.dev.ssn.consent.isSome = true ∧ f.round = s.dev.ssn.round ∧ pastCommit s.dev = false :=
  ⟨up (keyed { glb := { deviceId := some 2, stopAccept := true }, top := tRing, ssn := { consent := some 0, round := 9, commit := some (4, 5) } }), eqxSigned (keyed {}) .abort { tEqx with reason := 0x0D20 }, by and_intros <;> first | decide +kernel | exact eqx_signed rfl rfl rfl rfl rfl | rfl⟩

theorem witness_EquinoxEnds_2 : ∃ (s : State) (f : EqxFrame), Up s ∧ s.dev.glb.deviceId.isSome = true ∧ eqxGood .veto f s.dev = true ∧ f.fallback = false ∧ s.dev.ssn.fallback = false ∧ s.dev.ssn.consent.isSome = true ∧ f.round = s.dev.ssn.round ∧ pastCommit s.dev = false :=
  ⟨up (keyed { glb := { deviceId := some 2, stopAccept := true }, top := tRing, ssn := { consent := some 0, round := 9, commit := some (4, 5) } }), eqxSigned (keyed {}) .veto { tEqx with reason := 0x0D20 }, by and_intros <;> first | decide +kernel | exact eqx_signed rfl rfl rfl rfl rfl | rfl⟩

theorem witness_EquinoxEnds_3 : ∃ (s : State) (f : EqxFrame), Up s ∧ s.dev.glb.deviceId.isSome = true ∧ eqxGood .keepalive f s.dev = true ∧ s.dev.ssn.leaving = none :=
  ⟨up (keyed { now := 7, glb := { deviceId := some 2, stopAccept := true }, top := tRing, ssn := { consent := some 0 } }), eqxSigned (keyed {}) .keepalive tEqx, by and_intros <;> first | decide +kernel | exact eqx_signed rfl rfl rfl rfl rfl | rfl⟩

theorem witness_EquinoxEnds_4 : ∃ (s : State) (w : EqxWait), Up s ∧ s.dev.ssn.wait = some w ∧ w.sentAt + msPs s.dev.ssn.params.hopMs ≤ s.dev.now ∧ w.resent = false :=
  ⟨up { now := 2000000000, glb := { deviceId := some 2 }, top := tRing, ssn := { wait := some { type_ := .consent, frame := tEqx, target := 3, sentAt := 0 } } }, { type_ := .consent, frame := tEqx, target := 3, sentAt := 0 }, by and_intros <;> first | decide +kernel | exact eqx_signed rfl rfl rfl rfl rfl | rfl⟩

theorem witness_EquinoxEnds_5 : ∃ (s : State) (w : EqxWait), Up s ∧ s.dev.ssn.wait = some w ∧ s.dev.now < w.sentAt + msPs s.dev.ssn.params.hopMs :=
  ⟨up { now := 1999999999, ssn := { wait := some { type_ := .consent, frame := tEqx, target := 3, sentAt := 0 } } }, { type_ := .consent, frame := tEqx, target := 3, sentAt := 0 }, by and_intros <;> first | decide +kernel | exact eqx_signed rfl rfl rfl rfl rfl | rfl⟩

theorem witness_EquinoxEnds_6 : ∃ (s : State) (t : Nat) (b : Bool), Up s ∧ s.dev.ssn.pass = some (t, b) ∧ t + msPs s.dev.ssn.params.tokenMs ≤ s.dev.now ∧ s.dev.ssn.lostRuns = 0 :=
  ⟨up { now := 100000000000, glb := { deviceId := some 1 }, top := tRing, ssn := { pass := some (0, true), consent := some 0 } }, 0, true, by and_intros <;> first | decide +kernel | exact eqx_signed rfl rfl rfl rfl rfl | rfl⟩

theorem witness_EquinoxEnds_7 : ∃ (s : State) (r : EqxRepeat), Up s ∧ s.dev.ssn.again = some r ∧ r.due ≤ s.dev.now :=
  ⟨up { now := 4, glb := { deviceId := some 1 }, top := tRing, ssn := { again := some { frame := tEqx, left := 2, due := 4 } } }, { frame := tEqx, left := 2, due := 4 }, by and_intros <;> first | decide +kernel | exact eqx_signed rfl rfl rfl rfl rfl | rfl⟩

theorem witness_EquinoxEnds_8 : ∃ (s : State) (t : Nat), Up s ∧ s.dev.ssn.consent = some t ∧ s.dev.ssn.commit = none ∧ t + 2 * msPs s.dev.ssn.params.tokenMs ≤ s.dev.now ∧ s.dev.ssn.fallback = false ∧ s.dev.ssn.pass = none ∧ s.dev.ssn.leaving = none :=
  ⟨up { now := 200000000000, glb := { stopAccept := true }, ssn := { consent := some 0 } }, 0, by and_intros <;> first | decide +kernel | exact eqx_signed rfl rfl rfl rfl rfl | rfl⟩

theorem witness_EquinoxEnds_9 : ∃ (s : State), Up s ∧ s.dev.ssn.fallback = true ∧ s.dev.glb.deviceId.isSome = true ∧ s.dev.ssn.kaSent + msPs s.dev.ssn.params.kaPeriodMs ≤ s.dev.now ∧ isReady s.dev = false :=
  ⟨up { now := 250000000000, glb := { deviceId := some 2 }, top := tRing, ssn := { fallback := true } }, by decide +kernel⟩

theorem witness_EquinoxEnds_10 : ∃ (s : State), Up s ∧ s.dev.ssn.fallback = false :=
  ⟨up {}, by decide +kernel⟩

theorem witness_GoingToSleep_0 : ∃ (s : State) (c : Nat × Nat), Up s ∧ s.dev.ssn.commit = some c ∧ s.dev.ssn.consent.isSome = true ∧ nsOf c ≤ localNs s.dev + 60000000 :=
  ⟨up { ssn := { commit := some (0, 60000000), consent := some 0 } }, (0, 60000000), by decide +kernel⟩

theorem witness_GoingToSleep_1 : ∃ (s : State) (c : Nat × Nat), Up s ∧ BusesOff s ∧ s.dev.ssn.commit = some c ∧ s.dev.ssn.season = .summer ∧ s.dev.ssn.leaving = none ∧ s.dev.ssn.consent.isSome = true ∧ nsOf c ≤ localNs s.dev :=
  ⟨up { tim := { sec := 3 }, ssn := { commit := some (3, 0), consent := some 0 } }, (3, 0), by and_intros <;> first | decide +kernel | rfl | (intros; rfl) | (intros; intro h; cases h; done) | (intros; exact ⟨rfl, rfl⟩) | (intro i h; cases h; decide)⟩

theorem witness_GoingToSleep_2 : ∃ (s : State) (c : Nat × Nat), Up s ∧ s.dev.ssn.commit = some c ∧ localNs s.dev < nsOf c :=
  ⟨up { tim := { sec := 3 }, ssn := { commit := some (3, 1) } }, (3, 1), by decide +kernel⟩

theorem witness_GoingToSleep_3 : ∃ (s : State) (t : Nat), Up s ∧ BusesOff s ∧ s.dev.ssn.consent = some t ∧ s.dev.ssn.fallback = true ∧ s.dev.glb.deviceId.isSome = true ∧ s.dev.ssn.season = .summer ∧ s.dev.ssn.leaving = none ∧ isReady s.dev = true ∧ max t s.dev.ssn.lastKa + msPs s.dev.ssn.params.kaSilenceMs ≤ s.dev.now :=
  ⟨up { now := 2000000000000, glb := { deviceId := some 1 }, ssn := { consent := some 0, fallback := true, sleepReady := true } }, 0, by and_intros <;> first | decide +kernel | rfl | (intros; rfl) | (intros; intro h; cases h; done) | (intros; exact ⟨rfl, rfl⟩) | (intro i h; cases h; decide)⟩

theorem witness_GoingToSleep_4 : ∃ (s : State), Up s ∧ s.dev.ssn.fallback = false :=
  ⟨up {}, by decide +kernel⟩

theorem witness_GoingToSleep_5 : ∃ (s : State), Up s ∧ BusesOff s ∧ s.dev.ssn.params.idleReturn = true ∧ s.dev.ssn.leaving = none ∧ s.dev.ssn.lastForward + s.dev.ssn.params.idleS * 1000000000000 ≤ s.dev.now :=
  ⟨up { now := 5000000000000, ssn := { params := { idleReturn := true } } }, by and_intros <;> first | decide +kernel | rfl | (intros; rfl) | (intros; intro h; cases h; done) | (intros; exact ⟨rfl, rfl⟩) | (intro i h; cases h; decide)⟩

theorem witness_GoingToSleep_6 : ∃ (s : State), Up s ∧ s.dev.ssn.params.idleReturn = false :=
  ⟨up {}, by decide +kernel⟩

theorem witness_GoingToSleep_7 : ∃ (s : State) (t : Nat) (n : Nat), s.dev.ssn.leaving = some t ∧ topRail s.dev = some n ∧ 0 < n ∧ n < 3 ∧ t + (5 - n) * (s.dev.ssn.params.pwrStepUs * 1000000) ≤ s.dev.now :=
  ⟨st { now := 1500000000, ssn := { season := .summer, leaving := some 0, pwrEn := 7 } }, 0, 2, by decide +kernel⟩

theorem witness_GoingToSleep_8 : ∃ (s : State) (t : Nat), s.dev.ssn.leaving = some t ∧ topRail s.dev = some 0 ∧ s.dev.ssn.wakeLatched = false ∧ t + 5 * (s.dev.ssn.params.pwrStepUs * 1000000) ≤ s.dev.now :=
  ⟨st { now := 2500000000, ssn := { season := .summer, leaving := some 0, pwrEn := 1, consent := some 0 }, ports := [(3, {})] }, 0, by decide +kernel⟩

theorem witness_GoingToSleep_9 : ∃ (s : State), s.dev.ssn.leaving = none :=
  ⟨up {}, by decide +kernel⟩

theorem witness_GoingToSleep_11 : ∃ (s : State), s.dev.ssn.season = .winter :=
  ⟨st { ssn := { season := .winter } }, by decide +kernel⟩

theorem witness_GoingToSleep_12 : ∃ (s : State), s.dev.ssn.season ≠ .winter :=
  ⟨up {}, by decide +kernel⟩

theorem witness_WakeAndSpring_0 : ∃ (s : State) (t : Nat), s.dev.ssn.wakeHold = some t ∧ t ≤ s.dev.now :=
  ⟨up { now := 5, ssn := { wakeHold := some 5 } }, 5, by decide +kernel⟩

theorem witness_WakeAndSpring_1 : ∃ (s : State) (t : Nat), s.dev.ssn.wakeHold = some t ∧ s.dev.now < t :=
  ⟨up { now := 4, ssn := { wakeHold := some 5 } }, 5, by decide +kernel⟩

theorem witness_WakeAndSpring_2 : ∃ (s : State), s.dev.ssn.season = .autumn :=
  ⟨st { ssn := { season := .autumn, sleepReady := true } }, by decide +kernel⟩

theorem witness_WakeAndSpring_4 : ∃ (s : State), s.dev.ssn.season = .autumn ∧ s.dev.ssn.params.alarm = some s.dev.keeper.timeSec.toNat :=
  ⟨st { ssn := { season := .autumn, params := { alarm := some 9 } }, keeper := { timeSec := 9 } }, by decide +kernel⟩

theorem witness_WakeAndSpring_5 : ∃ (s : State), s.dev.ssn.params.alarm = none :=
  ⟨up {}, by decide +kernel⟩

theorem witness_WakeAndSpring_6 : ∃ (s : State) (t : Nat), s.dev.ssn.wakeOut = some t ∧ t ≤ s.dev.now :=
  ⟨up { now := 5, ssn := { wakeOut := some 5 } }, 5, by decide +kernel⟩

theorem witness_WakeAndSpring_7 : ∃ (s : State) (n : Nat), lowRail s.dev = some n ∧ s.dev.ssn.season = .spring ∧ n ≠ 0 ∧ (n = 2 → s.dev.boot.romDone = true) ∧ s.dev.ssn.powerUp + n * (s.dev.ssn.params.pwrStepUs * 1000000) ≤ s.dev.now :=
  ⟨st { now := 1000000000, ssn := { season := .spring, pwrEn := 3 }, boot := { romDone := true } }, 2, by decide +kernel⟩

theorem witness_WakeAndSpring_8 : ∃ (s : State), s.dev.ssn.season ≠ .spring :=
  ⟨up {}, by decide +kernel⟩

theorem witness_WakeAndSpring_9 : ∃ (s : State) (i : Image) (x : SpringImage), Up s ∧ starting s.dev = true ∧ s.dev.ssn.imageStaged = false ∧ s.dev.ssn.renioft = false ∧ (pointed (imageKind s.dev 2)).state = .good ∧ (pointed (imageKind s.dev 2)).image = some i ∧ checkImage 2 i s.dev = none ∧ i.content = .spring x ∧ admittedOk x = true ∧ x.keys = [] ∧ s.dev.boot.warm = true :=
  ⟨up { otp := tOtp, boot := { romDone := true, warm := true }, flash := [(2, { a := { state := .good, image := some (image 3 (.spring tSpring)) } })] }, image 3 (.spring tSpring), tSpring, by and_intros <;> first | decide +kernel | exact spring_admitted | rfl⟩

theorem witness_WakeAndSpring_10 : ∃ (s : State), Up s ∧ starting s.dev = true ∧ s.dev.ssn.imageStaged = false ∧ s.dev.ssn.renioft = false ∧ trialKind s.dev 2 = false :=
  ⟨up { boot := { romDone := true } }, by decide +kernel⟩

theorem witness_WakeAndSpring_11 : ∃ (s : State), Up s ∧ s.dev.ssn.imageStaged = true ∧ s.dev.ssn.springPaths = false ∧ trialKind s.dev 2 = false :=
  ⟨up { ssn := { imageStaged := true }, cfg := { ports := [(37, { configured := true, enabled := true })] } }, by decide +kernel⟩

theorem witness_WakeAndSpring_12 : ∃ (s : State), Up s ∧ s.dev.ssn.imageStaged = false :=
  ⟨up {}, by decide +kernel⟩

theorem witness_WakeAndSpring_13 : ∃ (s : State) (i : Image), Up s ∧ starting s.dev = true ∧ s.dev.ssn.renioft = false ∧ (pointed (imageKind s.dev 1)).image = some i ∧ (s.dev.sec.loadDue = false ∨ s.dev.msc.entropyDone = true) ∧ s.dev.ccr.split = false ∧ s.dev.boot.inReset = false ∧ (pointed (imageKind s.dev 3)).state ≠ .trial :=
  ⟨up { boot := { romDone := true }, sec := { loadDue := true }, msc := { entropyDone := true }, flash := [(1, { a := { state := .good, image := some (image 2 .opaqueCode) } })] }, image 2 .opaqueCode, by decide +kernel⟩

theorem witness_WakeAndSpring_14 : ∃ (s : State) (i : Image) (c : Cfg) (bs : List PortBound), Up s ∧ starting s.dev = true ∧ s.dev.ssn.renioft = true ∧ s.dev.ssn.blobDone = false ∧ s.dev.boot.saved = none ∧ (pointed (imageKind s.dev 4)).state = .good ∧ (pointed (imageKind s.dev 4)).image = some i ∧ checkImage 4 i s.dev = none ∧ i.content = .blob c ∧ prepare c false s.dev = .ok bs :=
  ⟨up { otp := tOtp, boot := { romDone := true }, ssn := { renioft := true }, flash := [(4, { a := { state := .good, image := some (blobImg) } })] }, blobImg, {}, [], by decide +kernel, rfl, rfl, rfl, rfl, by decide +kernel, rfl, blob_passes _ rfl, rfl, by decide +kernel⟩

theorem witness_WakeAndSpring_15 : ∃ (s : State), Up s ∧ s.dev.ssn.blobDone = true :=
  ⟨up { ssn := { blobDone := true } }, by decide +kernel⟩

theorem witness_WakeAndSpring_16 : ∃ (s : State), Up s ∧ s.dev.ssn.leaving = none ∧ s.dev.ssn.rebuilt = false ∧ s.dev.ssn.blobDone = true ∧ s.dev.fwl.spring = false ∧ s.dev.boot.warm = false :=
  ⟨up { ssn := { blobDone := true }, fwl := { spring := false } }, by decide +kernel⟩

theorem witness_WakeAndSpring_17 : ∃ (s : State), Up s ∧ s.dev.ssn.blobDone = false :=
  ⟨up {}, by decide +kernel⟩

theorem witness_LeaseAndRoles_0 : ∃ (s : State), Up s ∧ s.dev.pair.role = .active ∧ renioftRuns s.dev = true :=
  ⟨up { pair := { role := .active }, ssn := { renioft := true } }, by decide +kernel⟩

theorem witness_LeaseAndRoles_1 : ∃ (s : State), Up s ∧ s.dev.pair.role ≠ .active :=
  ⟨up {}, by decide +kernel⟩

theorem witness_LeaseAndRoles_2 : ∃ (s : State), Up s ∧ s.dev.pair.role = .active ∧ s.dev.pair.armed = true ∧ (∀ t, s.dev.pair.lastSent = some t → t + msPs 2 ≤ s.dev.now) ∧ ChannelRoom 1 s :=
  ⟨up { now := 3, pair := { role := .active, armed := true, wyUp := true, renewNo := 4294967295 } }, by and_intros <;> first | decide +kernel | rfl | (intros; rfl) | (intros; intro h; cases h; done) | (intros; exact ⟨rfl, rfl⟩) | (intro i h; cases h; decide)⟩

theorem witness_LeaseAndRoles_3 : ∃ (s : State) (t : Nat), Up s ∧ s.dev.pair.role = .active ∧ s.dev.pair.lastSent = some t ∧ t + msPs 8 ≤ s.dev.now ∧ s.dev.asd.journal = [] :=
  ⟨up { now := 8000000000, pair := { role := .active, lastSent := some 0 } }, 0, by decide +kernel⟩

theorem witness_LeaseAndRoles_4 : ∃ (s : State), Up s ∧ s.dev.pair.role ≠ .active :=
  ⟨up {}, by decide +kernel⟩

theorem witness_LeaseAndRoles_5 : ∃ (s : State), Up s ∧ s.dev.pair.role = .standbyReady :=
  ⟨up { now := 3, pair := { role := .standbyReady } }, by decide +kernel⟩

theorem witness_LeaseAndRoles_6 : ∃ (s : State) (m : Renewal), Up s ∧ s.dev.pair.role = .electing ∧ s.dev.pair.wyUp = true ∧ m.role = .active ∧ m.position ≠ position s.dev ∧ s.dev.pair.epoch.toNat < m.epoch.toNat :=
  ⟨up { now := 3, pair := { role := .electing, wyUp := true, epoch := 1, electEnd := some 9 } }, { position := true, id := 6, epoch := 2 }, by decide +kernel⟩

theorem witness_LeaseAndRoles_7 : ∃ (s : State) (m : Renewal), Up s ∧ s.dev.pair.role = .active ∧ s.dev.pair.wyUp = true ∧ m.role = .active ∧ m.position ≠ position s.dev ∧ s.dev.pair.epoch.toNat < m.epoch.toNat ∧ s.dev.asd.journal = [] :=
  ⟨up { now := 3, pair := { role := .active, wyUp := true, epoch := 1 }, asd := { replicating := true } }, { position := true, id := 6, epoch := 2 }, by decide +kernel⟩

theorem witness_LeaseAndRoles_8 : ∃ (s : State), Up s ∧ isStandby s.dev = true ∧ lastRenewal s.dev.pair + msPs 9 ≤ s.dev.now ∧ s.dev.cfg.gw.outputs = [] :=
  ⟨up { now := 9000000000, pair := { role := .standbyReady }, switching := some { sec := 1, ns := 0, cfg := {} } }, by decide +kernel⟩

theorem witness_LeaseAndRoles_9 : ∃ (s : State), Up s ∧ (s.dev.now < lastRenewal s.dev.pair + msPs 9 ∨ isStandby s.dev = false) :=
  ⟨up { now := 8999999999, pair := { role := .standbyReady } }, by decide +kernel⟩

theorem witness_LeaseAndRoles_10 : ∃ (s : State), Up s ∧ isStandby s.dev = true ∧ s.dev.cfg.gw.outputs = [] :=
  ⟨up { pair := { role := .standbySyncing } }, by decide +kernel⟩

theorem witness_LeaseAndRoles_11 : ∃ (s : State) (t : Nat), Up s ∧ s.dev.pair.role = .electing ∧ s.dev.pair.electEnd = some t ∧ t ≤ s.dev.now :=
  ⟨up { now := 4, pair := { role := .electing, electEnd := some 4 } }, 4, by decide +kernel⟩

theorem witness_LeaseAndRoles_12 : ∃ (s : State), Up s ∧ s.dev.pair.role = .active ∧ s.dev.pair.wyUp = false ∧ (∀ t, s.dev.pair.lastAlive = some t → t + 2500000000 ≤ s.dev.now) ∧ s.dev.asd.journal = [] :=
  ⟨up { now := 1000000000000, pair := { role := .active, partnerReady := true, pinUp := true }, asd := { replicating := true } }, by and_intros <;> first | decide +kernel | rfl | (intros; rfl) | (intros; intro h; cases h; done) | (intros; exact ⟨rfl, rfl⟩) | (intro i h; cases h; decide)⟩

theorem witness_LeaseAndRoles_13 : ∃ (s : State), Up s ∧ s.dev.pair.pinUp = true :=
  ⟨up { pair := { pinUp := true } }, by decide +kernel⟩

theorem witness_LeaseAndRoles_14 : ∃ (s : State), Up s ∧ s.dev.pair.wyUp = true :=
  ⟨up { pair := { wyUp := true, partnerReady := true, role := .active }, asd := { replicating := true } }, by decide +kernel⟩

theorem witness_LeaseAndRoles_15 : ∃ (s : State), Up s ∧ s.dev.pair.wyUp = true ∧ s.dev.pair.role = .standbySyncing :=
  ⟨up { pair := { role := .standbySyncing, wyUp := true } }, by decide +kernel⟩

theorem witness_LeaseAndRoles_16 : ∃ (s : State), Up s ∧ s.dev.pair.wyUp = true ∧ s.dev.pair.role = .active ∧ s.dev.ccr.mode ≠ .uncompared ∧ s.dev.flt.impaired = false :=
  ⟨up { now := 7, pair := { role := .active, wyUp := true } }, by decide +kernel⟩

theorem witness_LeaseAndRoles_17 : ∃ (s : State), Up s ∧ s.dev.pair.wyUp = true ∧ s.dev.pair.role = .active ∧ s.dev.ccr.mode ≠ .uncompared ∧ s.dev.flt.impaired = true ∧ s.dev.asd.journal = [] :=
  ⟨up { now := 7, pair := { role := .active, wyUp := true }, flt := { impaired := true } }, by decide +kernel⟩

theorem witness_LeaseAndRoles_18 : ∃ (s : State), Up s ∧ s.dev.pair.wyUp = false :=
  ⟨up {}, by decide +kernel⟩

theorem witness_LeaseAndRoles_19 : ∃ (s : State), Up s ∧ s.dev.pair.takeover = true :=
  ⟨up { pair := { takeover := true } }, by decide +kernel⟩

theorem witness_LeaseAndRoles_20 : ∃ (s : State) (t : Nat), Up s ∧ s.dev.pair.role = .active ∧ s.dev.pair.exchange = some t ∧ t ≤ s.dev.now ∧ s.dev.ncp.waitCommit = none ∧ s.dev.top.routeWait = none ∧ s.dev.asd.journal = [] :=
  ⟨up { now := 4, pair := { role := .active, exchange := some 4, partnerReady := true }, asd := { replicating := true } }, 4, by decide +kernel⟩

theorem witness_LeaseAndRoles_21 : ∃ (s : State), Up s ∧ isStandby s.dev = true :=
  ⟨up { pair := { role := .standbyReady } }, by decide +kernel⟩

theorem witness_LeaseAndRoles_22 : ∃ (s : State), Up s ∧ s.dev.pair.role = .active :=
  ⟨up { now := 4, pair := { role := .active } }, by decide +kernel⟩

theorem witness_WyusinAndCompare_0 : ∃ (s : State) (x : Segment), Up s ∧ x.formed = true ∧ x.lane < 4 ∧ s.dev.pair.wyUp = true ∧ x.header ≠ [] ∧ x.hcrcOk = true ∧ x.ack = none ∧ x.start = true ∧ x.last = false :=
  ⟨up { pair := { wyUp := true } }, { header := tHead 0x80, data := [1, 2], lane := 3 }, by decide +kernel⟩

theorem witness_WyusinAndCompare_1 : ∃ (s : State) (x : Segment) (r : WyRx), Up s ∧ x.formed = true ∧ x.lane < 4 ∧ s.dev.pair.wyUp = true ∧ x.header ≠ [] ∧ x.hcrcOk = true ∧ x.ack = none ∧ x.start = false ∧ x.last = false ∧ lookup? s.dev.pair.rx x.ch = some r ∧ r.busy = true :=
  ⟨up { pair := { wyUp := true, rx := [(7, { bytes := [1], busy := true, cseq := 5 })] } }, { header := tHead 0, data := [1, 2], lane := 3 }, { bytes := [1], busy := true, cseq := 5 }, by decide +kernel⟩

theorem witness_WyusinAndCompare_2 : ∃ (s : State) (x : Segment) (ch : Nat) (c : BitVec 16), Up s ∧ x.formed = true ∧ x.lane < 4 ∧ s.dev.pair.wyUp = true ∧ x.header = [] ∧ x.ack = some (ch, c) ∧ ch ≠ 0 ∧ (wyTx s.dev ch).waiting = [] :=
  ⟨up { pair := { wyUp := true }, wy := [(2, { cseq := 9, unacked := [(5, 300, .cpBusy), (8, 300, .cpBusy)] })] }, { header := [], ack := some (2, 6) }, 2, 6, by decide +kernel⟩

theorem witness_WyusinAndCompare_3 : ∃ (s : State) (x : Segment), Up s ∧ x.formed = true ∧ x.lane < 4 ∧ s.dev.pair.wyUp = false :=
  ⟨up {}, { header := tHead 0, data := [1, 2], lane := 3 }, by decide +kernel⟩

theorem witness_WyusinAndCompare_4 : ∃ (s : State) (tc : Nat), Up s ∧ tc < 8 ∧ s.dev.pair.wyUp = true :=
  ⟨up { pair := { wyUp := true } }, 7, by decide +kernel⟩

theorem witness_WyusinAndCompare_5 : ∃ (s : State), Up s ∧ ChannelRoom 7 s ∧ (wyTx s.dev 7).open_ + 12800 ≤ 65536 :=
  ⟨up { pair := { wyUp := true, got := [(7, 40)] }, buf := { allots := [(303, { used := 9 })] } }, by decide +kernel⟩

theorem witness_WyusinAndCompare_6 : ∃ (s : State), Up s ∧ s.dev.pair.wyUp = false :=
  ⟨up {}, by decide +kernel⟩

theorem witness_WyusinAndCompare_7 : ∃ (s : State), Up s ∧ s.dev.pair.role = .active ∧ windowNow s.dev ≠ s.dev.pair.window ∧ comparing s.dev = true ∧ s.dev.pair.partnerReady = true ∧ ChannelRoom 2 s ∧ (∀ r ∈ s.dev.pair.recs, r.fcrc.isSome = true) :=
  ⟨up { tim := { mode := .locked, ns := 100000 }, pair := { role := .active, wyUp := true, partnerReady := true, window := 6, recs := [{ frame := 1, handle := 2, seq := 3, epoch := 0, egress := [4], cls := .assured, discarded := false, fcrc := some 5 }] } }, by and_intros <;> first | decide +kernel | rfl | (intros; rfl) | (intros; intro h; cases h; done) | (intros; exact ⟨rfl, rfl⟩) | (intro i h; cases h; decide)⟩

theorem witness_WyusinAndCompare_8 : ∃ (s : State), Up s ∧ windowNow s.dev = s.dev.pair.window :=
  ⟨up { tim := { mode := .locked, ns := 100000 }, pair := { role := .active, window := 1 } }, by decide +kernel⟩

theorem witness_WyusinAndCompare_9 : ∃ (s : State), Up s ∧ s.dev.pair.role = .standbyReady ∧ s.dev.pair.suspended = false ∧ s.dev.pair.testing = false ∧ s.dev.pair.recs = [] :=
  ⟨up { pair := { role := .standbyReady } }, by decide +kernel⟩

theorem witness_WyusinAndCompare_10 : ∃ (s : State) (xa : BitVec 64), Up s ∧ s.dev.pair.role = .standbyReady ∧ s.dev.pair.suspended = false ∧ s.dev.pair.testing = false ∧ s.dev.pair.recs = [] ∧ ChannelRoom 2 s ∧ xa ≠ 0 :=
  ⟨up { pair := { role := .standbyReady, wyUp := true } }, 1, by decide +kernel⟩

theorem witness_WyusinAndCompare_11 : ∃ (s : State), Up s ∧ s.dev.pair.role = .active ∧ s.dev.pair.testing = false :=
  ⟨up { pair := { role := .active } }, by decide +kernel⟩

theorem witness_WyusinAndCompare_12 : ∃ (s : State), Up s ∧ s.dev.pair.role = .standbyReady :=
  ⟨up { pair := { role := .standbyReady } }, by decide +kernel⟩

theorem witness_WyusinAndCompare_13 : ∃ (s : State), Up s ∧ s.dev.pair.testing = true ∧ s.dev.pair.partnerVerdict = none ∧ s.dev.pair.ccrVerdict ≠ some false ∧ s.dev.pair.takeover = false ∧ ChannelRoom 2 s :=
  ⟨up { pair := { role := .active, testing := true, wyUp := true } }, by decide +kernel⟩

theorem witness_WyusinAndCompare_14 : ∃ (s : State), Up s ∧ s.dev.pair.testing = true ∧ s.dev.pair.ownVerdict = none :=
  ⟨up { pair := { testing := true } }, by decide +kernel⟩

theorem witness_WyusinAndCompare_15 : ∃ (s : State), Up s ∧ s.dev.pair.testing = true ∧ s.dev.pair.ownVerdict = some true ∧ s.dev.pair.role = .active ∧ s.dev.pair.takeover = false ∧ s.dev.pair.unresolved = [] ∧ 1 < s.dev.cfg.pair.mismatchLimit :=
  ⟨up { now := 4, pair := { role := .active, testing := true, ownVerdict := some true } }, by decide +kernel⟩

theorem witness_WyusinAndCompare_16 : ∃ (s : State) (c : Cfg) (bs : List PortBound), Up s ∧ isStandby s.dev = true ∧ ChannelRoom 5 s ∧ prepare c false s.dev = .ok bs :=
  ⟨up { pair := { role := .standbyReady, wyUp := true } }, {}, [], by decide +kernel⟩

theorem witness_WyusinAndCompare_17 : ∃ (s : State) (c : Cfg) (bs : List PortBound), Up s ∧ isStandby s.dev = true ∧ ChannelRoom 5 s ∧ prepare c true s.dev = .ok bs :=
  ⟨up { pair := { role := .standbyReady, wyUp := true } }, {}, [], by decide +kernel⟩

theorem witness_WyusinAndCompare_18 : ∃ (s : State) (c : Cfg) (x : Reject) (body : Bytes), Up s ∧ isStandby s.dev = true ∧ ChannelRoom 5 s ∧ prepare c false s.dev = .refused x body :=
  ⟨up { pair := { role := .standbyReady, wyUp := true } }, tBadCfg, tRej.1, tRej.2, by decide +kernel⟩

theorem witness_ControlComplex_0 : ∃ (s : State) (w : CloseBy) (main : List CcrTxn) (checker : List CcrTxn) (lag : Nat), Up s ∧ s.dev.ccr.mode = .compared ∧ s.dev.ccr.reloading = false ∧ windowOk w main = true ∧ checker.all txnOk = true ∧ checker.length ≤ 256 ∧ lag ≤ 4096 ∧ signature main = signature checker :=
  ⟨up { ccr := { fifo := [.regWrite 3 9], window := 4 } }, .time, [{ kind := 1, dest := 5, data := [1] }], [{ kind := 1, dest := 5, data := [1] }], 7, by decide +kernel⟩

theorem witness_ControlComplex_1 : ∃ (s : State) (w : CloseBy) (main : List CcrTxn) (checker : List CcrTxn) (lag : Nat), Up s ∧ s.dev.ccr.mode = .compared ∧ s.dev.ccr.reloading = false ∧ windowOk w main = true ∧ checker.all txnOk = true ∧ checker.length ≤ 256 ∧ lag ≤ 4096 ∧ signature main ≠ signature checker :=
  ⟨up { ccr := { window := 4 } }, .time, [{ kind := 1, dest := 5, data := [1] }], [{ kind := 1, dest := 5, data := [2] }], 0, by decide +kernel⟩

theorem witness_ControlComplex_2 : ∃ (s : State) (main : List CcrTxn), Up s ∧ main.all txnOk = true ∧ main.length ≤ 512 ∧ s.dev.ccr.mode = .compared ∧ s.dev.ccr.reloading = false :=
  ⟨up {}, [{ kind := 1, dest := 5, data := [1] }], by decide +kernel⟩

theorem witness_ControlComplex_3 : ∃ (s : State) (main : List CcrTxn), Up s ∧ main.all txnOk = true ∧ main.length ≤ 512 ∧ s.dev.ccr.mode ≠ .compared :=
  ⟨up { ccr := { mode := .uncompared } }, [], by decide +kernel⟩

theorem witness_ControlComplex_4 : ∃ (s : State) (main : List CcrTxn), Up s ∧ main.all txnOk = true ∧ main.length ≤ 512 ∧ s.dev.ccr.mode = .compared ∧ (ledgerOf s.dev 108).state = .inService :=
  ⟨up {}, [{ kind := 1, dest := 5, data := [1] }], by decide +kernel⟩

theorem witness_ControlComplex_5 : ∃ (s : State) (core1 : Bool) (main : List CcrTxn), Up s ∧ main.all txnOk = true ∧ main.length ≤ 512 ∧ (ledgerOf s.dev (tcmEntry core1)).times = [] ∧ 1 < (ledgerCfg s.dev (tcmEntry core1)).limit :=
  ⟨up {}, true, [], by decide +kernel⟩

theorem witness_ControlComplex_6 : ∃ (s : State), Up s ∧ s.dev.ccr.mode = .selfTest ∧ s.dev.ccr.ret1 = false ∧ s.dev.ccr.retCmp = false ∧ (ledgerOf s.dev 144).state = .inService ∧ s.dev.cfg.ccr.uncompHalt = false ∧ s.dev.pair.role = .unpaired :=
  ⟨up { ccr := { mode := .selfTest, held := [{ kind := 1, dest := 5, data := [1] }], shadow := [{ kind := 1, dest := 5, data := [2] }], cause := 1 } }, by decide +kernel⟩

theorem witness_ControlComplex_7 : ∃ (s : State), Up s ∧ s.dev.ccr.mode = .selfTest ∧ s.dev.ccr.ret0 = false ∧ s.dev.ccr.ret1 = false ∧ s.dev.ccr.retCmp = false ∧ s.dev.ccr.cause = 1 ∧ (ledgerOf s.dev 144).times = [] ∧ (ledgerOf s.dev 145).times = [] ∧ 1 < (ledgerCfg s.dev 144).limit :=
  ⟨up { ccr := { mode := .selfTest, held := [{ kind := 1, dest := 5, data := [1] }], shadow := [{ kind := 1, dest := 5, data := [2] }], cause := 1 } }, by decide +kernel⟩

theorem witness_ControlComplex_8 : ∃ (s : State), Up s ∧ s.dev.ccr.mode = .compared :=
  ⟨up {}, by decide +kernel⟩

theorem witness_ControlComplex_9 : ∃ (s : State), Up s ∧ s.dev.ccr.mode = .restarting ∧ s.dev.cfg.pair.paired = false :=
  ⟨up { ccr := { mode := .restarting, window := 6 }, boot := { solstice := some (3, 4) } }, by decide +kernel⟩

theorem witness_ControlComplex_10 : ∃ (s : State), Up s ∧ s.dev.ccr.mode = .compared :=
  ⟨up {}, by decide +kernel⟩

theorem witness_ControlComplex_11 : ∃ (s : State), Up s ∧ s.dev.ccr.reloading = true :=
  ⟨up { ccr := { reloading := true, core0 := { regs := [(1, 2)] } } }, by decide +kernel⟩

theorem witness_ControlComplex_12 : ∃ (s : State), Up s ∧ s.dev.ccr.mode = .compared :=
  ⟨up { ccr := { slot := 63 } }, by decide +kernel⟩

theorem witness_ControlComplex_13 : ∃ (s : State), Up s ∧ s.dev.ccr.mode = .compared ∧ s.dev.cfg.ccr.uncompHalt = false ∧ s.dev.pair.role = .unpaired ∧ (ledgerOf s.dev 146).state = .inService :=
  ⟨up {}, by decide +kernel⟩

theorem witness_ControlComplex_14 : ∃ (s : State), Up s ∧ s.dev.ccr.split = true ∧ s.dev.ccr.splitStopped = false ∧ s.dev.ncp.sessions = [] ∧ trialKind s.dev 3 = false :=
  ⟨up { ccr := { split := true, splitStopped := false }, boot := { splitSince := some 4 } }, by decide +kernel⟩

theorem witness_ControlComplex_15 : ∃ (s : State), Up s ∧ s.dev.ccr.split = false :=
  ⟨up {}, by decide +kernel⟩

theorem witness_ControlComplex_16 : ∃ (s : State), Up s ∧ debugAllowed s.dev = true :=
  ⟨up {}, by decide +kernel⟩

theorem witness_ControlComplex_17 : ∃ (s : State), Up s ∧ debugAllowed s.dev = false :=
  ⟨up { otp := { lc := 2 } }, by decide +kernel⟩

theorem witness_ControlComplex_18 : ∃ (s : State), Up s ∧ debugAllowed s.dev = true ∧ s.dev.ccr.debug = true ∧ s.dev.ccr.mode = .compared :=
  ⟨up { ccr := { debug := true } }, by decide +kernel⟩

theorem witness_ControlComplex_19 : ∃ (s : State), Up s ∧ s.dev.ccr.gaiStopped = false ∧ (ledgerOf s.dev 147).state = .inService :=
  ⟨up {}, by decide +kernel⟩

theorem witness_ControlComplex_20 : ∃ (s : State), Up s :=
  ⟨up {}, by decide +kernel⟩

theorem witness_CommandStages_0 : ∃ (s : State) (t : Transport) (p : Packet), Up s ∧ t ≠ .pcie ∧ ncpRuns s.dev = true ∧ s.dev.boot.recovery = false ∧ authentic p.session t p s.dev = true ∧ p.headerOk = false :=
  ⟨up { ssn := { renioft := true } }, .split, { bytes := [1, 0, 3, 0, 1, 6] }, by decide +kernel⟩

theorem witness_CommandStages_1 : ∃ (s : State) (t : Transport) (p : Packet), Up s ∧ ncpRuns s.dev = true ∧ s.dev.boot.recovery = false ∧ authentic p.session t p s.dev = false :=
  ⟨up { ssn := { renioft := true } }, .ethernet, { commandPacket 3 4 .sysInfo with secy := none }, by decide +kernel⟩

theorem witness_CommandStages_2 : ∃ (s : State) (t : Transport) (p : Packet), Up s ∧ t ≠ .pcie ∧ ncpRuns s.dev = true ∧ s.dev.boot.recovery = false ∧ authentic p.session t p s.dev = true ∧ p.headerOk = true ∧ p.opcode ≠ 0x0101 ∧ p.opcode ≠ 0x0103 ∧ ((sessionOf s.dev p.session).open_ = false ∨ (sessionOf s.dev p.session).transport ≠ some t ∨ foreign p.session t s.dev = true) :=
  ⟨up { ssn := { renioft := true } }, .split, commandPacket 2 4 .sysInfo, by decide +kernel⟩

theorem witness_CommandStages_3 : ∃ (s : State) (t : Transport) (p : Packet), Up s ∧ t ≠ .pcie ∧ ncpRuns s.dev = true ∧ s.dev.boot.recovery = false ∧ authentic p.session t p s.dev = true ∧ p.headerOk = true ∧ p.opcode ≠ 0x0101 ∧ p.opcode ≠ 0x0103 ∧ foreign p.session t s.dev = false ∧ (sessionOf s.dev p.session).open_ = true ∧ (sessionOf s.dev p.session).transport = some t ∧ recAt s.dev p.session p.seq = none ∧ 512 ≤ (p.seq - lowOf (sessionOf s.dev p.session)).toNat :=
  ⟨up { ssn := { renioft := true }, ncp := { sessions := [(2, { tOpen [] with secys := [5] })] } }, .ethernet, { commandPacket 2 (7 + 512) .sysInfo with secy := some 5 }, by decide +kernel⟩

theorem witness_CommandStages_4 : ∃ (s : State) (t : Transport) (p : Packet) (r : NcpRec) (rep : Reply), Up s ∧ t ≠ .pcie ∧ ncpRuns s.dev = true ∧ s.dev.boot.recovery = false ∧ authentic p.session t p s.dev = true ∧ p.headerOk = true ∧ p.opcode ≠ 0x0101 ∧ p.opcode ≠ 0x0103 ∧ foreign p.session t s.dev = false ∧ (sessionOf s.dev p.session).open_ = true ∧ (sessionOf s.dev p.session).transport = some t ∧ recAt s.dev p.session p.seq = some r ∧ r.stage = .final ∧ r.reply = some rep ∧ ((sessionOf s.dev p.session).high - p.seq).toNat < 4096 :=
  ⟨up { ssn := { renioft := true }, ncp := { sessions := [(2, { tOpen [(6, { tInfo .final with packet := commandPacket 2 6 .sysInfo, reply := some { status := 0, body := [1] } })] with high := 6, secys := [5] })] } }, .ethernet, { commandPacket 2 6 .sysInfo with secy := some 5 }, { tInfo .final with packet := commandPacket 2 6 .sysInfo, reply := some { status := 0, body := [1] } }, { status := 0, body := [1] }, by decide +kernel⟩

theorem witness_CommandStages_5 : ∃ (s : State) (t : Transport) (p : Packet) (r : NcpRec), Up s ∧ t ≠ .pcie ∧ ncpRuns s.dev = true ∧ s.dev.boot.recovery = false ∧ authentic p.session t p s.dev = true ∧ p.headerOk = true ∧ p.opcode ≠ 0x0101 ∧ p.opcode ≠ 0x0103 ∧ foreign p.session t s.dev = false ∧ (sessionOf s.dev p.session).open_ = true ∧ (sessionOf s.dev p.session).transport = some t ∧ recAt s.dev p.session p.seq = some r ∧ isFinal r = false ∧ r.packet.area = p.area ∧ ((sessionOf s.dev p.session).high - p.seq).toNat < 4096 :=
  ⟨up { ssn := { renioft := true }, ncp := { sessions := [(2, { tOpen [(6, { tInfo .accepted with packet := commandPacket 2 6 .sysInfo })] with high := 6, secys := [5] })] } }, .ethernet, { commandPacket 2 6 .sysInfo with secy := some 5 }, { tInfo .accepted with packet := commandPacket 2 6 .sysInfo }, by decide +kernel⟩

theorem witness_CommandStages_6 : ∃ (s : State) (t : Transport) (p : Packet), Up s ∧ ncpRuns s.dev = true ∧ s.dev.boot.recovery = false ∧ authentic p.session t p s.dev = true ∧ p.headerOk = true ∧ foreign p.session t s.dev = false ∧ p.opcode = 0x0106 ∧ p.op = some .sysInfo ∧ p.badTlv = false ∧ p.missing = false ∧ (p.epoch = 0 ∨ p.epoch = s.dev.glb.cfgEpoch) ∧ s.dev.glb.stopAccept = false ∧ (sessionOf s.dev p.session).open_ = true ∧ (sessionOf s.dev p.session).transport = some t ∧ (sessionOf s.dev p.session).recs = [] ∧ (sessionOf s.dev p.session).next = p.seq :=
  ⟨up { ssn := { renioft := true }, ncp := { sessions := [(2, { tOpen [] with secys := [5] })] } }, .ethernet, { tPkt with secy := some 5 }, by decide +kernel⟩

theorem witness_CommandStages_7 : ∃ (s : State) (n : Nat) (q : Word) (r : NcpRec), Up s ∧ n < 4 ∧ ncpRuns s.dev = true ∧ s.dev.ncp.replayDue = false ∧ (numbers (sessionOf s.dev n) (fun r => decide (r.stage = .accepting))).head? = some q ∧ recAt s.dev n q = some r ∧ (s.dev.glb.stopAccept = false ∨ r.packet.opcode / 256 = 7) ∧ awaitsPartner n q s.dev = false :=
  ⟨up { now := 5, ssn := { renioft := true }, ncp := { sessions := [(3, tOpen [(6, tInfo .accepting)])], journal := [{ no := 4, who := some (3, 6), body := .command tPkt }] } }, 3, 6, tInfo .accepting, by decide +kernel⟩

theorem witness_CommandStages_8 : ∃ (s : State) (n : Nat) (q : Word) (r : NcpRec), Up s ∧ n < 4 ∧ ncpRuns s.dev = true ∧ s.dev.ncp.replayDue = false ∧ (numbers (sessionOf s.dev n) (fun r => decide (r.stage = .accepting))).head? = some q ∧ recAt s.dev n q = some r ∧ (s.dev.glb.stopAccept = false ∨ r.packet.opcode / 256 = 7) ∧ awaitsPartner n q s.dev = true :=
  ⟨up { now := 5, ssn := { renioft := true }, ncp := { sessions := [(3, tOpen [(6, tInfo .accepting)])], journal := [{ no := 4, who := some (3, 6), body := .command tPkt }], unmirrored := [4] } }, 3, 6, tInfo .accepting, by decide +kernel⟩

theorem witness_CommandStages_9 : ∃ (s : State) (n : Nat) (q : Word) (r : NcpRec), Up s ∧ n < 3 ∧ ncpRuns s.dev = true ∧ s.dev.ncp.replayDue = false ∧ (sessionOf s.dev n).orphans = [] ∧ (∀ x ∈ (sessionOf s.dev n).recs, x.2.stage ≠ .executing) ∧ (sessionOf s.dev n).open_ = true ∧ (sessionOf s.dev n).transport = some .ethernet ∧ (numbers (sessionOf s.dev n) (fun r => decide (r.stage = .accepted))).head? = some q ∧ recAt s.dev n q = some r ∧ r.op = some .sysInfo ∧ r.late = false ∧ s.dev.now < timeoutAt r :=
  ⟨up { now := 5, ssn := { renioft := true }, ncp := { sessions := [(2, tOpen [(6, tInfo .accepted)])] } }, 2, 6, tInfo .accepted, by and_intros <;> first | decide +kernel | rfl | (intros; rfl) | (intros; intro h; cases h; done) | (intros; exact ⟨rfl, rfl⟩) | (intro i h; cases h; decide)⟩

theorem witness_CommandStages_10 : ∃ (s : State) (n : Nat), Up s ∧ n < 4 ∧ (s.dev.ncp.replayDue = true ∨ ncpRuns s.dev = false) :=
  ⟨up { ssn := { renioft := true }, ncp := { replayDue := true, sessions := [(2, tOpen [(6, tInfo .accepting)])] } }, 3, by decide +kernel⟩

theorem witness_CommandStages_11 : ∃ (s : State) (n : Nat) (t : Transport) (q : Word) (r : NcpRec), Up s ∧ n < 4 ∧ t ≠ .pcie ∧ (sessionOf s.dev n).transport = some t ∧ (numbers (sessionOf s.dev n) (fun r => isAccepted r && !r.interim && decide (r.acceptedAt + 1000000000 ≤ s.dev.now))).head? = some q ∧ recAt s.dev n q = some r :=
  ⟨up { now := 1000000000, ncp := { sessions := [(3, tOpen [(6, tInfo .accepted)])] } }, 3, .ethernet, 6, tInfo .accepted, by decide +kernel⟩

theorem witness_CommandStages_12 : ∃ (s : State) (n : Nat), Up s ∧ n < 4 ∧ (∀ x ∈ (sessionOf s.dev n).recs, isAccepted x.2 = true → x.2.interim = false → s.dev.now < x.2.acceptedAt + 1000000000) :=
  ⟨up { now := 999999999, ncp := { sessions := [(3, tOpen [(6, tInfo .accepted)])] } }, 3, by and_intros <;> first | decide +kernel | rfl | (intros; rfl) | (intros; intro h; cases h; done) | (intros; exact ⟨rfl, rfl⟩) | (intro i h; cases h; decide)⟩

theorem witness_CommandStages_13 : ∃ (s : State) (n : Nat) (t : Nat) (r : NcpRec), Up s ∧ n < 3 ∧ (sessionOf s.dev n).open_ = true ∧ (sessionOf s.dev n).transport = some .ethernet ∧ (sessionOf s.dev n).gapSince = some t ∧ t + (sessionOf s.dev n).gapMs * 1000000000 ≤ s.dev.now ∧ s.dev.boot.recovery = false ∧ (sessionOf s.dev n).recs = [(((sessionOf s.dev n).next + 1).toNat, r)] ∧ r.stage = .ordered ∧ r.packet.opcode = 0x0106 ∧ r.packet.op = some .sysInfo ∧ r.packet.badTlv = false ∧ r.packet.missing = false ∧ r.packet.epoch = 0 ∧ r.arrival = 0 ∧ s.dev.glb.stopAccept = false :=
  ⟨up { now := 100000000000, ncp := { sessions := [(2, { tOpen [(8, tInfo .ordered)] with gapSince := some 0 })] } }, 2, 0, tInfo .ordered, by decide +kernel⟩

theorem witness_CommandStages_14 : ∃ (s : State) (n : Nat), Up s ∧ n < 4 ∧ (∀ t, (sessionOf s.dev n).gapSince = some t → s.dev.now < t + (sessionOf s.dev n).gapMs * 1000000000) :=
  ⟨up {}, 3, by and_intros <;> first | decide +kernel | rfl | (intros; rfl) | (intros; intro h; cases h; done) | (intros; exact ⟨rfl, rfl⟩) | (intro i h; cases h; decide)⟩

theorem witness_CommandStages_15 : ∃ (s : State) (n : Nat) (q : Word) (r : NcpRec), Up s ∧ n < 4 ∧ (numbers (sessionOf s.dev n) (fun r => decide (r.stage = .executing) && !r.late && decide (timeoutAt r ≤ s.dev.now))).head? = some q ∧ recAt s.dev n q = some r ∧ s.dev.gw.sends = [] ∧ s.dev.gw.waits = [] ∧ s.dev.gw.entries = [] :=
  ⟨up { now := 100000000000, ncp := { sessions := [(3, tOpen [(6, tInfo .executing)])] } }, 3, 6, tInfo .executing, by decide +kernel⟩

theorem witness_CommandStages_16 : ∃ (s : State) (n : Nat), Up s ∧ n < 4 ∧ (∀ x ∈ (sessionOf s.dev n).recs, x.2.stage = .executing → x.2.late = false → s.dev.now < timeoutAt x.2) :=
  ⟨up { now := 99999999999, ncp := { sessions := [(3, tOpen [(6, tInfo .executing)])] } }, 3, by and_intros <;> first | decide +kernel | rfl | (intros; rfl) | (intros; intro h; cases h; done) | (intros; exact ⟨rfl, rfl⟩) | (intro i h; cases h; decide)⟩

theorem witness_CommandStages_17 : ∃ (s : State), Up s ∧ ncpRuns s.dev = true ∧ s.dev.ncp.replayDue = true ∧ s.dev.pair.takeover = false ∧ (∀ x ∈ s.dev.ncp.journal, x.body.kind ≠ 3 ∧ x.body.kind ≠ 4) :=
  ⟨up { ssn := { renioft := true }, ncp := { replayDue := true, sessions := [(2, tOpen [(6, tInfo .ordered), (5, tInfo .final)])], journal := [{ no := 4, who := some (3, 6), body := .skip, whole := true }] } }, by and_intros <;> first | decide +kernel | rfl | (intros; rfl) | (intros; intro h; cases h; done) | (intros; exact ⟨rfl, rfl⟩) | (intro i h; cases h; decide)⟩

theorem witness_CommandStages_18 : ∃ (s : State) (env : ExecEnv) (n : Nat) (a : Nat) (b : Nat) (q : Word) (p : Packet) (y : SessionRec), Up s ∧ ncpRuns s.dev = true ∧ s.dev.ncp.replayDue = true ∧ s.dev.pair.takeover = false ∧ n < 3 ∧ y.open_ = true ∧ p.opcode = 0x0106 ∧ p.op = some .sysInfo ∧ a ∉ env.bad ∧ b ∉ env.bad ∧ s.dev.ncp.journal = [{ no := a, who := some (n, q - 1), body := .session y, whole := true }, { no := b, who := some (n, q), body := .command p, ts := ts32 s.dev, whole := true }] :=
  ⟨up { now := 100000000000, ssn := { renioft := true }, ncp := { replayDue := true, journal := [{ no := 3, who := some (2, 6), body := .session {}, whole := true }, { no := 4, who := some (2, 7), body := .command tPkt, ts := ts32 (up { now := 100000000000, ssn := { renioft := true } }).dev, whole := true }] } }, {}, 2, 3, 4, 7, tPkt, {}, by decide +kernel⟩

theorem witness_CommandStages_19 : ∃ (s : State), Up s ∧ (s.dev.ncp.replayDue = false ∨ ncpRuns s.dev = false) :=
  ⟨up {}, by decide +kernel⟩

theorem witness_SessionsAndMailboxes_0 : ∃ (s : State) (n : Nat) (t : Transport) (o : OpenParams), Up s ∧ n < 4 ∧ ncpRuns s.dev = true ∧ s.dev.boot.recovery = false ∧ s.dev.glb.stopAccept = false ∧ (sessionOf s.dev n).open_ = false ∧ (sessionOf s.dev n).transport = none ∧ foreign n t s.dev = false ∧ openOk (some t) o = true ∧ o.auth ≠ .hmac :=
  ⟨up { ssn := { renioft := true }, ncp := { sessions := [(2, { slot := 5 })] } }, 3, .pcie, {}, by decide +kernel⟩

theorem witness_SessionsAndMailboxes_1 : ∃ (s : State) (n : Nat) (t : Transport) (o : OpenParams), Up s ∧ n < 4 ∧ ncpRuns s.dev = true ∧ s.dev.boot.recovery = false ∧ s.dev.glb.stopAccept = false ∧ (sessionOf s.dev n).open_ = false ∧ (sessionOf s.dev n).transport = none ∧ foreign n t s.dev = false ∧ openOk (some t) o = true ∧ o.auth = .hmac ∧ openRefusal (some t) o s.dev = none :=
  ⟨st (keyed (up { ssn := { renioft := true }, msc := { entropyOk := true, entropyDone := true } }).dev), 3, .ethernet, { auth := .hmac, keySlot := 63, nonce := 7 }, by decide +kernel⟩

theorem witness_SessionsAndMailboxes_2 : ∃ (s : State) (n : Nat) (t : Transport) (o : OpenParams) (r : Res), Up s ∧ n < 4 ∧ ncpRuns s.dev = true ∧ s.dev.boot.recovery = false ∧ s.dev.glb.stopAccept = false ∧ (sessionOf s.dev n).open_ = false ∧ (sessionOf s.dev n).transport = none ∧ foreign n t s.dev = false ∧ openOk (some t) o = true ∧ openRefusal (some t) o s.dev = some r :=
  ⟨up { ssn := { renioft := true }, msc := { entropyOk := true, entropyDone := true } }, 3, .ethernet, { auth := .hmac, keySlot := 63, nonce := 7 }, { status := 0x0403, reason := 0x1220 }, by decide +kernel⟩

theorem witness_SessionsAndMailboxes_3 : ∃ (s : State) (n : Nat) (t : Transport), Up s ∧ n < 4 ∧ ncpRuns s.dev = true ∧ s.dev.boot.recovery = false ∧ t ≠ .pcie ∧ ((sessionOf s.dev n).open_ = true ∨ (sessionOf s.dev n).transport.isSome = true ∨ foreign n t s.dev = true) :=
  ⟨up { ssn := { renioft := true }, ncp := { sessions := [(3, tOpen [])] } }, 3, .ethernet, by decide +kernel⟩

theorem witness_SessionsAndMailboxes_4 : ∃ (s : State) (n : Nat), Up s ∧ n < 4 ∧ ncpRuns s.dev = true ∧ s.dev.boot.recovery = false ∧ s.dev.glb.stopAccept = false ∧ (sessionOf s.dev n).open_ = true ∧ (∀ x ∈ (sessionOf s.dev n).recs, isFinal x.2 = true) :=
  ⟨up { ssn := { renioft := true }, ncp := { sessions := [(3, tOpen [(6, tInfo .final)])] } }, 3, by and_intros <;> first | decide +kernel | rfl | (intros; rfl) | (intros; intro h; cases h; done) | (intros; exact ⟨rfl, rfl⟩) | (intro i h; cases h; decide)⟩

theorem witness_SessionsAndMailboxes_5 : ∃ (s : State) (n : Nat), Up s ∧ n < 4 ∧ ncpRuns s.dev = true ∧ (sessionOf s.dev n).open_ = true ∧ (∃ x ∈ (sessionOf s.dev n).recs, isFinal x.2 = false) :=
  ⟨up { ssn := { renioft := true }, ncp := { sessions := [(3, tOpen [(6, tInfo .accepting)])] } }, 3, by and_intros <;> first | decide +kernel | rfl | (intros; rfl) | (intros; intro h; cases h; done) | (intros; exact ⟨rfl, rfl⟩) | (intro i h; cases h; decide)⟩

theorem witness_SessionsAndMailboxes_6 : ∃ (s : State) (n : Nat), Up s ∧ n < 4 ∧ ncpRuns s.dev = true ∧ (sessionOf s.dev n).open_ = false :=
  ⟨up { ssn := { renioft := true } }, 3, by decide +kernel⟩

theorem witness_SessionsAndMailboxes_7 : ∃ (s : State) (n : Nat) (t : Transport), Up s ∧ n < 4 ∧ (t = .pcie ∨ t = .split) ∧ ncpRuns s.dev = true ∧ s.dev.boot.recovery = false ∧ s.dev.glb.stopAccept = false ∧ (sessionOf s.dev n).open_ = true ∧ (sessionOf s.dev n).transport = none ∧ foreign n t s.dev = false :=
  ⟨up { ssn := { renioft := true }, ncp := { sessions := [(2, { tOpen [] with transport := none })] } }, 2, .split, by decide +kernel⟩

theorem witness_SessionsAndMailboxes_8 : ∃ (s : State) (n : Nat) (t : Transport), Up s ∧ n < 4 ∧ ncpRuns s.dev = true ∧ s.dev.boot.recovery = false ∧ ((sessionOf s.dev n).open_ = false ∨ (sessionOf s.dev n).transport.isSome = true ∨ t = .ethernet ∨ t = .wyusin ∨ foreign n t s.dev = true) :=
  ⟨up { ssn := { renioft := true }, ncp := { sessions := [(2, { tOpen [] with transport := none })] } }, 2, .wyusin, by decide +kernel⟩

theorem witness_SessionsAndMailboxes_9 : ∃ (s : State) (n : Nat) (pi : Nat), BusUp s ∧ n < 4 ∧ pi < 256 ∧ ((sessionOf s.dev n).rings.cmdCi = pi ∨ engineOn s.dev = false ∨ ncpRuns s.dev = false) :=
  ⟨up { ncp := { sessions := [(3, { rings := { cmdCi := 255 } })] } }, 3, 255, by decide +kernel⟩

theorem witness_SessionsAndMailboxes_10 : ∃ (s : State) (n : Nat) (pi : Nat) (v : HostView) (p : Packet), BusUp s ∧ n < 4 ∧ pi < 256 ∧ ((sessionOf s.dev n).rings.cmdCi + 1) % 256 = pi ∧ (sessionOf s.dev n).rings.cmdCi < 256 ∧ isRunning s.dev (64 + n) true = true ∧ engineOn s.dev = true ∧ ncpRuns s.dev = true ∧ s.dev.boot.recovery = false ∧ (lookupD s.dev.hif.spaces (64 + n) {}).mode = 1 ∧ (sessionOf s.dev n).rings.cmdBase.toNat + 524288 ≤ 2 ^ 48 ∧ v.cmds = [p] ∧ authentic n .pcie p s.dev = true ∧ p.headerOk = false ∧ (sessionOf s.dev n).rings.waiting = [] ∧ (sessionOf s.dev n).rings.rplBase.toNat + 524288 ≤ 2 ^ 48 ∧ (sessionOf s.dev n).rings.rplPi < 256 ∧ ((sessionOf s.dev n).rings.rplPi + 1) % 256 ≠ (sessionOf s.dev n).rings.rplCi :=
  ⟨up { ssn := { renioft := true }, hif := { linkUp := true, bme := true, spaces := [(67, { mode := 1 })], pages := [(67, { tx := { st := .running }, rx := { st := .running } })] }, ncp := { sessions := [(3, { rings := { cmdCi := 255, rplCi := 9 } })] } }, 3, 0, { cmds := [{ bytes := [1, 0, 3, 0, 1, 6] }] }, { bytes := [1, 0, 3, 0, 1, 6] }, by decide +kernel⟩

theorem witness_SessionsAndMailboxes_11 : ∃ (s : State) (n : Nat) (ci : Nat) (q : Word) (rep : Bool) (r : Reply), BusUp s ∧ n < 4 ∧ ci < 256 ∧ (sessionOf s.dev n).rings.waiting = [(q, rep, some r)] ∧ ((sessionOf s.dev n).rings.rplPi + 1) % 256 ≠ ci ∧ isRunning s.dev (64 + n) true = true ∧ engineOn s.dev = true ∧ ncpRuns s.dev = true ∧ (lookupD s.dev.hif.spaces (64 + n) {}).mode = 1 ∧ (sessionOf s.dev n).rings.rplBase.toNat + (sessionOf s.dev n).rings.rplPi * 2048 < 2 ^ 48 :=
  ⟨up { ssn := { renioft := true }, hif := { linkUp := true, bme := true, spaces := [(67, { mode := 1 })], pages := [(67, { tx := { st := .running }, rx := { st := .running } })] }, ncp := { sessions := [(3, { rings := { rplCi := 0, rplPi := 255, waiting := [(4, false, some { status := 0 })] } })] } }, 3, 1, 4, false, { status := 0 }, by decide +kernel⟩

theorem witness_SessionsAndMailboxes_12 : ∃ (s : State) (n : Nat) (ci : Nat), BusUp s ∧ n < 4 ∧ ci < 256 ∧ ((sessionOf s.dev n).rings.waiting = [] ∨ ((sessionOf s.dev n).rings.rplPi + 1) % 256 = ci ∨ isRunning s.dev (64 + n) true = false ∨ engineOn s.dev = false) :=
  ⟨up {}, 3, 255, by decide +kernel⟩

theorem witness_SessionsAndMailboxes_13 : ∃ (s : State) (n : Nat), BusUp s ∧ n < 4 ∧ (sessionOf s.dev n).transport = none :=
  ⟨up {}, 3, by decide +kernel⟩

theorem witness_SessionsAndMailboxes_14 : ∃ (s : State) (n : Nat), BusUp s ∧ n < 4 ∧ (sessionOf s.dev n).transport.isSome = true :=
  ⟨up { ncp := { sessions := [(3, tOpen [])] } }, 3, by decide +kernel⟩

theorem witness_ReadsOnlyReply_0 : ∃ (s : State) (env : ExecEnv), Passes .sysInfo env s :=
  ⟨ncp {}, {}, by and_intros <;> first | decide +kernel | rfl | (intros; rfl) | (intros; intro h; cases h; done) | (intros; exact ⟨rfl, rfl⟩) | (intro i h; cases h; decide)⟩

theorem witness_ReadsOnlyReply_1 : ∃ (s : State) (env : ExecEnv) (p : Nat), Passes (.portStatus p) env s :=
  ⟨ncp {}, {}, 24, by and_intros <;> first | decide +kernel | rfl | (intros; rfl) | (intros; intro h; cases h; done) | (intros; exact ⟨rfl, rfl⟩) | (intro i h; cases h; decide)⟩

theorem witness_ReadsOnlyReply_2 : ∃ (s : State) (env : ExecEnv) (ss : Tbl StreamCfg) (ls : Tbl Gcl), Passes (.admitDryRun ss ls) env s ∧ (dryRun ss ls s.dev).1.status = 0 :=
  ⟨ncp {}, {}, [], [], by and_intros <;> first | decide +kernel | rfl | (intros; rfl) | (intros; intro h; cases h; done) | (intros; exact ⟨rfl, rfl⟩) | (intro i h; cases h; decide)⟩

theorem witness_ReadsOnlyReply_3 : ∃ (s : State) (env : ExecEnv) (ss : Tbl StreamCfg) (ls : Tbl Gcl), Passes (.admitDryRun ss ls) env s ∧ (dryRun ss ls s.dev).1.status ≠ 0 :=
  ⟨ncp {}, {}, [(5, { tStream with egress := [37] })], [], by and_intros <;> first | decide +kernel | rfl | (intros; rfl) | (intros; intro h; cases h; done) | (intros; exact ⟨rfl, rfl⟩) | (intro i h; cases h; decide)⟩

theorem witness_ReadsOnlyReply_4 : ∃ (s : State) (env : ExecEnv) (k : CtRef), Passes (.ctRead k) env s :=
  ⟨ncp {}, {}, .index 5, by and_intros <;> first | decide +kernel | rfl | (intros; rfl) | (intros; intro h; cases h; done) | (intros; exact ⟨rfl, rfl⟩) | (intro i h; cases h; decide)⟩

theorem witness_ReadsOnlyReply_5 : ∃ (s : State) (env : ExecEnv) (n : Nat) (a : Nat), Passes (.mvbPortRead n a) env s :=
  ⟨ncp { cfg := { mvb := [(1, { ports := [(4095, { source := false, size := 0 })] })] } }, {}, 1, 4095, by and_intros <;> first | decide +kernel | rfl | (intros; rfl) | (intros; intro h; cases h; done) | (intros; exact ⟨rfl, rfl⟩) | (intro i h; cases h; decide)⟩

theorem witness_ReadsOnlyReply_6 : ∃ (s : State) (env : ExecEnv) (nonce : Bytes) (p384 : Bool), Passes (.attest nonce p384) env s :=
  ⟨ncp {}, {}, zeros 32, false, by and_intros <;> first | decide +kernel | rfl | (intros; rfl) | (intros; intro h; cases h; done) | (intros; exact ⟨rfl, rfl⟩) | (intro i h; cases h; decide)⟩

theorem witness_ReadsOnlyReply_7 : ∃ (s : State) (env : ExecEnv) (ix : Nat), Passes (.faultRead ix) env s :=
  ⟨ncp {}, {}, 156, by and_intros <;> first | decide +kernel | rfl | (intros; rfl) | (intros; intro h; cases h; done) | (intros; exact ⟨rfl, rfl⟩) | (intro i h; cases h; decide)⟩

theorem witness_ReadsOnlyReply_8 : ∃ (s : State) (env : ExecEnv) (n : Nat), Passes (.lateRingRead n) env s :=
  ⟨ncp {}, {}, 32, by and_intros <;> first | decide +kernel | rfl | (intros; rfl) | (intros; intro h; cases h; done) | (intros; exact ⟨rfl, rfl⟩) | (intro i h; cases h; decide)⟩

theorem witness_ReadsOnlyReply_9 : ∃ (s : State) (env : ExecEnv) (block : Nat) (index : Nat) (count : Nat), Passes (.counterRead block index count) env s :=
  ⟨ncp {}, {}, 3, 0, 1, by and_intros <;> first | decide +kernel | rfl | (intros; rfl) | (intros; intro h; cases h; done) | (intros; exact ⟨rfl, rfl⟩) | (intro i h; cases h; decide)⟩

theorem witness_ReadsOnlyReply_10 : ∃ (s : State) (env : ExecEnv) (a : Nat) (n : Nat), Passes (.regRead a n) env s ∧ a % 4 = 0 ∧ (∀ k, k < n → (readReg s.dev (a + 4 * k)).isSome = true) :=
  ⟨ncp { glb := { scratch := 77 } }, {}, 0x200, 1, by and_intros <;> first | decide +kernel | rfl | (intros; rfl) | (intros; intro h; cases h; done) | (intros; exact ⟨rfl, rfl⟩) | (intro i h; cases h; decide)⟩

theorem witness_ReadsOnlyReply_11 : ∃ (s : State) (env : ExecEnv) (a : Nat) (n : Nat), Passes (.regRead a n) env s ∧ a % 4 ≠ 0 :=
  ⟨ncp {}, {}, 0x201, 496, by and_intros <;> first | decide +kernel | rfl | (intros; rfl) | (intros; intro h; cases h; done) | (intros; exact ⟨rfl, rfl⟩) | (intro i h; cases h; decide)⟩

theorem witness_ReadsOnlyReply_12 : ∃ (s : State) (env : ExecEnv) (a : Nat) (n : Nat) (k : Nat), Passes (.regRead a n) env s ∧ a % 4 = 0 ∧ k < n ∧ (readReg s.dev (a + 4 * k)).isNone = true ∧ (∀ j, j < k → (readReg s.dev (a + 4 * j)).isSome = true) :=
  ⟨ncp {}, {}, 0x200, 496, 1, by and_intros <;> first | decide +kernel | rfl | (intros; rfl) | (intros; intro h; cases h; done) | (intros; exact ⟨rfl, rfl⟩) | (intro i h; cases h; decide)⟩

theorem witness_ConfigOperations_0 : ∃ (s : State) (env : ExecEnv) (p : Nat) (x : PortCfg), Passes (.portConfig p x) env s ∧ InTurn s ∧ CommitsNow env s :=
  ⟨ncp {}, {}, 3, { rate := 10000, mac := 5 }, by and_intros <;> first | decide +kernel | rfl | (intros; rfl) | (intros; intro h; cases h; done) | (intros; exact ⟨rfl, rfl⟩) | (intro i h; cases h; decide)⟩

theorem witness_ConfigOperations_1 : ∃ (s : State) (env : ExecEnv) (p : Nat) (on : Bool) (force : Bool), Passes (.portEnable p on force) env s ∧ InTurn s ∧ CommitsNow env s :=
  ⟨ncp { cfg := { ports := [(3, { configured := true, rate := 10000 })] } }, {}, 3, true, false, by and_intros <;> first | decide +kernel | rfl | (intros; rfl) | (intros; intro h; cases h; done) | (intros; exact ⟨rfl, rfl⟩) | (intro i h; cases h; decide)⟩

theorem witness_ConfigOperations_2 : ∃ (s : State) (p : Nat), Up s ∧ ncpRuns s.dev = true ∧ stateRes true (.portEnable p false false) s.dev = none ∧ p ≤ 37 ∧ InTurn s ∧ assuredOn s.dev.cfg p = true :=
  ⟨ncp { cfg := { sch := { streams := [(5, { tAsd false with egress := [37] })] } } }, 37, by and_intros <;> first | decide +kernel | rfl | (intros; rfl) | (intros; intro h; cases h; done) | (intros; exact ⟨rfl, rfl⟩) | (intro i h; cases h; decide)⟩

theorem witness_ConfigOperations_3 : ∃ (s : State) (env : ExecEnv) (h : Nat) (x : StreamCfg), Passes (.streamSet h x) env s ∧ InTurn s ∧ CommitsNow env s :=
  ⟨ncp { cfg := { ports := [(2, { configured := true, rate := 10000 }), (3, { configured := true, rate := 10000 })] } }, {}, 5, { tStream with cls := .standard }, by and_intros <;> first | decide +kernel | rfl | (intros; rfl) | (intros; intro h; cases h; done) | (intros; exact ⟨rfl, rfl⟩) | (intro i h; cases h; decide)⟩

theorem witness_ConfigOperations_4 : ∃ (s : State) (env : ExecEnv) (h : Nat), Passes (.streamRemove h) env s ∧ InTurn s ∧ CommitsNow env s :=
  ⟨ncp {}, {}, 5, by and_intros <;> first | decide +kernel | rfl | (intros; rfl) | (intros; intro h; cases h; done) | (intros; exact ⟨rfl, rfl⟩) | (intro i h; cases h; decide)⟩

theorem witness_ConfigOperations_5 : ∃ (s : State) (env : ExecEnv) (p : Nat) (slopes : List Nat) (pre : Preempt) (hold : Nat), Passes (.shaperSet p slopes pre hold) env s ∧ InTurn s ∧ CommitsNow env s :=
  ⟨ncp {}, {}, 3, [0, 0, 0, 0, 0, 0, 0, 0], {}, 0, by and_intros <;> first | decide +kernel | rfl | (intros; rfl) | (intros; intro h; cases h; done) | (intros; exact ⟨rfl, rfl⟩) | (intro i h; cases h; decide)⟩

theorem witness_ConfigOperations_6 : ∃ (s : State) (env : ExecEnv) (m : Tbl Nat) (hi : Nat) (cp : Nat) (zones : Tbl ZoneCfg), Passes (.zoneSet m hi cp zones) env s ∧ InTurn s ∧ CommitsNow env s :=
  ⟨ncp {}, {}, [], 15, 15, [], by and_intros <;> first | decide +kernel | rfl | (intros; rfl) | (intros; intro h; cases h; done) | (intros; exact ⟨rfl, rfl⟩) | (intro i h; cases h; decide)⟩

theorem witness_ConfigOperations_7 : ∃ (s : State) (env : ExecEnv) (bank : RuleBank) (r : Bool), Passes (.rulesLoad bank r) env s ∧ InTurn s ∧ CommitsNow env s :=
  ⟨ncp {}, {}, {}, false, by and_intros <;> first | decide +kernel | rfl | (intros; rfl) | (intros; intro h; cases h; done) | (intros; exact ⟨rfl, rfl⟩) | (intro i h; cases h; decide)⟩

theorem witness_ConfigOperations_8 : ∃ (s : State) (env : ExecEnv) (n : Nat) (x : Profile), Passes (.profileSet n x) env s ∧ InTurn s ∧ CommitsNow env s :=
  ⟨ncp {}, {}, 3, {}, by and_intros <;> first | decide +kernel | rfl | (intros; rfl) | (intros; intro h; cases h; done) | (intros; exact ⟨rfl, rfl⟩) | (intro i h; cases h; decide)⟩

theorem witness_ConfigOperations_9 : ∃ (s : State) (env : ExecEnv) (g : GwyCfg), Passes (.gwConfig g) env s ∧ InTurn s ∧ CommitsNow env s :=
  ⟨ncp {}, {}, {}, by and_intros <;> first | decide +kernel | rfl | (intros; rfl) | (intros; intro h; cases h; done) | (intros; exact ⟨rfl, rfl⟩) | (intro i h; cases h; decide)⟩

theorem witness_ConfigOperations_10 : ∃ (s : State) (env : ExecEnv) (n : Nat) (x : CanCfg), Passes (.canConfig n x) env s ∧ InTurn s ∧ CommitsNow env s :=
  ⟨ncp {}, {}, 7, {}, by and_intros <;> first | decide +kernel | rfl | (intros; rfl) | (intros; intro h; cases h; done) | (intros; exact ⟨rfl, rfl⟩) | (intro i h; cases h; decide)⟩

theorem witness_ConfigOperations_11 : ∃ (s : State) (env : ExecEnv) (n : Nat) (x : MvbCfg), Passes (.mvbConfig n x) env s ∧ InTurn s ∧ CommitsNow env s :=
  ⟨ncp {}, {}, 1, {}, by and_intros <;> first | decide +kernel | rfl | (intros; rfl) | (intros; intro h; cases h; done) | (intros; exact ⟨rfl, rfl⟩) | (intro i h; cases h; decide)⟩

theorem witness_ConfigOperations_12 : ∃ (s : State) (env : ExecEnv) (t : TimCfg) (ports : Tbl PtpPort), Passes (.timeConfig t ports) env s ∧ InTurn s ∧ CommitsNow env s :=
  ⟨ncp {}, {}, {}, [(3, {})], by and_intros <;> first | decide +kernel | rfl | (intros; rfl) | (intros; intro h; cases h; done) | (intros; exact ⟨rfl, rfl⟩) | (intro i h; cases h; decide)⟩

theorem witness_ConfigOperations_13 : ∃ (s : State) (env : ExecEnv) (x : SsnCfg), Passes (.seasonsConfig x) env s ∧ InTurn s ∧ CommitsNow env s :=
  ⟨ncp {}, {}, {}, by and_intros <;> first | decide +kernel | rfl | (intros; rfl) | (intros; intro h; cases h; done) | (intros; exact ⟨rfl, rfl⟩) | (intro i h; cases h; decide)⟩

theorem witness_ConfigOperations_14 : ∃ (s : State) (env : ExecEnv) (x : PairCfg), Passes (.pairConfig x) env s ∧ InTurn s ∧ CommitsNow env s :=
  ⟨ncp {}, {}, {}, by and_intros <;> first | decide +kernel | rfl | (intros; rfl) | (intros; intro h; cases h; done) | (intros; exact ⟨rfl, rfl⟩) | (intro i h; cases h; decide)⟩

theorem witness_ConfigOperations_15 : ∃ (s : State) (env : ExecEnv) (m : MscCfg), Passes (.secySet m) env s ∧ InTurn s ∧ CommitsNow env s :=
  ⟨ncp {}, {}, {}, by and_intros <;> first | decide +kernel | rfl | (intros; rfl) | (intros; intro h; cases h; done) | (intros; exact ⟨rfl, rfl⟩) | (intro i h; cases h; decide)⟩

theorem witness_ConfigOperations_16 : ∃ (s : State) (env : ExecEnv) (h : Nat), Passes (.psfpUnblock h) env s ∧ InTurn s ∧ CommitsNow env s :=
  ⟨ncp { cfg := { sch := { streams := [(5, { tStream with cls := .standard })] } }, sch := { streams := [(5, { blocked := true })] } }, {}, 5, by and_intros <;> first | decide +kernel | rfl | (intros; rfl) | (intros; intro h; cases h; done) | (intros; exact ⟨rfl, rfl⟩) | (intro i h; cases h; decide)⟩

theorem witness_ConfigOperations_17 : ∃ (s : State) (env : ExecEnv) (lists : Tbl Gcl) (sec : Nat) (ns : Nat), Passes (.gclSet lists sec ns) env s ∧ InTurn s ∧ CommitsNow env s :=
  ⟨ncp { tim := { mode := .locked, sec := 3 } }, {}, [], 3, 5000000, by and_intros <;> first | decide +kernel | rfl | (intros; rfl) | (intros; intro h; cases h; done) | (intros; exact ⟨rfl, rfl⟩) | (intro i h; cases h; decide)⟩

theorem witness_ConfigOperations_18 : ∃ (s : State) (env : ExecEnv) (sec : Nat) (ns : Nat), Passes (.solsticeSet sec ns) env s ∧ InTurn s ∧ CommitsNow env s :=
  ⟨ncp { tim := { mode := .locked, sec := 3 }, flash := [(1, { b := { state := .staged, image := some (image 2 .opaqueCode) } })] }, {}, 4, 0, by and_intros <;> first | decide +kernel | rfl | (intros; rfl) | (intros; intro h; cases h; done) | (intros; exact ⟨rfl, rfl⟩) | (intro i h; cases h; decide)⟩

theorem witness_ConfigOperations_19 : ∃ (s : State) (env : ExecEnv) (b : Bool) (i : Image) (c : Cfg), Passes (.configLoad b) env s ∧ InTurn s ∧ CommitsNow env s ∧ (slotAtB (imageKind s.dev 4) b).image = some i ∧ i.content = .blob c :=
  ⟨tLoad, {}, false, blobImg, {}, ⟨by decide +kernel, by decide +kernel, blob_load_passes _⟩, by decide +kernel, by decide +kernel, rfl, rfl⟩

theorem witness_ConfigOperations_20 : ∃ (s : State), Up s ∧ ncpRuns s.dev = true ∧ ¬ InTurn s :=
  ⟨ncp { ncp := { rowQueue := [(1, .psfpUnblock 4, some .pcie, .ok)], arrivals := 1 } }, by and_intros <;> first | decide +kernel | rfl | (intros; rfl) | (intros; intro h; cases h; done) | (intros; exact ⟨rfl, rfl⟩) | (intro i h; cases h; decide)⟩

theorem witness_ConfigOperations_21 : ∃ (s : State) (env : ExecEnv) (h : Nat), Passes (.psfpUnblock h) env s ∧ InTurn s ∧ exchanges s.dev = true ∧ env.partner = .waiting :=
  ⟨ncp { pair := { role := .active, partnerReady := true, wyUp := true }, cfg := { pair := { paired := true } } }, { partner := .waiting }, 5, by and_intros <;> first | decide +kernel | rfl | (intros; rfl) | (intros; intro h; cases h; done) | (intros; exact ⟨rfl, rfl⟩) | (intro i h; cases h; decide)⟩

theorem witness_ConfigOperations_22 : ∃ (s : State) (env : ExecEnv) (h : Nat) (st : BitVec 16) (rs : BitVec 16), Passes (.psfpUnblock h) env s ∧ InTurn s ∧ exchanges s.dev = true ∧ env.partner = .refused st rs :=
  ⟨ncp { pair := { role := .active, partnerReady := true, wyUp := true }, cfg := { pair := { paired := true } } }, { partner := .refused 0x0201 0x0501 }, 5, 0x0201, 0x0501, by and_intros <;> first | decide +kernel | rfl | (intros; rfl) | (intros; intro h; cases h; done) | (intros; exact ⟨rfl, rfl⟩) | (intro i h; cases h; decide)⟩

theorem witness_ActionOperations_0 : ∃ (s : State) (env : ExecEnv) (g : Nat) (b : Nat) (p : Nat), Passes (.lgRebalance g [(b, p)]) env s ∧ lookup? (lgTable s.dev s.dev.cfg g) b ≠ some p ∧ lookup? s.dev.fwd.moves (g * 256 + b) = none :=
  ⟨ncp { cfg := { fwd := { groups := [(63, { members := [2, 3], table := [(255, 2)] })] } } }, {}, 63, 255, 3, by and_intros <;> first | decide +kernel | rfl | (intros; rfl) | (intros; intro h; cases h; done) | (intros; exact ⟨rfl, rfl⟩) | (intro i h; cases h; decide)⟩

theorem witness_ActionOperations_1 : ∃ (s : State) (env : ExecEnv) (g : Nat) (b : Nat) (p : Nat), Passes (.lgRebalance g [(b, p)]) env s ∧ lookup? (lgTable s.dev s.dev.cfg g) b = some p :=
  ⟨ncp { cfg := { fwd := { groups := [(63, { members := [2, 3], table := [(255, 2)] })] } }, fwd := { moves := [(63 * 256 + 255, (3, 0))] } }, {}, 63, 255, 2, by and_intros <;> first | decide +kernel | rfl | (intros; rfl) | (intros; intro h; cases h; done) | (intros; exact ⟨rfl, rfl⟩) | (intro i h; cases h; decide)⟩

theorem witness_ActionOperations_2 : ∃ (s : State) (env : ExecEnv) (sec : Nat) (ns : Nat), Passes (.clockStep sec ns) env s ∧ sec < 281474976710656 :=
  ⟨ncp { tim := { step := 255 } }, {}, 281474976710655, 999999999, by and_intros <;> first | decide +kernel | rfl | (intros; rfl) | (intros; intro h; cases h; done) | (intros; exact ⟨rfl, rfl⟩) | (intro i h; cases h; decide)⟩

theorem witness_ActionOperations_3 : ∃ (s : State) (env : ExecEnv) (n : Nat), Passes (.canRecover n) env s ∧ (canSt s.dev n).busOff = true :=
  ⟨ncp { can := [(7, { on := true, busOff := true })] }, {}, 7, by and_intros <;> first | decide +kernel | rfl | (intros; rfl) | (intros; intro h; cases h; done) | (intros; exact ⟨rfl, rfl⟩) | (intro i h; cases h; decide)⟩

theorem witness_ActionOperations_4 : ∃ (s : State) (env : ExecEnv) (n : Nat) (dl : Nat) (payload : Bytes) (w : Bool) (o : GwOutput), Passes (.gwSend n payload dl w) env s ∧ lookup? s.dev.cfg.gw.outputs n = some o ∧ o.eth = false ∧ gwEmits s.dev = true ∧ destOff o s.dev = false ∧ o.dstPort ≠ 36 ∧ s.dev.gw.queue = [] ∧ (allotOf s.dev (gwAllot s.dev 36)).exhausted = true :=
  ⟨ncp { gw := { running := true }, mvb := [(1, { role := .slave })], cfg := { gw := { outputs := [(5, tOut)] }, mvb := [(1, { ports := [(7, { source := true, size := 1 })] })] }, buf := { allots := [(gwAllot (up {}).dev 36, { exhausted := true })] } }, {}, 5, 1, [1, 2, 3, 4], false, tOut, by and_intros <;> first | decide +kernel | rfl | (intros; rfl) | (intros; intro h; cases h; done) | (intros; exact ⟨rfl, rfl⟩) | (intro i h; cases h; decide)⟩

theorem witness_ActionOperations_5 : ∃ (s : State) (env : ExecEnv) (n : Nat) (dl : Nat) (payload : Bytes) (w : Bool) (o : GwOutput), Passes (.gwSend n payload dl w) env s ∧ lookup? s.dev.cfg.gw.outputs n = some o ∧ isPublication o = true ∧ ((gwOut s.dev n).seq - (gwOut s.dev n).m).toNat < 512 ∧ gwEmits s.dev = true ∧ s.dev.gw.queue = [] ∧ (allotOf s.dev (gwAllot s.dev 36)).exhausted = true :=
  ⟨ncp { gw := { running := true }, cfg := { gw := { outputs := [(5, { eth := true, kind := .trdp, dstPort := 36, len := 4, ident := 7 })] } }, buf := { allots := [(gwAllot (up {}).dev 36, { exhausted := true })] } }, {}, 5, 1, [1, 2, 3, 4], false, { eth := true, kind := .trdp, dstPort := 36, len := 4, ident := 7 }, by and_intros <;> first | decide +kernel | rfl | (intros; rfl) | (intros; intro h; cases h; done) | (intros; exact ⟨rfl, rfl⟩) | (intro i h; cases h; decide)⟩

theorem witness_ActionOperations_6 : ∃ (s : State) (env : ExecEnv) (n : Nat) (dl : Nat) (payload : Bytes) (w : Bool) (o : GwOutput), Passes (.gwSend n payload dl w) env s ∧ lookup? s.dev.cfg.gw.outputs n = some o ∧ gwEmits s.dev = false :=
  ⟨ncp { cfg := { gw := { outputs := [(5, { eth := true, kind := .trdp, dstPort := 36, len := 4, ident := 7 })] } } }, {}, 5, 1, [1, 2, 3, 4], false, { eth := true, kind := .trdp, dstPort := 36, len := 4, ident := 7 }, by and_intros <;> first | decide +kernel | rfl | (intros; rfl) | (intros; intro h; cases h; done) | (intros; exact ⟨rfl, rfl⟩) | (intro i h; cases h; decide)⟩

theorem witness_ActionOperations_7 : ∃ (s : State) (env : ExecEnv) (on : Bool), Passes (.sleepReady on) env s ∧ s.dev.ssn.fallback = false :=
  ⟨ncp {}, {}, true, by and_intros <;> first | decide +kernel | rfl | (intros; rfl) | (intros; intro h; cases h; done) | (intros; exact ⟨rfl, rfl⟩) | (intro i h; cases h; decide)⟩

theorem witness_ActionOperations_8 : ∃ (s : State) (env : ExecEnv), Passes (.sleepReady true) env s ∧ s.dev.ssn.fallback = true ∧ s.dev.ssn.consent = none ∧ s.dev.glb.deviceId.isSome = true ∧ s.dev.ssn.season = .summer ∧ s.dev.ssn.leaving = none ∧ isReady { s.dev with ssn := { s.dev.ssn with sleepReady := true } } = true :=
  ⟨ncp { glb := { deviceId := some 4 }, ssn := { fallback := true } }, {}, by and_intros <;> first | decide +kernel | rfl | (intros; rfl) | (intros; intro h; cases h; done) | (intros; exact ⟨rfl, rfl⟩) | (intro i h; cases h; decide)⟩

theorem witness_ActionOperations_9 : ∃ (s : State) (env : ExecEnv), Passes .wakeRequest env s ∧ s.dev.ssn.season = .summer ∧ s.dev.ssn.leaving = none ∧ s.dev.ssn.consent = none :=
  ⟨ncp {}, {}, by and_intros <;> first | decide +kernel | rfl | (intros; rfl) | (intros; intro h; cases h; done) | (intros; exact ⟨rfl, rfl⟩) | (intro i h; cases h; decide)⟩

theorem witness_ActionOperations_10 : ∃ (s : State) (env : ExecEnv), Passes .switchover env s ∧ s.dev.asd.journal = [] :=
  ⟨ncp { pair := { role := .active, partnerReady := true, wyUp := true }, asd := { replicating := true }, cfg := { pair := { paired := true } } }, {}, by and_intros <;> first | decide +kernel | rfl | (intros; rfl) | (intros; intro h; cases h; done) | (intros; exact ⟨rfl, rfl⟩) | (intro i h; cases h; decide)⟩

theorem witness_ActionOperations_11 : ∃ (s : State) (env : ExecEnv), Passes .compareResume env s :=
  ⟨ncp { pair := { role := .active, suspended := true, unresolved := [4] } }, {}, by and_intros <;> first | decide +kernel | rfl | (intros; rfl) | (intros; intro h; cases h; done) | (intros; exact ⟨rfl, rfl⟩) | (intro i h; cases h; decide)⟩

theorem witness_ActionOperations_12 : ∃ (s : State) (env : ExecEnv) (n : Nat), Passes (.lateRingAck n) env s :=
  ⟨ncp { flt := { late := [{ reason := 4 }, { reason := 5 }] } }, {}, 1, by and_intros <;> first | decide +kernel | rfl | (intros; rfl) | (intros; intro h; cases h; done) | (intros; exact ⟨rfl, rfl⟩) | (intro i h; cases h; decide)⟩

theorem witness_ActionOperations_13 : ∃ (s : State) (env : ExecEnv) (ix : Nat), Passes (.restore ix) env s ∧ (ledgerOf s.dev ix).state = .retired ∧ (ix = 152 → s.dev.sec.tampered = false) :=
  ⟨ncp { flt := { ledger := [(156, { state := .retired, faulted := true })] } }, {}, 156, by and_intros <;> first | decide +kernel | rfl | (intros; rfl) | (intros; intro h; cases h; done) | (intros; exact ⟨rfl, rfl⟩) | (intro i h; cases h; decide)⟩

theorem witness_ActionOperations_14 : ∃ (s : State) (env : ExecEnv) (ix : Nat), Passes (.restore ix) env s :=
  ⟨ncp {}, {}, 156, by and_intros <;> first | decide +kernel | rfl | (intros; rfl) | (intros; intro h; cases h; done) | (intros; exact ⟨rfl, rfl⟩) | (intro i h; cases h; decide)⟩

theorem witness_ActionOperations_15 : ∃ (s : State) (env : ExecEnv) (n : Nat), Passes (.funcReset (.can n)) env s ∧ n < 8 ∧ (canCfg s.dev.cfg n).enabled = false ∧ s.dev.gw.entries = [] ∧ waitList s.dev n = [] :=
  ⟨ncp { can := [(7, { txErr := 4, retired := true })] }, {}, 7, by and_intros <;> first | decide +kernel | rfl | (intros; rfl) | (intros; intro h; cases h; done) | (intros; exact ⟨rfl, rfl⟩) | (intro i h; cases h; decide)⟩

theorem witness_ActionOperations_16 : ∃ (s : State) (env : ExecEnv) (n : Nat), Passes (.funcReset (.mvb n)) env s ∧ n < 2 ∧ (mvbCfg s.dev.cfg n).enabled = false ∧ s.dev.gw.pages = [] :=
  ⟨ncp { mvb := [(1, { role := .slave, retired := true })] }, {}, 1, by and_intros <;> first | decide +kernel | rfl | (intros; rfl) | (intros; intro h; cases h; done) | (intros; exact ⟨rfl, rfl⟩) | (intro i h; cases h; decide)⟩

theorem witness_ActionOperations_17 : ∃ (s : State) (env : ExecEnv), Passes (.funcReset .gateway) env s ∧ s.dev.cfg.gw.loaded = false :=
  ⟨ncp { gw := { running := true, queue := [(36, [1])], made := 4 } }, {}, by and_intros <;> first | decide +kernel | rfl | (intros; rfl) | (intros; intro h; cases h; done) | (intros; exact ⟨rfl, rfl⟩) | (intro i h; cases h; decide)⟩

theorem witness_ActionOperations_18 : ∃ (s : State) (env : ExecEnv), Passes (.funcReset .topology) env s ∧ s.dev.cfg.top.configured = false :=
  ⟨ncp { now := 7, top := { count := 5, list := [{ id := 4 }] } }, {}, by and_intros <;> first | decide +kernel | rfl | (intros; rfl) | (intros; intro h; cases h; done) | (intros; exact ⟨rfl, rfl⟩) | (intro i h; cases h; decide)⟩

theorem witness_ActionOperations_19 : ∃ (s : State) (env : ExecEnv), Passes (.funcReset .host) env s :=
  ⟨ncp { hif := { linkUp := true, speed := 4, width := 4, bme := true } }, {}, by and_intros <;> first | decide +kernel | rfl | (intros; rfl) | (intros; intro h; cases h; done) | (intros; exact ⟨rfl, rfl⟩) | (intro i h; cases h; decide)⟩

theorem witness_ActionOperations_20 : ∃ (s : State) (env : ExecEnv), Passes (.funcReset .splitCore) env s ∧ s.dev.ccr.split = true :=
  ⟨ncp { ccr := { split := true, splitStopped := true } }, {}, by and_intros <;> first | decide +kernel | rfl | (intros; rfl) | (intros; intro h; cases h; done) | (intros; exact ⟨rfl, rfl⟩) | (intro i h; cases h; decide)⟩

theorem witness_ActionOperations_21 : ∃ (s : State) (env : ExecEnv) (b : FuncBlock), Passes (.funcReset b) env s ∧ (match b with | .other _ => true | .can k => decide (8 ≤ k) | .mvb k => decide (2 ≤ k) | .splitCore => !s.dev.ccr.split | _ => false) = true :=
  ⟨ncp {}, {}, .mvb 2, by and_intros <;> first | decide +kernel | rfl | (intros; rfl) | (intros; intro h; cases h; done) | (intros; exact ⟨rfl, rfl⟩) | (intro i h; cases h; decide)⟩

theorem witness_ActionOperations_22 : ∃ (s : State) (env : ExecEnv), Passes (.sysReset true) env s :=
  ⟨ncp {}, {}, by and_intros <;> first | decide +kernel | rfl | (intros; rfl) | (intros; intro h; cases h; done) | (intros; exact ⟨rfl, rfl⟩) | (intro i h; cases h; decide)⟩

theorem witness_ActionOperations_23 : ∃ (s : State) (env : ExecEnv), Passes (.sysReset false) env s :=
  ⟨ncp {}, {}, by and_intros <;> first | decide +kernel | rfl | (intros; rfl) | (intros; intro h; cases h; done) | (intros; exact ⟨rfl, rfl⟩) | (intro i h; cases h; decide)⟩

theorem witness_KeyUpdateAndRegisterOperations_0 : ∃ (s : State) (env : ExecEnv) (b : KeyBlob) (n : Nat) (desc : SlotDesc), Passes (.keyInstall b) env s ∧ s.dev.ncp.pend = [] ∧ s.dev.msc.entropyDone = true ∧ secRefusal s.dev = none ∧ b.body = .slot n desc ∧ 0 < n ∧ n < 64 ∧ descOk desc = true ∧ lookup? s.dev.sec.slots n = none ∧ wrapCheck (masterOf env.via) b s.dev = none ∧ desc.persist = false :=
  ⟨ncp { msc := { entropyOk := true, entropyDone := true } }, {}, tBlob, 63, { type_ := 1, use := 1, masters := 1, internal := true, client := false, lc := 2 }, by and_intros <;> first | decide +kernel | exact blob_unwraps _ _ rfl | rfl⟩

theorem witness_KeyUpdateAndRegisterOperations_1 : ∃ (s : State) (env : ExecEnv) (b : KeyBlob) (r : Res), Passes (.keyInstall b) env s ∧ s.dev.ncp.pend = [] ∧ (s.dev.msc.entropyDone = true ∨ s.dev.sec.tampered = true) ∧ secRefusal s.dev = some r :=
  ⟨ncp { sec := { tampered := true } }, {}, tBlob, { status := 0x0404, reason := 0x1231 }, by and_intros <;> first | decide +kernel | rfl | (intros; rfl) | (intros; intro h; cases h; done) | (intros; exact ⟨rfl, rfl⟩) | (intro i h; cases h; decide)⟩

theorem witness_KeyUpdateAndRegisterOperations_2 : ∃ (s : State) (env : ExecEnv) (n : Nat) (x : KeySlot), Passes (.keyErase (.slot n)) env s ∧ s.dev.ncp.pend = [] ∧ s.dev.sec.tampered = false ∧ s.dev.ccr.gaiStopped = false ∧ 0 < n ∧ n < 64 ∧ lookup? s.dev.sec.slots n = some x ∧ x.st = .written ∧ s.dev.ports = [] ∧ s.dev.buf.frames = [] ∧ s.dev.ncp.sessions = [] :=
  ⟨ncp { msc := { entropyOk := true, entropyDone := true }, sec := { slots := [(63, tCak)] } }, {}, 63, tCak, by and_intros <;> first | decide +kernel | rfl | (intros; rfl) | (intros; intro h; cases h; done) | (intros; exact ⟨rfl, rfl⟩) | (intro i h; cases h; decide)⟩

theorem witness_KeyUpdateAndRegisterOperations_3 : ∃ (s : State) (env : ExecEnv) (t : KeyTarget), Passes (.keyErase t) env s ∧ s.dev.sec.tampered = true ∧ s.dev.ncp.pend = [] :=
  ⟨ncp { sec := { tampered := true } }, {}, .slot 63, by and_intros <;> first | decide +kernel | rfl | (intros; rfl) | (intros; intro h; cases h; done) | (intros; exact ⟨rfl, rfl⟩) | (intro i h; cases h; decide)⟩

theorem witness_KeyUpdateAndRegisterOperations_4 : ∃ (s : State) (env : ExecEnv) (off : Nat) (data : Bytes) (u : Update), Passes (.updateBlock false off data) env s ∧ s.dev.boot.update.getD {} = u ∧ (s.dev.boot.update = none → s.dev.boot.recovery = false → s.dev.boot.solstice = none ∧ anyTrial s.dev = false) ∧ 1 ≤ data.length ∧ data.length ≤ 1984 ∧ otherKind u off data = false ∧ conflicts u off data = false ∧ off + data.length ≤ maxPackage ∧ (∀ n, pkgLength (addBlock u off data) = some n → off + data.length ≤ n) :=
  ⟨ncp { buf := { spillReady := true } }, {}, 0, [1, 2, 3, 4], {}, by and_intros <;> first | decide +kernel | rfl | (intros; rfl) | (intros; intro h; cases h; done) | (intros; exact ⟨rfl, rfl⟩) | (intro i h; cases h; decide)⟩

theorem witness_KeyUpdateAndRegisterOperations_5 : ∃ (s : State) (env : ExecEnv) (off : Nat) (data : Bytes) (u : Update), Passes (.updateBlock false off data) env s ∧ s.dev.boot.update = some u ∧ 1 ≤ data.length ∧ data.length ≤ 1984 ∧ (otherKind u off data = true ∨ conflicts u off data = true) :=
  ⟨ncp { buf := { spillReady := true }, boot := { update := some { blocks := [(0, [1, 2, 3, 4, 5])] } } }, {}, 3, [4, 6], { blocks := [(0, [1, 2, 3, 4, 5])] }, by and_intros <;> first | decide +kernel | rfl | (intros; rfl) | (intros; intro h; cases h; done) | (intros; exact ⟨rfl, rfl⟩) | (intro i h; cases h; decide)⟩

theorem witness_KeyUpdateAndRegisterOperations_6 : ∃ (s : State) (env : ExecEnv) (off : Nat) (data : Bytes), Passes (.updateBlock true off data) env s :=
  ⟨ncp { buf := { spillReady := true } }, {}, 0, [], by and_intros <;> first | decide +kernel | rfl | (intros; rfl) | (intros; intro h; cases h; done) | (intros; exact ⟨rfl, rfl⟩) | (intro i h; cases h; decide)⟩

theorem witness_KeyUpdateAndRegisterOperations_7 : ∃ (s : State) (env : ExecEnv) (u : Update) (i : Nat), Passes .updateVerify env s ∧ s.dev.boot.update.getD {} = u ∧ firstMissing u ((pkgLength u).getD 64) 0 = some i :=
  ⟨ncp { buf := { spillReady := true } }, {}, {}, 0, by and_intros <;> first | decide +kernel | rfl | (intros; rfl) | (intros; intro h; cases h; done) | (intros; exact ⟨rfl, rfl⟩) | (intro i h; cases h; decide)⟩

theorem witness_KeyUpdateAndRegisterOperations_8 : ∃ (s : State) (env : ExecEnv) (u : Update) (pkg : Bytes) (b : Bytes) (k : Nat) (base : Option Bytes) (img : Image), Passes .updateVerify env s ∧ s.dev.boot.update = some u ∧ s.dev.boot.recovery = false ∧ pkgLength u = some pkg.length ∧ firstMissing u pkg.length 0 = none ∧ updBytes u 0 pkg.length = pkg ∧ k = beAt pkg 4 1 - 1 ∧ base = (pointed (imageKind s.dev k)).image.map (·.bytes) ∧ headerOk pkg = true ∧ (isFullPkg pkg = true ∨ base.map (fun b => (Config.sha256 b).toNat) = some (beAt pkg 20 32)) ∧ rebuild base pkg = some b ∧ img = { bytes := b, digestOk := env.verify.digestOk, sigOk := env.verify.sigOk, signer := env.verify.signer, content := env.verify.content } ∧ env.verify.flashOk = true ∧ checkImage k img s.dev = none :=
  ⟨ncp { buf := { spillReady := true }, otp := tOtp, boot := { update := some tUpd } }, tVerify, tUpd, tPkg, (image 2 .opaqueCode).bytes, 1, none, image 2 .opaqueCode, by and_intros <;> first | decide +kernel | rfl | (intros; rfl) | (intros; intro h; cases h; done) | (intros; exact ⟨rfl, rfl⟩) | (intro i h; cases h; decide)⟩

theorem witness_KeyUpdateAndRegisterOperations_9 : ∃ (s : State) (env : ExecEnv) (u : Update) (pkg : Bytes) (b : Bytes) (k : Nat) (base : Option Bytes) (img : Image) (e : ImgErr), Passes .updateVerify env s ∧ s.dev.boot.update = some u ∧ s.dev.boot.recovery = false ∧ pkgLength u = some pkg.length ∧ firstMissing u pkg.length 0 = none ∧ updBytes u 0 pkg.length = pkg ∧ k = beAt pkg 4 1 - 1 ∧ base = (pointed (imageKind s.dev k)).image.map (·.bytes) ∧ headerOk pkg = true ∧ (isFullPkg pkg = true ∨ base.map (fun b => (Config.sha256 b).toNat) = some (beAt pkg 20 32)) ∧ rebuild base pkg = some b ∧ img = { bytes := b, digestOk := env.verify.digestOk, sigOk := env.verify.sigOk, signer := env.verify.signer, content := env.verify.content } ∧ env.verify.flashOk = true ∧ checkImage k img s.dev = some e :=
  ⟨ncp { buf := { spillReady := true }, boot := { update := some tUpd } }, tVerify, tUpd, tPkg, (image 2 .opaqueCode).bytes, 1, none, image 2 .opaqueCode, .sig, by and_intros <;> first | decide +kernel | rfl | (intros; rfl) | (intros; intro h; cases h; done) | (intros; exact ⟨rfl, rfl⟩) | (intro i h; cases h; decide)⟩

theorem witness_KeyUpdateAndRegisterOperations_10 : ∃ (s : State) (env : ExecEnv), Passes .updateAbort env s :=
  ⟨ncp { buf := { spillReady := true }, boot := { update := some tUpd } }, {}, by and_intros <;> first | decide +kernel | rfl | (intros; rfl) | (intros; intro h; cases h; done) | (intros; exact ⟨rfl, rfl⟩) | (intro i h; cases h; decide)⟩

theorem witness_KeyUpdateAndRegisterOperations_11 : ∃ (s : State) (env : ExecEnv) (v : Word), Passes (.regWrite 0x200 v false) env s :=
  ⟨ncp {}, {}, 77, by and_intros <;> first | decide +kernel | rfl | (intros; rfl) | (intros; intro h; cases h; done) | (intros; exact ⟨rfl, rfl⟩) | (intro i h; cases h; decide)⟩

theorem witness_KeyUpdateAndRegisterOperations_12 : ∃ (s : State) (env : ExecEnv) (v : Word), Passes (.regWrite 0x200 v true) env s ∧ (s.dev.asd.replicating = false ∨ s.dev.pair.wyUp = false) ∧ s.dev.flt.late.length < 256 :=
  ⟨ncp {}, {}, 77, by and_intros <;> first | decide +kernel | rfl | (intros; rfl) | (intros; intro h; cases h; done) | (intros; exact ⟨rfl, rfl⟩) | (intro i h; cases h; decide)⟩

theorem witness_KeyUpdateAndRegisterOperations_13 : ∃ (s : State) (env : ExecEnv) (a : Nat) (v : Word) (m : Bool), Passes (.regWrite a v m) env s ∧ (a % 4 ≠ 0 ∨ (readReg s.dev a).isNone = true) :=
  ⟨ncp {}, {}, 0x202, 77, false, by and_intros <;> first | decide +kernel | rfl | (intros; rfl) | (intros; intro h; cases h; done) | (intros; exact ⟨rfl, rfl⟩) | (intro i h; cases h; decide)⟩

theorem witness_HostRings_0 : ∃ (s : State) (q : Nat) (pi : Nat), BusUp s ∧ q < 64 ∧ pi < 4096 ∧ passesCi (hifPage s.dev q).txSize (hifPage s.dev q).txPi (hifPage s.dev q).txCi pi = false :=
  ⟨up { hif := { pages := [(63, { txSize := 6, txCi := 5, txPi := 6 })] } }, 63, 4, by decide +kernel⟩

theorem witness_HostRings_1 : ∃ (s : State) (q : Nat) (pi : Nat), BusUp s ∧ q < 64 ∧ pi < 4096 ∧ passesCi (hifPage s.dev q).txSize (hifPage s.dev q).txPi (hifPage s.dev q).txCi pi = true :=
  ⟨up { hif := { pages := [(63, { txSize := 6, txCi := 5, txPi := 6 })] } }, 63, 5, by decide +kernel⟩

theorem witness_HostRings_2 : ∃ (s : State) (q : Nat) (pi : Nat), BusUp s ∧ q < 64 ∧ pi < 4096 ∧ passesCi (hifPage s.dev q).rxSize (hifPage s.dev q).rxPi (hifPage s.dev q).rxCi pi = false :=
  ⟨up { hif := { pages := [(63, { rxSize := 6, rxCi := 5, rxPi := 6 })] } }, 63, 4, by decide +kernel⟩

theorem witness_HostRings_3 : ∃ (s : State) (q : Nat) (pi : Nat), BusUp s ∧ q < 64 ∧ pi < 4096 ∧ passesCi (hifPage s.dev q).rxSize (hifPage s.dev q).rxPi (hifPage s.dev q).rxCi pi = true :=
  ⟨up { hif := { pages := [(63, { rxSize := 6, rxCi := 5, rxPi := 6 })] } }, 63, 5, by decide +kernel⟩

theorem witness_HostRings_4 : ∃ (s : State) (q : Nat) (rx : Bool), BusUp s ∧ q < 64 ∧ ((channel s.dev q rx).st = .disabled ∨ (channel s.dev q rx).st = .stopped) :=
  ⟨up {}, 63, true, by decide +kernel⟩

theorem witness_HostRings_5 : ∃ (s : State) (q : Nat) (rx : Bool), BusUp s ∧ q < 64 ∧ ((channel s.dev q rx).st = .running ∨ (channel s.dev q rx).st = .stalled) :=
  ⟨up { hif := { pages := [(63, { tx := { st := .stalled } })] } }, 63, false, by decide +kernel⟩

theorem witness_HostRings_6 : ∃ (s : State) (q : Nat), BusUp s ∧ 64 ≤ q ∧ q < 68 ∧ (channel s.dev q true).st = .stopped ∧ engineOn s.dev = false :=
  ⟨up { hif := { pages := [(67, { rx := { st := .stopped } })] } }, 67, by decide +kernel⟩

theorem witness_HostRings_7 : ∃ (s : State) (q : Nat), BusUp s ∧ q < 68 :=
  ⟨up {}, 67, by decide +kernel⟩

theorem witness_HostRings_8 : ∃ (s : State) (q : Nat), BusUp s ∧ q < 64 ∧ (engineOn s.dev = false ∨ posted (hifPage s.dev q).txSize (hifPage s.dev q).txPi (hifPage s.dev q).txCi = 0) :=
  ⟨up {}, 63, by decide +kernel⟩

theorem witness_HostRings_9 : ∃ (s : State) (q : Nat), BusUp s ∧ q < 64 ∧ engineOn s.dev = true ∧ (lookupD s.dev.hif.spaces q {}).mode = 1 ∧ posted (hifPage s.dev q).txSize (hifPage s.dev q).txPi (hifPage s.dev q).txCi = 1 ∧ (hifPage s.dev q).txBase.toNat + (hifPage s.dev q).txCi * 32 + 32 ≤ 2 ^ 48 :=
  ⟨up { hif := { linkUp := true, bme := true, spaces := [(63, { mode := 1 })], pages := [(63, { tx := { st := .running }, txSize := 6, txPi := 1 })] } }, 63, by decide +kernel⟩

theorem witness_HostRings_10 : ∃ (s : State) (q : Nat) (tx : Bool) (rx : Bool), BusUp s ∧ q < 68 ∧ ((tx = false ∨ 64 ≤ q) ∧ rx = false) :=
  ⟨up {}, 67, true, false, by decide +kernel⟩

theorem witness_HostRings_11 : ∃ (s : State) (q : Nat), BusUp s ∧ q < 64 ∧ (channel s.dev q true).st = .stalled ∧ (channel s.dev q true).stall = some .rxWrite :=
  ⟨up { hif := { pages := [(63, { rx := { st := .stalled, stall := some .rxWrite } })] } }, 63, by decide +kernel⟩

theorem witness_HostRings_12 : ∃ (s : State) (q : Nat), BusUp s ∧ q < 64 ∧ engineOn s.dev = true ∧ (channel s.dev q false).st = .stalled ∧ (channel s.dev q false).stall = some .txDd ∧ (lookupD s.dev.hif.spaces q {}).mode = 1 ∧ (hifPage s.dev q).txBase.toNat + (hifPage s.dev q).txCi * 32 + 32 ≤ 2 ^ 48 :=
  ⟨up { hif := { linkUp := true, bme := true, spaces := [(63, { mode := 1 })], pages := [(63, { txSize := 6, txCi := 63, tx := { st := .stalled, stall := some .txDd, result := 2 } })] } }, 63, by decide +kernel⟩

theorem witness_HostRings_13 : ∃ (s : State) (q : Nat) (rx : Bool), BusUp s ∧ q < 64 ∧ (channel s.dev q rx).st ≠ .stalled :=
  ⟨up {}, 63, false, by decide +kernel⟩

theorem witness_HostRings_14 : ∃ (s : State) (q : Nat), BusUp s ∧ q < 64 ∧ (channel s.dev q false).st = .stalled ∧ (channel s.dev q false).stall = some .txDd :=
  ⟨up { hif := { pages := [(63, { txSize := 6, txCi := 63, tx := { st := .stalled, stall := some .txDd } })] } }, 63, by decide +kernel⟩

theorem witness_HostRings_15 : ∃ (s : State) (q : Nat), BusUp s ∧ q < 64 ∧ engineOn s.dev = true ∧ (channel s.dev q false).st = .stalled ∧ (channel s.dev q false).stall = some .txData ∧ (lookupD s.dev.hif.spaces q {}).mode = 1 ∧ (hifPage s.dev q).txBase.toNat + (hifPage s.dev q).txCi * 32 + 32 ≤ 2 ^ 48 :=
  ⟨up { hif := { linkUp := true, bme := true, spaces := [(63, { mode := 1 })], pages := [(63, { txSize := 6, txCi := 63, tx := { st := .stalled, stall := some .txData } })] } }, 63, by decide +kernel⟩

theorem witness_HostRings_16 : ∃ (s : State) (q : Nat) (c : Copy) (rest : List Copy), BusUp s ∧ q < 64 ∧ (channel s.dev q true).st = .stalled ∧ (channel s.dev q true).stall = some .rxWrite ∧ (queueOf s.dev (304 + q)).copies = c :: rest :=
  ⟨up { hif := { pages := [(63, { rx := { st := .stalled, stall := some .rxWrite } })] }, buf := { frames := [(1, { tFrame with refs := 1 })], queues := [(367, { copies := [{ frame := 1 }] })] } }, 63, { frame := 1 }, [], by decide +kernel⟩

theorem witness_HostRings_17 : ∃ (s : State) (n : Nat), BusUp s ∧ n < 4 ∧ (channel s.dev (64 + n) true).st = .stalled ∧ (channel s.dev (64 + n) true).stall = some .cmdRead ∧ (sessionOf s.dev n).rings.waiting = [] ∧ engineOn s.dev = false :=
  ⟨up { hif := { pages := [(67, { rx := { st := .stalled, stall := some .cmdRead } })] }, ncp := { sessions := [(3, { rings := { cmdCi := 255 } })] } }, 3, by decide +kernel⟩

theorem witness_HostRings_18 : ∃ (s : State) (space : Nat), BusUp s ∧ space < 128 :=
  ⟨up { hif := { tlb := [{ space := 127, shift := 12, page := 3, frame := 4, r := true, w := true }] } }, 127, by decide +kernel⟩

theorem witness_HostRings_19 : ∃ (s : State) (heads : Tbl TxDesc) (q : Nat) (t : TxDesc), Up s ∧ engineOn s.dev = true ∧ pickTx heads s.dev = some q ∧ lookup? heads q = some t ∧ (lookupD s.dev.hif.spaces q {}).mode = 1 ∧ t.rsv = false ∧ 60 ≤ t.len ∧ t.len ≤ 9212 ∧ t.addr + t.len ≤ 2 ^ 48 ∧ (hifPage s.dev q).txBase.toNat + (hifPage s.dev q).txCi * 32 + 32 ≤ 2 ^ 48 :=
  ⟨up { hif := { linkUp := true, bme := true, spaces := [(63, { mode := 1 })], pages := [(63, { tx := { st := .running }, txSize := 6, txPi := 1 })] } }, [(63, { bytes := [0, 16, 0, 0, 0, 0, 0, 0, 60] ++ zeros 23 })], 63, { bytes := [0, 16, 0, 0, 0, 0, 0, 0, 60] ++ zeros 23 }, by decide +kernel⟩

theorem witness_HostRings_20 : ∃ (s : State) (heads : Tbl TxDesc) (q : Nat) (t : TxDesc), Up s ∧ engineOn s.dev = true ∧ pickTx heads s.dev = some q ∧ lookup? heads q = some t ∧ (lookupD s.dev.hif.spaces q {}).mode = 1 ∧ (t.rsv = true ∨ t.len < 60 ∨ 9212 < t.len) ∧ (hifPage s.dev q).txBase.toNat + (hifPage s.dev q).txCi * 32 + 32 ≤ 2 ^ 48 :=
  ⟨up { hif := { linkUp := true, bme := true, spaces := [(63, { mode := 1 })], pages := [(63, { tx := { st := .running }, txSize := 6, txPi := 1 })] } }, [(63, { bytes := [0, 16, 0, 0, 0, 0, 0, 0, 59] ++ zeros 23 })], 63, { bytes := [0, 16, 0, 0, 0, 0, 0, 0, 59] ++ zeros 23 }, by decide +kernel⟩

theorem witness_HostRings_21 : ∃ (s : State) (heads : Tbl TxDesc) (q : Nat), Up s ∧ engineOn s.dev = true ∧ pickTx heads s.dev = some q ∧ (lookupD s.dev.hif.spaces q {}).mode = 0 :=
  ⟨up { hif := { linkUp := true, bme := true, pages := [(63, { tx := { st := .running }, txSize := 6, txPi := 1 })] } }, [], 63, by decide +kernel⟩

theorem witness_HostRings_22 : ∃ (s : State), Up s ∧ engineOn s.dev = false :=
  ⟨up {}, by decide +kernel⟩

theorem witness_HostRings_23 : ∃ (s : State) (v : HostView) (q : Nat) (i : Nat) (a : Nat) (b : Bytes) (c : Copy) (rest : List Copy) (f : Frame), Up s ∧ engineOn s.dev = true ∧ pickRx s.dev = some q ∧ (queueOf s.dev (304 + q)).copies = c :: rest ∧ copyAge s.dev c ≤ limitTicks s.dev.cfg (304 + q) ∧ frameOf s.dev c.frame = some f ∧ splitBuffers (v.rx.take (posted (hifPage s.dev q).rxSize (hifPage s.dev q).rxPi (hifPage s.dev q).rxCi)) (hifPage s.dev q).rxCi (hostBytes s.dev f c) = some [(i, a, b)] ∧ (lookupD s.dev.hif.spaces q {}).mode = 1 ∧ a + b.length ≤ 2 ^ 48 ∧ (hifPage s.dev q).rxBase.toNat + 131072 ≤ 2 ^ 48 ∧ (hifPage s.dev q).rxSize ≤ 12 :=
  ⟨tRxS, tRx, 63, 0, 4096, hostBytes tRxS.dev tFrame { frame := 1 }, { frame := 1 }, [], tFrame, by decide +kernel⟩

theorem witness_HostRings_24 : ∃ (s : State) (lane : Nat) (q : Nat) (idx : Nat), Up s ∧ lane < 4 ∧ q < 68 ∧ idx < 4096 ∧ isRunning s.dev q false = true ∧ (ledgerOf s.dev (26 + lane)).state = .inService ∧ (ledgerOf s.dev (26 + lane)).times = [] ∧ 1 < (ledgerCfg s.dev (26 + lane)).limit ∧ (channel s.dev q false).retries < (ledgerCfg s.dev (26 + lane)).retryMax :=
  ⟨up { hif := { pages := [(67, { tx := { st := .running } })] } }, 3, 67, 4095, by decide +kernel⟩

theorem witness_HostRings_25 : ∃ (s : State) (lane : Nat) (q : Nat) (idx : Nat), Up s ∧ lane < 4 ∧ q < 68 ∧ idx < 4096 ∧ isRunning s.dev q false = true ∧ (ledgerOf s.dev (26 + lane)).state = .inService ∧ (ledgerOf s.dev (26 + lane)).times = [] ∧ 1 < (ledgerCfg s.dev (26 + lane)).limit ∧ (ledgerCfg s.dev (26 + lane)).retryMax ≤ (channel s.dev q false).retries :=
  ⟨up { hif := { pages := [(67, { tx := { st := .running, retries := 16 } })] } }, 3, 67, 4095, by decide +kernel⟩

theorem witness_HostRings_26 : ∃ (s : State) (lane : Nat) (q : Nat) (idx : Nat), Up s ∧ lane < 4 ∧ q < 68 ∧ idx < 4096 ∧ isRunning s.dev q false = false :=
  ⟨up {}, 3, 67, 4095, by decide +kernel⟩

theorem witness_HostRings_27 : ∃ (s : State), Up s :=
  ⟨up { hif := { linkUp := true, speed := 4, width := 4 }, ncp := { sessions := [(3, { open_ := true, transport := some .pcie })] } }, by decide +kernel⟩

theorem witness_HostRings_28 : ∃ (s : State) (speed : Nat) (width : Nat), Up s ∧ speed < 8 ∧ width ≤ 4 :=
  ⟨up { hif := { pages := [(63, { rx := { st := .running } })] } }, 4, 4, by decide +kernel⟩

theorem witness_HostRings_29 : ∃ (s : State) (q : Nat) (t : Nat), Up s ∧ q < 64 ∧ q ∈ s.dev.hif.irqPend ∧ lookup? s.dev.hif.irqLast q = some t ∧ t + (hifPage s.dev q).irqDelay * 1000000 ≤ s.dev.now :=
  ⟨up { now := 5, hif := { irqPend := [63], irqLast := [(63, 5)] } }, 63, 5, by decide +kernel⟩

theorem witness_HostRings_30 : ∃ (s : State) (q : Nat), Up s ∧ q < 64 ∧ (q ∉ s.dev.hif.irqPend ∨ s.dev.now < lookupD s.dev.hif.irqLast q 0 + (hifPage s.dev q).irqDelay * 1000000) :=
  ⟨up {}, 63, by decide +kernel⟩

theorem witness_RegisterWrites_0 : ∃ (s : State) (path : Path), BusUp s ∧ (path = .core → renioftRuns s.dev = true) :=
  ⟨up {}, .ncp 3, by decide +kernel⟩

theorem witness_RegisterWrites_1 : ∃ (s : State) (path : Path) (a : Nat) (whole : Bool), BusUp s ∧ (path = .core → renioftRuns s.dev = true) ∧ (whole = false ∨ a % 4 ≠ 0 ∨ (readReg s.dev a).isNone = true) :=
  ⟨up {}, .pcie, 0x201, true, by decide +kernel⟩

theorem witness_RegisterWrites_2 : ∃ (s : State), Up s ∧ s.dev.boot.inReset = true :=
  ⟨up { boot := { inReset := true } }, by decide +kernel⟩

theorem witness_RegisterWrites_3 : ∃ (s : State) (p : Nat) (b : Nat), BusUp s ∧ p < 38 ∧ b < 2 ∧ (readPort s.dev p 0x104).isSome = true :=
  ⟨up {}, 37, 1, by decide +kernel⟩

theorem witness_RegisterWrites_4 : ∃ (s : State) (p : Nat) (o : Nat) (b : Nat), BusUp s ∧ p < 38 ∧ o < 4096 ∧ o % 4 = 0 ∧ b < 32 ∧ (readPort s.dev p o).isSome = true ∧ (o ≠ 0x104 ∨ 2 ≤ b) :=
  ⟨up {}, 37, 0x104, 31, by decide +kernel⟩

theorem witness_RegisterWrites_5 : ∃ (s : State) (p : Nat) (o : Nat) (b : Nat), BusUp s ∧ p < 38 ∧ o < 4096 ∧ o % 4 = 0 ∧ b < 32 ∧ (readPort s.dev p o).isSome = false :=
  ⟨up {}, 37, 4092, 31, by decide +kernel⟩

theorem witness_RegisterWrites_6 : ∃ (s : State), BusUp s ∧ s.dev.glb.lock.getLsbD 3 = true :=
  ⟨up { glb := { lock := 8 } }, by decide +kernel⟩

theorem witness_RegisterWrites_7 : ∃ (s : State), BusUp s :=
  ⟨up {}, by decide +kernel⟩

theorem witness_RegisterWrites_8 : ∃ (s : State) (k : Nat), BusUp s ∧ k < 10 :=
  ⟨up {}, 9, by decide +kernel⟩

theorem witness_RegisterWrites_9 : ∃ (s : State) (n : Nat), BusUp s ∧ n < 512 :=
  ⟨up { flt := { late := [{ reason := 4 }, { reason := 5 }] } }, 511, by decide +kernel⟩

theorem witness_RegisterWrites_10 : ∃ (s : State) (i : Nat), Up s ∧ reportable i = true ∧ i ≠ 32 ∧ i ≠ 33 ∧ (ledgerOf s.dev i).times = [] ∧ 1 < (ledgerCfg s.dev i).limit ∧ impairedNow s.dev = s.dev.flt.impaired :=
  ⟨up { flt := { ledger := [(137, { hard := 1 })] } }, 137, by decide +kernel⟩

theorem witness_RegisterWrites_11 : ∃ (s : State) (i : Nat), Up s ∧ i < 24 ∧ (ledgerOf s.dev i).state = .inService :=
  ⟨up { ports := [(23, { linkUp := true, txOn := true })] }, 23, by decide +kernel⟩

theorem witness_RegisterWrites_12 : ∃ (s : State) (i : Nat), Up s ∧ 64 ≤ i ∧ i < 96 ∧ (ledgerOf s.dev i).state = .inService :=
  ⟨up {}, 95, by decide +kernel⟩

theorem witness_RegisterWrites_13 : ∃ (s : State) (i : Nat), Up s ∧ 128 ≤ i ∧ i < 138 ∧ (ledgerOf s.dev i).state = .inService :=
  ⟨up {}, 137, by decide +kernel⟩

theorem witness_RegisterWrites_14 : ∃ (s : State) (ch : Nat), Up s ∧ ch < 2 ∧ (ledgerOf s.dev (32 + ch)).corrected ≠ 0xFFFF :=
  ⟨up {}, 1, by decide +kernel⟩

theorem witness_StartsAndResets_0 : ∃ (s : State), s.dev.ssn.season ≠ .winter :=
  ⟨up { ports := [(3, {})], keeper := { bootCount := 4 } }, by decide +kernel⟩

theorem witness_StartsAndResets_1 : ∃ (s : State), s.dev.ssn.season = .winter :=
  ⟨st { ssn := { season := .winter } }, by decide +kernel⟩

theorem witness_StartsAndResets_2 : ∃ (s : State) (e : ColdEnv), s.dev.ssn.season = .off ∧ e.wrstLow = true :=
  ⟨st {}, { wrstLow := true }, by decide +kernel⟩

theorem witness_StartsAndResets_3 : ∃ (s : State) (e : ColdEnv), s.dev.ssn.season = .off ∧ e.wrstLow = false ∧ e.rom.flashOk = true ∧ e.ticket = none ∧ s.dev.keeper.valid = true :=
  ⟨st { keeper := { valid := true, bootCount := 4 } }, {}, by decide +kernel⟩

theorem witness_StartsAndResets_4 : ∃ (s : State) (e : ColdEnv), s.dev.ssn.season = .off ∧ e.wrstLow = false ∧ e.rom.flashOk = true ∧ e.ticket = none ∧ s.dev.keeper.valid = false ∧ (s.dev.otp.lc = 1 ∨ s.dev.otp.lc = 2) ∧ s.dev.otp.epochFuses < 63 :=
  ⟨st { keeper := { valid := false, bootCount := 4 }, otp := { lc := 2, epochFuses := 62 } }, {}, by decide +kernel⟩

theorem witness_StartsAndResets_5 : ∃ (s : State) (e : ColdEnv), s.dev.ssn.season = .off ∧ e.wrstLow = false ∧ e.rom.flashOk = false :=
  ⟨st { keeper := { valid := true, bootCount := 4 } }, { rom := { flashOk := false } }, by decide +kernel⟩

theorem witness_StartsAndResets_6 : ∃ (s : State), s.dev.ssn.season ≠ .off :=
  ⟨up {}, by decide +kernel⟩

theorem witness_StartsAndResets_7 : ∃ (s : State), Up s ∧ s.dev.boot.coldHeld = false :=
  ⟨up { ssn := { renioft := true }, glb := { rstCount := 0xFFFF } }, by decide +kernel⟩

theorem witness_StartsAndResets_8 : ∃ (s : State), (powered s.dev = false ∨ s.dev.boot.coldHeld = true) :=
  ⟨st { ssn := { season := .spring }, boot := { coldHeld := true } }, by decide +kernel⟩

theorem witness_StartsAndResets_9 : ∃ (s : State), s.dev.boot.wrstLow = true ∧ s.dev.boot.coldHeld = true :=
  ⟨st { ssn := { season := .spring }, boot := { coldHeld := true, wrstLow := true } }, by decide +kernel⟩

theorem witness_StartsAndResets_10 : ∃ (s : State), s.dev.boot.wrstLow = true ∧ s.dev.boot.coldHeld = false ∧ s.dev.boot.inReset = true :=
  ⟨st { ssn := { season := .spring, renioft := false }, boot := { inReset := true, wrstLow := true, warm := true } }, by decide +kernel⟩

theorem witness_StartsAndResets_11 : ∃ (s : State), s.dev.boot.wrstLow = false :=
  ⟨up {}, by decide +kernel⟩

theorem witness_StartsAndResets_12 : ∃ (s : State), Up s ∧ solsticeDue s.dev = true ∧ s.dev.boot.pairWait = none ∧ stagedKinds s.dev = [2] :=
  ⟨up { glb := { deviceId := some 1 }, tim := { mode := .locked, sec := 5 }, ssn := { renioft := true }, boot := { solstice := some (5, 0) }, flash := [(2, { b := { state := .staged, image := some (image 3 (.spring { cfg := {} })) } })], otp := tOtp }, by decide +kernel⟩

theorem witness_StartsAndResets_13 : ∃ (s : State), Up s ∧ solsticeDue s.dev = true ∧ s.dev.boot.pairWait = none ∧ (0 ∈ stagedKinds s.dev ∨ 1 ∈ stagedKinds s.dev) :=
  ⟨up { glb := { deviceId := some 1 }, tim := { mode := .locked, sec := 5 }, ssn := { renioft := true }, boot := { solstice := some (5, 0) }, flash := [(1, { b := { state := .staged, image := some (image 2 .opaqueCode) } })], otp := tOtp }, by decide +kernel⟩

theorem witness_StartsAndResets_14 : ∃ (s : State), Up s ∧ (solsticeDue s.dev = false ∨ s.dev.boot.pairWait.isSome = true) :=
  ⟨up {}, by decide +kernel⟩

theorem witness_StartsAndResets_15 : ∃ (s : State) (t : Nat), Up s ∧ s.dev.boot.pairWait = some t ∧ s.dev.pair.partnerReady = true :=
  ⟨up { now := 5, boot := { pairWait := some 50 }, pair := { role := .active, partnerReady := true } }, 50, by decide +kernel⟩

theorem witness_StartsAndResets_16 : ∃ (s : State) (t : Nat), Up s ∧ s.dev.boot.pairWait = some t ∧ t ≤ s.dev.now :=
  ⟨up { now := 5, boot := { pairWait := some 5 } }, 5, by decide +kernel⟩

theorem witness_StartsAndResets_17 : ∃ (s : State) (t : Nat), Up s ∧ s.dev.boot.pairWait = some t ∧ s.dev.now < t :=
  ⟨up { now := 4, boot := { pairWait := some 5 } }, 5, by decide +kernel⟩

theorem witness_StartsAndResets_18 : ∃ (s : State) (t : Nat), Up s ∧ s.dev.ssn.season = .summer ∧ renioftRuns s.dev = true ∧ s.dev.boot.cleanSince = some t ∧ t + s.dev.cfg.boot.confirmS * 1000000000000 ≤ s.dev.now ∧ trialKind s.dev 1 = true :=
  ⟨up { now := 60000000000000, ssn := { renioft := true }, boot := { cleanSince := some 0, watchdog := some 9 }, flash := [(1, { a := { state := .trial, image := some (image 2 .opaqueCode) } }), (4, { ptrB := true, b := { state := .trial } })] }, 0, by decide +kernel⟩

theorem witness_StartsAndResets_19 : ∃ (s : State) (t : Nat), Up s ∧ (∀ k ∈ ([0, 1, 4] : List Nat), trialKind s.dev k = false) ∧ s.dev.boot.splitSince = some t ∧ s.dev.ccr.splitStopped = false ∧ t + s.dev.cfg.boot.confirmS * 1000000000000 ≤ s.dev.now ∧ trialKind s.dev 3 = true :=
  ⟨up { now := 60000000000000, ccr := { splitStopped := false }, boot := { splitSince := some 0 }, flash := [(3, { a := { state := .trial } })] }, 0, by and_intros <;> first | decide +kernel | rfl | (intros; rfl) | (intros; intro h; cases h; done) | (intros; exact ⟨rfl, rfl⟩) | (intro i h; cases h; decide)⟩

theorem witness_StartsAndResets_20 : ∃ (s : State), Up s ∧ (∀ k ∈ ([0, 1, 3, 4] : List Nat), trialKind s.dev k = false) :=
  ⟨up {}, by and_intros <;> first | decide +kernel | rfl | (intros; rfl) | (intros; intro h; cases h; done) | (intros; exact ⟨rfl, rfl⟩) | (intro i h; cases h; decide)⟩

theorem witness_StartsAndResets_21 : ∃ (s : State) (t : Nat), Up s ∧ s.dev.boot.watchdog = some t ∧ t ≤ s.dev.now :=
  ⟨up { now := 5, boot := { watchdog := some 5 } }, 5, by decide +kernel⟩

theorem witness_StartsAndResets_22 : ∃ (s : State) (t : Nat), Up s ∧ s.dev.boot.watchdog = some t ∧ s.dev.now < t :=
  ⟨up { now := 4, boot := { watchdog := some 5 } }, 5, by decide +kernel⟩

theorem witness_StartsAndResets_23 : ∃ (s : State), s.dev.ssn.pwrEn.getLsbD 0 = true :=
  ⟨st { ssn := { season := .spring, pwrEn := 1 } }, by decide +kernel⟩

theorem witness_StartsAndResets_24 : ∃ (s : State), s.dev.ssn.pwrEn.getLsbD 0 = false :=
  ⟨st { ssn := { season := .spring, pwrEn := 0 } }, by decide +kernel⟩

theorem witness_StartsAndResets_25 : ∃ (s : State), s.dev.ssn.season = .spring ∧ s.dev.ssn.pwrEn.getLsbD 0 = true ∧ s.dev.ssn.vddOk = false ∧ s.dev.ssn.pwrRose + 5000000000 ≤ s.dev.now :=
  ⟨st { now := 5000000000, ssn := { season := .spring, pwrEn := 15 } }, by decide +kernel⟩

theorem witness_StartsAndResets_26 : ∃ (s : State), (s.dev.ssn.season ≠ .spring ∨ s.dev.ssn.vddOk = true ∨ s.dev.now < s.dev.ssn.pwrRose + 5000000000) :=
  ⟨up { ssn := { vddOk := true } }, by decide +kernel⟩

theorem witness_StartsAndResets_27 : ∃ (s : State) (t : Nat), s.dev.ssn.retryAt = some t ∧ s.dev.ssn.season = .autumn ∧ t ≤ s.dev.now :=
  ⟨st { now := 5, ssn := { season := .autumn, retryAt := some 5 } }, 5, by decide +kernel⟩

theorem witness_StartsAndResets_28 : ∃ (s : State), (s.dev.ssn.retryAt = none ∨ s.dev.ssn.season ≠ .autumn) :=
  ⟨st { now := 5, ssn := { season := .spring, retryAt := some 5 } }, by decide +kernel⟩

theorem witness_StartsAndResets_29 : ∃ (s : State), s.dev.ssn.season = .winter :=
  ⟨st { ssn := { season := .winter }, keeper := { valid := true, bootCount := 4 } }, by decide +kernel⟩

theorem witness_StartsAndResets_30 : ∃ (s : State), s.dev.ssn.season ≠ .winter :=
  ⟨up {}, by decide +kernel⟩

theorem witness_RestoreAndMonitors_0 : ∃ (s : State) (ix : Nat) (pass : Bool), Up s ∧ ledgerValid ix = true ∧ (ledgerOf s.dev ix).state = .testing ∧ ix ∉ s.dev.flt.copying ∧ (pass = false ∨ (ledgerOf s.dev ix).faulted = true) ∧ s.dev.ncp.pend = [] :=
  ⟨up { flt := { ledger := [(156, { state := .testing })] } }, 156, false, by decide +kernel⟩

theorem witness_RestoreAndMonitors_1 : ∃ (s : State) (ix : Nat), Up s ∧ ledgerValid ix = true ∧ ix ≠ 32 ∧ ix ≠ 33 ∧ (ledgerOf s.dev ix).state = .testing ∧ (ledgerOf s.dev ix).faulted = false ∧ ix ∉ s.dev.flt.copying ∧ s.dev.ncp.pend = [] :=
  ⟨up { flt := { ledger := [(45, { state := .testing, times := [4] })] } }, 45, by decide +kernel⟩

theorem witness_RestoreAndMonitors_2 : ∃ (s : State), Up s ∧ (ledgerOf s.dev 147).state = .testing ∧ (ledgerOf s.dev 147).faulted = false ∧ 147 ∉ s.dev.flt.copying ∧ s.dev.ncp.pend = [] ∧ (ledgerOf s.dev 115).state = .inService :=
  ⟨up { flt := { ledger := [(147, { state := .testing })] }, ccr := { gaiStopped := true } }, by decide +kernel⟩

theorem witness_RestoreAndMonitors_3 : ∃ (s : State) (ch : Nat), Up s ∧ ch < 2 ∧ (ledgerOf s.dev (32 + ch)).state = .testing ∧ (ledgerOf s.dev (32 + ch)).faulted = false ∧ 32 + ch ∉ s.dev.flt.copying :=
  ⟨up { flt := { ledger := [(33, { state := .testing })] } }, 1, by decide +kernel⟩

theorem witness_RestoreAndMonitors_4 : ∃ (s : State) (ix : Nat), Up s ∧ ledgerValid ix = true ∧ (ledgerOf s.dev ix).state = .inService :=
  ⟨up {}, 156, by decide +kernel⟩

theorem witness_RestoreAndMonitors_5 : ∃ (s : State) (ch : Nat), Up s ∧ ch < 2 ∧ 32 + ch ∈ s.dev.flt.copying ∧ s.dev.ncp.pend = [] :=
  ⟨up { flt := { ledger := [(33, { state := .testing })], copying := [33] }, asd := { copiesIn := 1 } }, 1, by decide +kernel⟩

theorem witness_RestoreAndMonitors_6 : ∃ (s : State) (ch : Nat), Up s ∧ ch < 2 ∧ 32 + ch ∉ s.dev.flt.copying :=
  ⟨up {}, 1, by decide +kernel⟩

theorem witness_RestoreAndMonitors_7 : ∃ (s : State) (t : BitVec 16), Up s ∧ s.dev.clk.hot = false ∧ 2000 < t.toInt :=
  ⟨up {}, 2001, by decide +kernel⟩

theorem witness_RestoreAndMonitors_8 : ∃ (s : State) (t : BitVec 16), Up s ∧ 1920 ≤ t.toInt ∧ t.toInt ≤ 2000 :=
  ⟨up { clk := { hot := true } }, 1920, by decide +kernel⟩

theorem witness_RestoreAndMonitors_9 : ∃ (s : State) (t : BitVec 16), Up s ∧ t.toInt < 1920 :=
  ⟨up { clk := { hot := true } }, 1919, by decide +kernel⟩

theorem witness_RestoreAndMonitors_10 : ∃ (s : State) (ppm : BitVec 16), Up s ∧ s.dev.clk.refBad = false ∧ 1000 < ppm.toInt.natAbs :=
  ⟨up {}, 1001, by decide +kernel⟩

theorem witness_RestoreAndMonitors_11 : ∃ (s : State) (ppm : BitVec 16), Up s ∧ 50 < ppm.toInt.natAbs ∧ ppm.toInt.natAbs ≤ 1000 :=
  ⟨up {}, 51, by decide +kernel⟩

theorem witness_RestoreAndMonitors_12 : ∃ (s : State) (ppm : BitVec 16), Up s ∧ ppm.toInt.natAbs ≤ 50 :=
  ⟨up { clk := { refBad := true } }, 50, by decide +kernel⟩

theorem witness_TxtsReadAndPop_0 : ∃ (s : State) (p : Nat) (st : Stamp) (id : BitVec 16) (status : Nat) (rest : List (Stamp × BitVec 16 × Nat)), p < 25 ∧ status < 3 ∧ (portSt s.dev p).txts = (st, id, status) :: rest :=
  ⟨up { ports := [(24, { txts := [({ ts32 := 9, frac := 3, freeRun := true, step := 255 }, 7, 2), ({}, 8, 0)] })] }, 24, { ts32 := 9, frac := 3, freeRun := true, step := 255 }, 7, 2, [({}, 8, 0)], by decide +kernel⟩

theorem witness_TxtsReadAndPop_1 : ∃ (s : State) (env : ExecEnv) (p : Nat) (k : Nat), p < 25 ∧ k < 4 ∧ Passes (.regRead (0x800310 + p * 0x1000 + k * 4) 1) env s :=
  ⟨ncp { ports := [(24, { txts := [({ ts32 := 9 }, 7, 2)] })] }, {}, 24, 3, by and_intros <;> first | decide +kernel | rfl | (intros; rfl) | (intros; intro h; cases h; done) | (intros; exact ⟨rfl, rfl⟩) | (intro i h; cases h; decide)⟩

theorem witness_TxtsReadAndPop_2 : ∃ (s : State) (p : Nat) (n : Nat), BusUp s ∧ p < 25 ∧ n < 128 :=
  ⟨up { ports := [(24, { txts := [({ ts32 := 9 }, 7, 2), ({}, 8, 0)] })] }, 24, 127, by decide +kernel⟩

theorem witness_TxtsReadAndPop_3 : ∃ (s : State) (p : Nat), BusUp s ∧ p < 25 :=
  ⟨up { ports := [(24, { txts := [({ ts32 := 9 }, 7, 2)] })] }, 24, by decide +kernel⟩

theorem witness_MaskedWrites_0 : ∃ (s : State) (hi : Bool) (w : Word), BusUp s ∧ s.dev.glb.lock.getLsbD 3 = false ∧ readReg s.dev (if hi then 0x118 else 0x114) = some w :=
  ⟨up { glb := { evtHi := 0x21 } }, true, 0x21, by decide +kernel⟩

theorem witness_MaskedWrites_2 : ∃ (s : State) (hi : Bool) (v : Word) (w : Word), BusUp s ∧ s.dev.glb.lock.getLsbD 3 = false ∧ v.extractLsb' 16 16 = 0 ∧ readReg s.dev (if hi then 0x118 else 0x114) = some w :=
  ⟨up { glb := { evtLo := 0x8003 } }, false, 0x0000FFFF, 0x8002, by decide +kernel⟩

theorem witness_StatusClears_0 : ∃ (s : State) (a : Nat) (v : Word), BusUp s ∧ isStatusReg a = true ∧ v.extractLsb' 24 8 = (sqOf a s.dev).seq :=
  ⟨up { sq := [(sqGLB, { seq := 7, bits := 3 })] }, sqGLB, 0x07FFFFFF, by decide +kernel⟩

theorem witness_StatusClears_1 : ∃ (s : State) (a : Nat) (v : Word), BusUp s ∧ isStatusReg a = true ∧ v.extractLsb' 24 8 ≠ (sqOf a s.dev).seq :=
  ⟨up { sq := [(sqGLB, { seq := 7, bits := 3 })] }, sqGLB, 0x06FFFFFF, by decide +kernel⟩

theorem witness_StepTakesFront_0 : ∃ (i : Instr) (rest : List Instr) (s : State), s.pending = i :: rest :=
  ⟨.ctRevalidate, [.fragExpiry], { pending := [.ctRevalidate, .fragExpiry] }, by decide +kernel⟩

theorem witness_StepTakesFront_1 : ∃ (s : State), s.pending = [] :=
  ⟨up {}, by decide +kernel⟩

theorem witness_QueueStaysWellFormed_0 : ∃ (s : State), QueueWF s :=
  ⟨{ pending := [.ctRevalidate, .gapTimeExpiry 3] }, by and_intros <;> first | decide +kernel | rfl | (intros; rfl) | (intros; intro h; cases h; done) | (intros; exact ⟨rfl, rfl⟩) | (intro i h; cases h; decide)⟩

theorem witness_QueueStaysWellFormed_1 : ∃ (s : State), QueueWF s :=
  ⟨up {}, by and_intros <;> first | decide +kernel | rfl | (intros; rfl) | (intros; intro h; cases h; done) | (intros; exact ⟨rfl, rfl⟩) | (intro i h; cases h; decide)⟩

theorem witness_UnsuppliedInert_0 : ∃ (i : Instr) (s : State), wellFormed i = true ∧ domainUp i s.dev = false :=
  ⟨.ctRevalidate, st {}, by decide +kernel⟩

theorem witness_WinterHolds_1 : ∃ (s : State) (t : State), InWinter s.dev ∧ s.pending.head? ≠ some .vaonRise ∧ step s = .next t :=
  ⟨{ dev := { ssn := { season := .winter } }, pending := [.ctRevalidate] }, { dev := { ssn := { season := .winter } } }, by and_intros <;> first | decide +kernel | rfl | (intros; rfl) | (intros; intro h; cases h; done) | (intros; exact ⟨rfl, rfl⟩) | (intro i h; cases h; decide)⟩

theorem witness_WinterHolds_2 : ∃ (s : State) (t : State) (rest : List Instr), InWinter s.dev ∧ s.pending = .vaonRise :: rest ∧ step s = .next t :=
  ⟨{ dev := { ssn := { season := .winter } }, pending := [.vaonRise] }, { dev := { ssn := {}, boot := { coldCause := 6 } } }, [], by and_intros <;> first | decide +kernel | rfl | (intros; rfl) | (intros; intro h; cases h; done) | (intros; exact ⟨rfl, rfl⟩) | (intro i h; cases h; decide)⟩

end Sys2Proof.Tests
end

/-! TXTS_POP (04 R131, R132): what a write does to the queue of its port, and why the statement of O52 fails. -/

namespace Sys2Proof.Machine

theorem txtsPop_port (p n : Nat) (d : Device) :
    portSt (txtsPop p n d) p =
      { portSt d p with
        txts := (portSt d p).txts.drop n
        txtsFull := (portSt d p).txtsFull && decide (64 ≤ ((portSt d p).txts.drop n).length) } :=
  portSt_modPort p _ d

/-- While the register bus answers, a write of N to TXTS_POP of an Ethernet port is carried out. -/
theorem exec_txtsPop_busUp {s : State} {p n : Nat} (hbus : BusUp s) (hp : p < 25) (hn : n < 128) :
    exec (.txtsPop p n) s = .next { s with dev := txtsPop p n s.dev } := by
  obtain ⟨hpow, hreset⟩ := hbus
  calc exec (.txtsPop p n) s
      = run (decide (p < 25) && decide (n < 128)) s (onBus (txtsPop p n)) := rfl
    _ = .next { s with dev := txtsPop p n s.dev } := by simp [hp, hn, onBus_up hpow hreset]

/-- A pop that releases an entry brings the queue below 64 entries, so the next loss is a first loss again (R131). -/
theorem txtsPop_rearms_overflow {p n : Nat} {d : Device} (hn : 0 < n) (hlen : (portSt d p).txts.length ≤ 64) :
    (portSt (txtsPop p n d) p).txtsFull = false := by
  have hbelow : ¬ 64 ≤ ((portSt d p).txts.drop n).length := by
    rw [List.length_drop]
    omega
  rw [txtsPop_port]
  simp only [hbelow, decide_false, Bool.and_false]

/-- From a queue that has lost an entry, a pop that releases one does not leave the port as it was but for its entries. -/
theorem txtsPop_changes_more_than_entries {s : State} {p n : Nat} (hbus : BusUp s) (hp : p < 25) (hn : n < 128) (hpos : 0 < n)
    (hlen : (portSt s.dev p).txts.length ≤ 64) (hfull : (portSt s.dev p).txtsFull = true) :
    ¬ Reaches (.txtsPop p n) s (fun d => portSt d p = { portSt s.dev p with txts := (portSt d p).txts }) := by
  rintro ⟨d, hexec, hkept⟩
  rw [exec_txtsPop_busUp hbus hp hn] at hexec
  have hd : txtsPop p n s.dev = d := by simpa using hexec
  have hstill : (portSt d p).txtsFull = (portSt s.dev p).txtsFull := by rw [hkept]
  rw [← hd, txtsPop_rearms_overflow hpos hlen, hfull] at hstill
  cases hstill

/-- In Summer, port 0 holds 64 transmit timestamps, as many as its queue takes (R131). -/
def fullTxtsDevice : Device :=
  { ssn := { season := .summer }, ports := [(0, { txts := List.replicate 64 ({}, 0, 0) })] }

/-- One more timestamp comes to the full queue and is lost. -/
def overflowedTxts : State := { dev := pushTxts 0 {} 0 0 fullTxtsDevice }

theorem overflowedTxts_busUp : BusUp overflowedTxts := by decide

theorem overflowedTxts_port :
    portSt overflowedTxts.dev 0 = { txts := List.replicate 64 ({}, 0, 0), txtsLost := 1, txtsFull := true } := by decide

/-- Refutes O52: port 0 holds 64 entries and has lost one. A write of 1 to TXTS_POP brings the queue below 64 entries, and the model then
forgets the loss (`txtsFull`), as R131 asks for the report of the next first loss; but the third clause has every part of the port
other than its entries stay as it was. -/
theorem not_txtsReadAndPop : ¬ Obligations.TxtsReadAndPop := by
  unfold Obligations.TxtsReadAndPop
  rintro ⟨-, -, hpop, -⟩
  obtain ⟨d, hexec, -, -, hkept, -⟩ := hpop overflowedTxts 0 1 overflowedTxts_busUp (by decide) (by decide)
  have hlen : (portSt overflowedTxts.dev 0).txts.length ≤ 64 := by simp [overflowedTxts_port]
  have hfull : (portSt overflowedTxts.dev 0).txtsFull = true := by rw [overflowedTxts_port]
  exact txtsPop_changes_more_than_entries overflowedTxts_busUp (by decide) (by decide) (by decide) hlen hfull ⟨d, hexec, hkept⟩

end Sys2Proof.Machine

/-! EVT_EN_WRITE (18 R516): the two registers of type MK, what a masked write leaves in them, and that it changes nothing else. -/

namespace Sys2Proof.Machine

/-- What EVT_EN_HI (true) or EVT_EN_LO holds (18 Table REG-4). -/
def evtEnWord (hi : Bool) (d : Device) : Word := if hi then d.glb.evtHi.setWidth 32 else (d.glb.evtLo &&& 0xFFFE).setWidth 32

@[simp] theorem evtEnWord_true (d : Device) : evtEnWord true d = d.glb.evtHi.setWidth 32 := rfl

@[simp] theorem evtEnWord_false (d : Device) : evtEnWord false d = (d.glb.evtLo &&& 0xFFFE).setWidth 32 := rfl

theorem readReg_evtEnLo (d : Device) : readReg d 0x114 = some (evtEnWord false d) := rfl

theorem readReg_evtEnHi (d : Device) : readReg d 0x118 = some (evtEnWord true d) := rfl

theorem readReg_evtEn (hi : Bool) (d : Device) : readReg d (if hi then 0x118 else 0x114) = some (evtEnWord hi d) := by
  cases hi
  · exact readReg_evtEnLo d
  · exact readReg_evtEnHi d

/-- The register of type MK that a write to the other one does not name. -/
theorem readReg_otherEvtEn (hi : Bool) (d : Device) : readReg d (if hi then 0x114 else 0x118) = some (evtEnWord (!hi) d) := by
  cases hi
  · exact readReg_evtEnHi d
  · exact readReg_evtEnLo d

theorem getLsbD_evtEnWord_of_ge (hi : Bool) (d : Device) {n : Nat} (hn : 16 ≤ n) : (evtEnWord hi d).getLsbD n = false := by
  cases hi with
  | false => rw [evtEnWord_false, BitVec.getLsbD_setWidth, BitVec.getLsbD_of_ge _ n hn, Bool.and_false]
  | true => rw [evtEnWord_true, BitVec.getLsbD_setWidth, BitVec.getLsbD_of_ge _ n (by omega), Bool.and_false]

theorem extractLsb'_evtEnWord (hi : Bool) (d : Device) : (evtEnWord hi d).extractLsb' 16 16 = 0 := by
  ext n hn
  simp [getLsbD_evtEnWord_of_ge hi d (Nat.le_add_right 16 n)]

theorem getLsbD_maskedBits (old : BitVec 16) (v : Word) {n : Nat} (hn : n < 16) :
    (maskedBits old v).getLsbD n = if v.getLsbD (n + 16) then v.getLsbD n else old.getLsbD n := by
  cases hbit : v.getLsbD (n + 16) <;> simp [maskedBits, hn, Nat.add_comm 16 n, hbit]

theorem maskedBits_of_mask_zero (old : BitVec 16) {v : Word} (hmask : v.extractLsb' 16 16 = 0) : maskedBits old v = old := by
  simp only [maskedBits, hmask, BitVec.ofNat_eq_ofNat, BitVec.not_zero, BitVec.and_allOnes, BitVec.and_zero, BitVec.or_zero]

/-- Bit 0 of EVT_EN_LO, which belongs to no event, reads 0; the others read as stored. -/
theorem getLsbD_evtLo_held (x : BitVec 16) {n : Nat} (hpos : 1 ≤ n) (hn : n < 16) : (x &&& 0xFFFE).getLsbD n = x.getLsbD n := by
  have hheld : ∀ m, m < 16 → 1 ≤ m → (0xFFFE : BitVec 16).getLsbD m = true := by decide
  rw [BitVec.getLsbD_and, hheld n hn hpos, Bool.and_true]

theorem evtEnWrite_hi_unlocked {d : Device} (v : Word) (hlock : d.glb.lock.getLsbD 3 = false) :
    evtEnWrite true v d = { d with glb := { d.glb with evtHi := (maskedBits (d.glb.evtHi.setWidth 16) v).setWidth 6 } } := by
  simp only [evtEnWrite, hlock, Bool.false_eq_true, if_false, if_true]

theorem evtEnWrite_lo_unlocked {d : Device} (v : Word) (hlock : d.glb.lock.getLsbD 3 = false) :
    evtEnWrite false v d = { d with glb := { d.glb with evtLo := maskedBits d.glb.evtLo v &&& 0xFFFE } } := by
  simp only [evtEnWrite, hlock, Bool.false_eq_true, if_false]

/-- A masked write changes the two fields of the event enables at most. -/
theorem evtEnWrite_frame (hi : Bool) (v : Word) {d : Device} (hlock : d.glb.lock.getLsbD 3 = false) :
    evtEnWrite hi v d =
      { d with glb := { d.glb with evtLo := (evtEnWrite hi v d).glb.evtLo, evtHi := (evtEnWrite hi v d).glb.evtHi } } := by
  cases hi with
  | false => rw [evtEnWrite_lo_unlocked v hlock]
  | true => rw [evtEnWrite_hi_unlocked v hlock]

theorem evtEnWord_evtEnWrite_other (hi : Bool) (v : Word) {d : Device} (hlock : d.glb.lock.getLsbD 3 = false) :
    evtEnWord (!hi) (evtEnWrite hi v d) = evtEnWord (!hi) d := by
  cases hi with
  | false => rw [evtEnWrite_lo_unlocked v hlock]; rfl
  | true => rw [evtEnWrite_hi_unlocked v hlock]; rfl

/-- R516 bit by bit, for the bits that each register holds. -/
theorem getLsbD_evtEnWord_evtEnWrite (hi : Bool) (v : Word) {d : Device} {n : Nat} (hlock : d.glb.lock.getLsbD 3 = false)
    (hn : if hi then n < 6 else 1 ≤ n ∧ n < 16) :
    (evtEnWord hi (evtEnWrite hi v d)).getLsbD n = if v.getLsbD (n + 16) then v.getLsbD n else (evtEnWord hi d).getLsbD n := by
  cases hi with
  | false =>
    obtain ⟨hpos, hlt⟩ : 1 ≤ n ∧ n < 16 := hn
    have hwide : n < 32 := by omega
    simp only [evtEnWrite_lo_unlocked v hlock, evtEnWord_false, BitVec.getLsbD_setWidth, hwide, decide_true, Bool.true_and,
      getLsbD_evtLo_held _ hpos hlt, getLsbD_maskedBits _ v hlt]
  | true =>
    have hlt : n < 6 := hn
    have hmid : n < 16 := by omega
    have hwide : n < 32 := by omega
    simp only [evtEnWrite_hi_unlocked v hlock, evtEnWord_true, BitVec.getLsbD_setWidth, hlt, hmid, hwide, decide_true, Bool.true_and,
      getLsbD_maskedBits _ v hmid]

theorem evtEnWord_evtEnWrite_of_mask_zero (hi : Bool) {v : Word} {d : Device} (hlock : d.glb.lock.getLsbD 3 = false)
    (hmask : v.extractLsb' 16 16 = 0) : evtEnWord hi (evtEnWrite hi v d) = evtEnWord hi d := by
  cases hi with
  | false =>
    simp only [evtEnWrite_lo_unlocked v hlock, evtEnWord_false, maskedBits_of_mask_zero _ hmask, BitVec.and_assoc, BitVec.and_self]
  | true => simp [evtEnWrite_hi_unlocked v hlock, maskedBits_of_mask_zero _ hmask]

/-- While the register bus answers, EVT_EN_WRITE is carried out. -/
theorem exec_evtEnWrite_busUp {s : State} (hi : Bool) (v : Word) (hbus : BusUp s) :
    exec (.evtEnWrite hi v) s = .next { s with dev := evtEnWrite hi v s.dev } := by
  obtain ⟨hpow, hreset⟩ := hbus
  calc exec (.evtEnWrite hi v) s
      = run true s (onBus (evtEnWrite hi v)) := rfl
    _ = .next { s with dev := evtEnWrite hi v s.dev } := by rw [run_true, onBus_up hpow hreset]

/-- Settles O53: each register reads as `evtEnWord`, whose bits after an unlocked write are those of the masked word. -/
theorem maskedWrites : Obligations.MaskedWrites := by
  unfold Obligations.MaskedWrites
  refine ⟨?_, ?_, ?_⟩
  · intro s hi v w hbus hlock hread
    obtain rfl : evtEnWord hi s.dev = w := Option.some.inj ((readReg_evtEn hi s.dev).symm.trans hread)
    refine ⟨_, exec_evtEnWrite_busUp hi v hbus, ⟨_, readReg_evtEn hi _, ?_, ?_⟩, ?_, evtEnWrite_frame hi v hlock⟩
    · exact fun n hn => getLsbD_evtEnWord_evtEnWrite hi v hlock hn
    · exact fun n hn => getLsbD_evtEnWord_of_ge hi _ hn
    · rw [readReg_otherEvtEn, readReg_otherEvtEn, evtEnWord_evtEnWrite_other hi v hlock]
  · intro s
    simp only [readReg_evtEnLo, readReg_evtEnHi, Option.map_some, extractLsb'_evtEnWord, and_self]
  · intro s hi v w hbus hlock hmask hread
    have hframe := evtEnWrite_frame hi v hlock
    refine ⟨_, exec_evtEnWrite_busUp hi v hbus, ?_, ?_, hframe⟩
    · rw [readReg_evtEn, evtEnWord_evtEnWrite_of_mask_zero hi hlock hmask, ← readReg_evtEn, hread]
    · rw [hframe]

end Sys2Proof.Machine

/-! STATUS_CLEAR (18 R520): a clearing write acts only under the current SEQ, and then only on the SQ bits of its register. -/

namespace Sys2Proof.Machine

theorem clearSq_of_seq_eq {a : Nat} {v : Word} {d : Device} (hseq : v.extractLsb' 24 8 = (sqOf a d).seq) :
    clearSq a v d = { d with sq := insertAt d.sq a { sqOf a d with bits := 0 } } := by
  simp [clearSq, hseq]

theorem clearSq_of_seq_ne {a : Nat} {v : Word} {d : Device} (hseq : v.extractLsb' 24 8 ≠ (sqOf a d).seq) : clearSq a v d = d := by
  simp [clearSq, hseq]

theorem sqOf_clearSq_of_seq_eq {a : Nat} {v : Word} {d : Device} (hseq : v.extractLsb' 24 8 = (sqOf a d).seq) :
    sqOf a (clearSq a v d) = { sqOf a d with bits := 0 } := by
  rw [clearSq_of_seq_eq hseq]
  exact lookupD_insertAt_self d.sq a _ _

/-- A clearing write reaches no other status register, whatever its SEQ. -/
theorem sqOf_clearSq_ne {a b : Nat} (v : Word) (d : Device) (hne : b ≠ a) : sqOf b (clearSq a v d) = sqOf b d := by
  by_cases hseq : v.extractLsb' 24 8 = (sqOf a d).seq
  · rw [clearSq_of_seq_eq hseq]
    exact lookupD_insertAt_ne d.sq _ _ hne
  · rw [clearSq_of_seq_ne hseq]

/-- While the register bus answers, STATUS_CLEAR of a status register is a clearing write to it. -/
theorem exec_statusClear_busUp {s : State} {a : Nat} (v : Word) (hbus : BusUp s) (hreg : isStatusReg a = true) :
    exec (.statusClear a v) s = .next { s with dev := clearSq a v s.dev } := by
  obtain ⟨hpow, hreset⟩ := hbus
  calc exec (.statusClear a v) s
      = run (isStatusReg a) s (onBus (statusClear a v)) := rfl
    _ = .next { s with dev := clearSq a v s.dev } := by rw [hreg, run_true, onBus_up hpow hreset, statusClear, if_pos hreg]

/-- Settles O54, by the two cases of `clearSq`. -/
theorem statusClears : Obligations.StatusClears := by
  unfold Obligations.StatusClears
  refine ⟨?_, ?_⟩
  · intro s a v hbus hreg hseq
    have hself := sqOf_clearSq_of_seq_eq hseq
    refine ⟨_, exec_statusClear_busUp v hbus hreg, ?_, ?_, fun b hne => sqOf_clearSq_ne v s.dev hne, ?_⟩
    · rw [hself]
    · rw [hself]
    · rw [clearSq_of_seq_eq hseq]
  · intro s a v hbus hreg hseq
    rw [Gives, exec_statusClear_busUp v hbus hreg, clearSq_of_seq_ne hseq]

end Sys2Proof.Machine
